-- ==== Sys2Proof/Word.lean ====
section
/-! DEFINITION. The widths the manual uses, and the plainest reading and writing of a bit range (00 R8, R9). -/

namespace Sys2Proof

/-- A byte of a structure in memory (R9). -/
abbrev Byte := BitVec 8
/-- A register word (R14). -/
abbrev W32 := BitVec 32
/-- A well, a word of a basin, an operand of a bank operation (R72, R218). -/
abbrev W64 := BitVec 64
/-- A word of CST memory (R57) or a flit of the control network (R80). -/
abbrev W128 := BitVec 128
/-- A cistern number (R56). -/
abbrev Cnum := BitVec 24
/-- A payload of 16 lanes of 32 bits (R159). -/
abbrev Payload := BitVec 512

/-- Bits `[hi:lo]` of a number, both ends included (R8). -/
def bits (w hi lo : Nat) : Nat := (w >>> lo) % 2 ^ (hi - lo + 1)

/-- `w` with bits `[hi:lo]` replaced by `v`, taken modulo the width of the range. -/
def setBits (w hi lo v : Nat) : Nat :=
  w - (bits w hi lo) <<< lo + (v % 2 ^ (hi - lo + 1)) <<< lo

/-- A Bool as the bit the manual stores. -/
def bit (b : Bool) : Nat := if b then 1 else 0

end Sys2Proof
end

