-- ==== Sys2Proof/Machine/RegMap.lean ====
section
/-! DEFINITION. The register map of chapter 15: the offset of every register by name, the types and reset words of
its fields (R10, R441, R442), and which indices each build has (R6, R447). -/

namespace Sys2Proof.Machine

/-! Offsets. A pair's name stands for its _LO word; its _HI word is 4 above (R15). -/

namespace R

/-! Single registers -/

def pfmId : Nat := 0x0
def pfmBuild : Nat := 0x4
def pfmGrade : Nat := 0x8
def pfmCfgId : Nat := 0xc
def pfmState : Nat := 0x10
def pfmGauTag : Nat := 0x100
def pfmGauMark : Nat := 0x104
def pfmGauCfgw : Nat := 0x108
def pfmGauStatus : Nat := 0x110
def pfmPriv : Nat := 0x114
def pfmPwrCtrl : Nat := 0x1000
def pfmPwrGuard : Nat := 0x1004
def pfmPwrWake1 : Nat := 0x1008
def pfmPwrWake2 : Nat := 0x100c
def pfmPwrWake3 : Nat := 0x1010
def pfmPwrStatus : Nat := 0x1014
def pfmClkStatus : Nat := 0x1030
def pfmRst : Nat := 0x1040
def pfmRstStatus : Nat := 0x1044
def pfmScrubPeriod : Nat := 0x1050
def pfmScrubStatus : Nat := 0x1054
def pfmCfgStatus : Nat := 0x2000
def pfmCfgCtrl : Nat := 0x2004
def pfmCfgDiv : Nat := 0x2008
def hgCtrl : Nat := 0x30000
def hgStatus : Nat := 0x30004
def hgTickLen : Nat := 0x30008
def hgTickFrac : Nat := 0x30010
def hgSlots : Nat := 0x30014
def hgMinSlot : Nat := 0x30018
def hgEpoch : Nat := 0x3001c
def hgTickno : Nat := 0x30024
def hgSlotno : Nat := 0x3002c
def raeCtrl : Nat := 0x30040
def raeStatus : Nat := 0x30044
def hgRelStatus : Nat := 0x30048
def hgUndStatus : Nat := 0x3004c
def hgUndOvfCnt : Nat := 0x30050
def hgCredClr : Nat := 0x31200
def hgCredStatus : Nat := 0x31208
def spStatus : Nat := 0x40000
def spNbCnt : Nat := 0x40004
def spFdropCnt : Nat := 0x40008
def spPdiscCnt : Nat := 0x4000c
def spPbdOvfCnt : Nat := 0x40010
def spRedStatus : Nat := 0x50000
def spRmodeMissCnt : Nat := 0x50004
def spRchainDiscCnt : Nat := 0x50008
def spRlateDiscCnt : Nat := 0x5000c
def welStatus : Nat := 0x64000
def welRto : Nat := 0x64004
def welSweepCnt : Nat := 0x64008
def welForceCnt : Nat := 0x6400c
def welRtoCnt : Nat := 0x64010
def welBusyCnt : Nat := 0x64014
def culChipid : Nat := 0x76000
def culFabcfg : Nat := 0x76004
def culTcfg : Nat := 0x76008
def culMcfg : Nat := 0x7600c
def culEpoch : Nat := 0x76010
def culMstatus : Nat := 0x76014
def culJoin : Nat := 0x76018
def culFrelMissCnt : Nat := 0x7601c
def culFwdRefCnt : Nat := 0x76020
def culEpdropCnt : Nat := 0x76024
def culFexcCnt : Nat := 0x76028
def culSnapCfg : Nat := 0x7602c
def pmpCtrl : Nat := 0x84000
def pmpStatus : Nat := 0x84004
def pmpErrAddr : Nat := 0x84008
def pmpErrInfo : Nat := 0x84010
def pmpErrCnt : Nat := 0x84014
def obsTb : Nat := 0xa0000
def obsTbInc : Nat := 0xa0008
def obsTbStatus : Nat := 0xa000c
def obsTbSet : Nat := 0xa0010
def obsTbmode : Nat := 0xa0018
def obsStatus : Nat := 0xa001c
def obsSample : Nat := 0xa0020
def obsAoCfg : Nat := 0xa0024
def obsHmask : Nat := 0xa0028
def obsHcmd : Nat := 0xa002c
def obsHalted : Nat := 0xa0030
def obsStopTick : Nat := 0xa0034
def obsDumpStatus : Nat := 0xa003c
def obsAoCorr : Nat := 0xa0080
def obsAoUncorr : Nat := 0xa0084
def obsAoRetry : Nat := 0xa0088
def obsAoLate : Nat := 0xa008c
def obsAoOvr : Nat := 0xa0090
def obsAoFault : Nat := 0xa0094
def obsAoLost : Nat := 0xa0098
def gauId : Nat := 0xc0000
def gauVer : Nat := 0xc0004
def gauStatus : Nat := 0xc0008
def gauSealCnt : Nat := 0xc000c
def gauPeriod : Nat := 0xc0010
def gauLogCfg : Nat := 0xc0014
def gauSeq : Nat := 0xc0018
def gauHeadCrc : Nat := 0xc0020
def gauGtime : Nat := 0xc0028

/-! Residence counters of R424 -/

def pfmPwrRes (k : Nat) : Nat := 0x1014 + 4 * k

/-! Staging words of R425 -/

def pfmCfgStage (i : Nat) : Nat := 0x2100 + i * 0x4

/-! Good-tap map of R425 -/

def pfmCfgMap (i : Nat) : Nat := 0x2400 + i * 0x4

/-! Partition entries of R317 and R98 -/

def pfmPctrl (i : Nat) : Nat := 0x10000 + i * 0x100
def pfmPstate (i : Nat) : Nat := 0x10004 + i * 0x100
def pfmPat (i : Nat) : Nat := 0x10008 + i * 0x100
def pfmPqto (i : Nat) : Nat := 0x10010 + i * 0x100
def pfmPtapr (p k : Nat) : Nat := 0x10014 + p * 0x100 + 4 * k
def pfmPpump (i : Nat) : Nat := 0x10034 + i * 0x100
def pfmPdmemBase (i : Nat) : Nat := 0x1003c + i * 0x100
def pfmPdmemLim (i : Nat) : Nat := 0x10044 + i * 0x100
def pfmPfltAddr (i : Nat) : Nat := 0x1004c + i * 0x100
def pfmPfltCfg (i : Nat) : Nat := 0x10054 + i * 0x100
def pfmPfltProd (i : Nat) : Nat := 0x10058 + i * 0x100
def pfmPfltCons (i : Nat) : Nat := 0x1005c + i * 0x100
def pfmPfltDrop (i : Nat) : Nat := 0x10060 + i * 0x100
def pfmPcfglkCnt (i : Nat) : Nat := 0x10064 + i * 0x100
def pfmPallocStatus (i : Nat) : Nat := 0x10068 + i * 0x100
def pfmPcstRes (i : Nat) : Nat := 0x10080 + i * 0x100
def pfmPcstFrame (i : Nat) : Nat := 0x10084 + i * 0x100
def pfmPspillAddr (i : Nat) : Nat := 0x10088 + i * 0x100
def pfmPspillFirst (i : Nat) : Nat := 0x10090 + i * 0x100
def pfmPspillNum (i : Nat) : Nat := 0x10094 + i * 0x100
def pfmPbasin (i : Nat) : Nat := 0x10098 + i * 0x100
def pfmPrldir (i : Nat) : Nat := 0x1009c + i * 0x100
def pfmPrlbody (i : Nat) : Nat := 0x100a0 + i * 0x100
def pfmPspillTo (i : Nat) : Nat := 0x100a4 + i * 0x100
def pfmPcstStatus (i : Nat) : Nat := 0x100a8 + i * 0x100

/-! Function entries of R318 -/

def pfmFcfg (i : Nat) : Nat := 0x20000 + i * 0x40
def pfmFwait (i : Nat) : Nat := 0x20004 + i * 0x40
def pfmFstate (i : Nat) : Nat := 0x20008 + i * 0x40
def pfmFcmdCnt (i : Nat) : Nat := 0x2000c + i * 0x40

/-! Overrun entries of R55 -/

def hgPovrCfg (i : Nat) : Nat := 0x30100 + i * 0x20
def hgPclose (i : Nat) : Nat := 0x30104 + i * 0x20
def hgPshift (i : Nat) : Nat := 0x30108 + i * 0x20
def hgPovrCnt (i : Nat) : Nat := 0x3010c + i * 0x20
def hgPstretchSum (i : Nat) : Nat := 0x30110 + i * 0x20
def hgPlastOvr (i : Nat) : Nat := 0x30114 + i * 0x20

/-! Schedule entries of R130 -/

def hgPschedStatus (i : Nat) : Nat := 0x30800 + i * 0x40
def hgPchan (i : Nat) : Nat := 0x30804 + i * 0x40
def hgPstage (i : Nat) : Nat := 0x30808 + i * 0x40
def hgPsbSize (i : Nat) : Nat := 0x3080c + i * 0x40
def hgPsbAddr (i : Nat) : Nat := 0x30810 + i * 0x40
def hgPsbProd (i : Nat) : Nat := 0x30818 + i * 0x40
def hgPsbCons (i : Nat) : Nat := 0x3081c + i * 0x40
def hgPsbDrop (i : Nat) : Nat := 0x30820 + i * 0x40
def hgPtblBase (i : Nat) : Nat := 0x30824 + i * 0x40
def hgPtblInfo (i : Nat) : Nat := 0x3082c + i * 0x40
def hgPtblN0 (i : Nat) : Nat := 0x30830 + i * 0x40
def hgPlateCnt (i : Nat) : Nat := 0x30838 + i * 0x40

/-! Credit windows of R216 -/

def hgPcredFirst (i : Nat) : Nat := 0x31000 + i * 0x10
def hgPcredUnits (i : Nat) : Nat := 0x31004 + i * 0x10
def hgPcredStatus (i : Nat) : Nat := 0x31008 + i * 0x10
def hgPcredRxsCnt (i : Nat) : Nat := 0x3100c + i * 0x10

/-! Tap fences of R156 -/

def spFence (i : Nat) : Nat := 0x40100 + i * 0x4

/-! Pair status of R156 -/

def spPair (i : Nat) : Nat := 0x40400 + i * 0x4

/-! Delay registers of R157 -/

def spPbd0 (i : Nat) : Nat := 0x48000 + i * 0x8
def spPbd1 (i : Nat) : Nat := 0x48004 + i * 0x8

/-! Basin modes of R190 -/

def spBmode (i : Nat) : Nat := 0x51000 + i * 0x4

/-! Well groups of R242 -/

def welGacq (i : Nat) : Nat := 0x60000 + i * 0x10
def welGrd (i : Nat) : Nat := 0x60004 + i * 0x10
def welGcfg (i : Nat) : Nat := 0x60008 + i * 0x10
def welGstat (i : Nat) : Nat := 0x6000c + i * 0x10

/-! Culvert ports of R279 -/

def culPcfg (i : Nat) : Nat := 0x70000 + i * 0x1000
def culPstatus (i : Nat) : Nat := 0x70004 + i * 0x1000
def culPasym (i : Nat) : Nat := 0x70008 + i * 0x1000
def culPrtt (i : Nat) : Nat := 0x7000c + i * 0x1000
def culPcorrCnt (i : Nat) : Nat := 0x70010 + i * 0x1000
def culPretryCnt (i : Nat) : Nat := 0x70014 + i * 0x1000
def culPmarkCnt (i : Nat) : Nat := 0x70018 + i * 0x1000
def culPdropCnt (i : Nat) : Nat := 0x7001c + i * 0x1000

/-! Missing trays of R280 -/

def culMiss (i : Nat) : Nat := 0x76040 + i * 0x4

/-! Span masks of R281 -/

def culPspan (p w : Nat) : Nat := 0x76100 + p * 0x20 + 4 * w

/-! Snapshot entries of R281 -/

def culPepoch (i : Nat) : Nat := 0x76500 + i * 0x20
def culPsnapAddr (i : Nat) : Nat := 0x76504 + i * 0x20
def culPsnapSize (i : Nat) : Nat := 0x7650c + i * 0x20
def culPsnapCtrl (i : Nat) : Nat := 0x76510 + i * 0x20
def culPsnapStatus (i : Nat) : Nat := 0x76514 + i * 0x20
def culPsnapTick (i : Nat) : Nat := 0x76518 + i * 0x20

/-! Proxy windows of R281 -/

def culPx (p i : Nat) : Nat := 0x76900 + p * 0x20 + 8 * i

/-! Fabric channels of R282 -/

def culFchCfg (i : Nat) : Nat := 0x77000 + i * 0x10
def culFchUp (i : Nat) : Nat := 0x77004 + i * 0x10
def culFchDn (i : Nat) : Nat := 0x77008 + i * 0x10
def culFchStat (i : Nat) : Nat := 0x7700c + i * 0x10

/-! Remote release entries of R283 -/

def culRrtSrc (i : Nat) : Nat := 0x78000 + i * 0x10
def culRrtDst (i : Nat) : Nat := 0x78004 + i * 0x10
def culRrtChip (i : Nat) : Nat := 0x78008 + i * 0x10

/-! Pump channels of R345 -/

def pmpCcfg (i : Nat) : Nat := 0x80000 + i * 0x100
def pmpCshare (i : Nat) : Nat := 0x80004 + i * 0x100
def pmpChead (i : Nat) : Nat := 0x80008 + i * 0x100
def pmpCcur (i : Nat) : Nat := 0x80010 + i * 0x100
def pmpCcnt (i : Nat) : Nat := 0x80018 + i * 0x100
def pmpCcmd (i : Nat) : Nat := 0x8001c + i * 0x100
def pmpCstatus (i : Nat) : Nat := 0x80020 + i * 0x100
def pmpCdoneCnt (i : Nat) : Nat := 0x80024 + i * 0x100

/-! Tap clock regions of R376 -/

def obsTclk (i : Nat) : Nat := 0xa0040 + i * 0x4

/-! Halt sets of R376 -/

def obsPbrk (i : Nat) : Nat := 0xa0200 + i * 0x4

/-! Sumps of R376 -/

def obsScfg (i : Nat) : Nat := 0xa0400 + i * 0x20
def obsSring (i : Nat) : Nat := 0xa0404 + i * 0x20
def obsSrsize (i : Nat) : Nat := 0xa040c + i * 0x20
def obsSprod (i : Nat) : Nat := 0xa0410 + i * 0x20
def obsScons (i : Nat) : Nat := 0xa0414 + i * 0x20
def obsSlostCnt (i : Nat) : Nat := 0xa0418 + i * 0x20
def obsSstatus (i : Nat) : Nat := 0xa041c + i * 0x20

/-! Trace filters of R376 -/

def obsTfcfg (i : Nat) : Nat := 0xa0800 + i * 0x20
def obsTfevt (i : Nat) : Nat := 0xa0804 + i * 0x20
def obsTflayer (i : Nat) : Nat := 0xa0808 + i * 0x20
def obsTfoper (i : Nat) : Nat := 0xa080c + i * 0x20
def obsTftap (i : Nat) : Nat := 0xa0810 + i * 0x20
def obsTfcval (i : Nat) : Nat := 0xa0814 + i * 0x20
def obsTfcmask (i : Nat) : Nat := 0xa0818 + i * 0x20

/-! Global counters of R376 -/

def obsGsel (i : Nat) : Nat := 0xa1000 + i * 0x10
def obsGval (i : Nat) : Nat := 0xa1004 + i * 0x10

/-! Partition counters of R376 -/

def obsPsel (p i : Nat) : Nat := 0xa4000 + p * 0x400 + 16 * i
def obsPval (p i : Nat) : Nat := 0xa4004 + p * 0x400 + 16 * i

/-! Gauge sets of R396 -/

def gauStag (i : Nat) : Nat := 0xc1000 + i * 0x40
def gauSticks (i : Nat) : Nat := 0xc1008 + i * 0x40
def gauSops (i : Nat) : Nat := 0xc1010 + i * 0x40
def gauSlanes (i : Nat) : Nat := 0xc1018 + i * 0x40
def gauScbytes (i : Nat) : Nat := 0xc1020 + i * 0x40
def gauSpbytes (i : Nat) : Nat := 0xc1028 + i * 0x40

/-! Setup pages of R319, R347 and R377 -/

def dqDbAddr (i : Nat) : Nat := 0x100000 + i * 0x1000
def dqCmdBase (i : Nat) : Nat := 0x100008 + i * 0x1000
def dqCplBase (i : Nat) : Nat := 0x100010 + i * 0x1000
def dqRingSize (i : Nat) : Nat := 0x100018 + i * 0x1000
def dqCtrl (i : Nat) : Nat := 0x10001c + i * 0x1000
def dqStatus (i : Nat) : Nat := 0x100020 + i * 0x1000
def dqCmdIdx (i : Nat) : Nat := 0x100024 + i * 0x1000
def dqCplIdx (i : Nat) : Nat := 0x100028 + i * 0x1000
def dqVmask (i : Nat) : Nat := 0x10002c + i * 0x1000
def dqVpend (i : Nat) : Nat := 0x100030 + i * 0x1000
def dqHoldoff (i : Nat) : Nat := 0x100034 + i * 0x1000
def dqWaits (i : Nat) : Nat := 0x100038 + i * 0x1000
def dqKick (i : Nat) : Nat := 0x100100 + i * 0x1000
def pmpFsel (i : Nat) : Nat := 0x100200 + i * 0x1000
def pmpFcmd (i : Nat) : Nat := 0x100204 + i * 0x1000
def pmpFhead (i : Nat) : Nat := 0x100208 + i * 0x1000
def pmpFview (i : Nat) : Nat := 0x100210 + i * 0x1000
def pmpFcnt (i : Nat) : Nat := 0x100214 + i * 0x1000
def pmpFcur (i : Nat) : Nat := 0x100218 + i * 0x1000
def obsFcsel (i : Nat) : Nat := 0x100300 + i * 0x1000
def obsFcevt (i : Nat) : Nat := 0x100304 + i * 0x1000
def obsFcval (i : Nat) : Nat := 0x100308 + i * 0x1000
def obsFssel (i : Nat) : Nat := 0x100310 + i * 0x1000
def obsFsprod (i : Nat) : Nat := 0x100314 + i * 0x1000
def obsFscons (i : Nat) : Nat := 0x100318 + i * 0x1000

end R

/-- What a word is in a register pair (R15): a word of no pair, the _LO word, or the _HI word. -/
inductive PairWord where
  | single
  | lo
  | hi
  deriving DecidableEq, Repr

/-- The field types of a register word, as masks (R10), and its reset word (R442). Bits in no mask are RO, WO or
RSV: a write does not store them. -/
structure Desc where
  name : String
  rw : Nat
  w1c : Nat
  w1s : Nat
  reset : Nat
  pair : PairWord
  deriving DecidableEq, Repr

/-- A group of registers that repeats: instance `i` starts at `base + i * stride`. -/
structure Region where
  base : Nat
  stride : Nat
  countF : Nat
  countC : Nat
  rows : List (Nat × Desc)
  deriving DecidableEq, Repr

/-- Single registers, part 1. -/
def rowsMain1 : List (Nat × Desc) := [
  (0x0, ⟨"PFM_ID", 0x0, 0x0, 0x0, 0xd170100, .single⟩),
  (0x4, ⟨"PFM_BUILD", 0x0, 0x0, 0x0, 0x10000, .single⟩),
  (0x8, ⟨"PFM_GRADE", 0x0, 0x0, 0x0, 0x0, .single⟩),
  (0xc, ⟨"PFM_CFG_ID", 0x0, 0x0, 0x0, 0x0, .single⟩),
  (0x10, ⟨"PFM_STATE", 0x0, 0x0, 0x0, 0x0, .single⟩),
  (0x100, ⟨"PFM_GAU_TAG", 0xffffffff, 0x0, 0x0, 0x0, .single⟩),
  (0x104, ⟨"PFM_GAU_MARK", 0x0, 0x0, 0x0, 0x0, .single⟩),
  (0x108, ⟨"PFM_GAU_CFGW_LO", 0x0, 0x0, 0x0, 0x0, .lo⟩),
  (0x10c, ⟨"PFM_GAU_CFGW_HI", 0x0, 0x0, 0x0, 0x0, .hi⟩),
  (0x110, ⟨"PFM_GAU_STATUS", 0x0, 0x4e, 0x0, 0x0, .single⟩),
  (0x114, ⟨"PFM_PRIV", 0x0, 0x0, 0x0, 0x0, .single⟩),
  (0x1000, ⟨"PFM_PWR_CTRL", 0x3, 0x0, 0x0, 0x3, .single⟩)]

/-- Single registers, part 2. -/
def rowsMain2 : List (Nat × Desc) := [
  (0x1004, ⟨"PFM_PWR_GUARD", 0xfffff, 0x0, 0x0, 0x3e8, .single⟩),
  (0x1008, ⟨"PFM_PWR_WAKE1", 0xffffff, 0x0, 0x0, 0x14, .single⟩),
  (0x100c, ⟨"PFM_PWR_WAKE2", 0xffffff, 0x0, 0x0, 0xbb8, .single⟩),
  (0x1010, ⟨"PFM_PWR_WAKE3", 0xffffff, 0x0, 0x0, 0x13880, .single⟩),
  (0x1014, ⟨"PFM_PWR_STATUS", 0x0, 0x0, 0x0, 0x0, .single⟩),
  (0x1030, ⟨"PFM_CLK_STATUS", 0x0, 0x7, 0x0, 0x0, .single⟩),
  (0x1040, ⟨"PFM_RST", 0x0, 0x0, 0x0, 0x0, .single⟩),
  (0x1044, ⟨"PFM_RST_STATUS", 0x0, 0x2, 0x0, 0x0, .single⟩),
  (0x1050, ⟨"PFM_SCRUB_PERIOD", 0xffff, 0x0, 0x0, 0xe10, .single⟩),
  (0x1054, ⟨"PFM_SCRUB_STATUS", 0x0, 0x1, 0x0, 0x0, .single⟩),
  (0x2000, ⟨"PFM_CFG_STATUS", 0x0, 0x6, 0x0, 0x0, .single⟩),
  (0x2004, ⟨"PFM_CFG_CTRL", 0x0, 0x0, 0x3, 0x0, .single⟩)]

/-- Single registers, part 3. -/
def rowsMain3 : List (Nat × Desc) := [
  (0x2008, ⟨"PFM_CFG_DIV", 0xff, 0x0, 0x0, 0x10, .single⟩),
  (0x30000, ⟨"HG_CTRL", 0x1, 0x0, 0x0, 0x0, .single⟩),
  (0x30004, ⟨"HG_STATUS", 0x0, 0x6, 0x0, 0x0, .single⟩),
  (0x30008, ⟨"HG_TICK_LEN_LO", 0xffffffff, 0x0, 0x0, 0xf424000, .lo⟩),
  (0x3000c, ⟨"HG_TICK_LEN_HI", 0xff, 0x0, 0x0, 0x0, .hi⟩),
  (0x30010, ⟨"HG_TICK_FRAC", 0xffffffff, 0x0, 0x0, 0x10000, .single⟩),
  (0x30014, ⟨"HG_SLOTS", 0xffff, 0x0, 0x0, 0x3ff, .single⟩),
  (0x30018, ⟨"HG_MIN_SLOT", 0xffffff, 0x0, 0x0, 0x2db7, .single⟩),
  (0x3001c, ⟨"HG_EPOCH_LO", 0xffffffff, 0x0, 0x0, 0x0, .lo⟩),
  (0x30020, ⟨"HG_EPOCH_HI", 0xffffffff, 0x0, 0x0, 0x0, .hi⟩),
  (0x30024, ⟨"HG_TICKNO_LO", 0x0, 0x0, 0x0, 0x0, .lo⟩),
  (0x30028, ⟨"HG_TICKNO_HI", 0x0, 0x0, 0x0, 0x0, .hi⟩)]

/-- Single registers, part 4. -/
def rowsMain4 : List (Nat × Desc) := [
  (0x3002c, ⟨"HG_SLOTNO", 0x0, 0x0, 0x0, 0x0, .single⟩),
  (0x30040, ⟨"RAE_CTRL", 0x7f, 0x0, 0x0, 0x40, .single⟩),
  (0x30044, ⟨"RAE_STATUS", 0x0, 0x0, 0x0, 0x0, .single⟩),
  (0x30048, ⟨"HG_REL_STATUS", 0x0, 0x0, 0x0, 0x0, .single⟩),
  (0x3004c, ⟨"HG_UND_STATUS", 0x0, 0x80000000, 0x0, 0x0, .single⟩),
  (0x30050, ⟨"HG_UND_OVF_CNT", 0x0, 0x0, 0x0, 0x0, .single⟩),
  (0x31200, ⟨"HG_CRED_CLR_LO", 0x0, 0x0, 0x0, 0x0, .lo⟩),
  (0x31204, ⟨"HG_CRED_CLR_HI", 0x0, 0x0, 0x0, 0x0, .hi⟩),
  (0x31208, ⟨"HG_CRED_STATUS", 0x0, 0x1, 0x0, 0x0, .single⟩),
  (0x40000, ⟨"SP_STATUS", 0x0, 0x6, 0x0, 0x0, .single⟩),
  (0x40004, ⟨"SP_NB_CNT", 0x0, 0x0, 0x0, 0x0, .single⟩),
  (0x40008, ⟨"SP_FDROP_CNT", 0x0, 0x0, 0x0, 0x0, .single⟩)]

/-- Single registers, part 5. -/
def rowsMain5 : List (Nat × Desc) := [
  (0x4000c, ⟨"SP_PDISC_CNT", 0x0, 0x0, 0x0, 0x0, .single⟩),
  (0x40010, ⟨"SP_PBD_OVF_CNT", 0x0, 0x0, 0x0, 0x0, .single⟩),
  (0x50000, ⟨"SP_RED_STATUS", 0x0, 0x3, 0x0, 0x0, .single⟩),
  (0x50004, ⟨"SP_RMODE_MISS_CNT", 0x0, 0x0, 0x0, 0x0, .single⟩),
  (0x50008, ⟨"SP_RCHAIN_DISC_CNT", 0x0, 0x0, 0x0, 0x0, .single⟩),
  (0x5000c, ⟨"SP_RLATE_DISC_CNT", 0x0, 0x0, 0x0, 0x0, .single⟩),
  (0x64000, ⟨"WEL_STATUS", 0x0, 0x7, 0x0, 0x0, .single⟩),
  (0x64004, ⟨"WEL_RTO", 0xffff, 0x0, 0x0, 0x800, .single⟩),
  (0x64008, ⟨"WEL_SWEEP_CNT", 0x0, 0x0, 0x0, 0x0, .single⟩),
  (0x6400c, ⟨"WEL_FORCE_CNT", 0x0, 0x0, 0x0, 0x0, .single⟩),
  (0x64010, ⟨"WEL_RTO_CNT", 0x0, 0x0, 0x0, 0x0, .single⟩),
  (0x64014, ⟨"WEL_BUSY_CNT", 0x0, 0x0, 0x0, 0x0, .single⟩)]

/-- Single registers, part 6. -/
def rowsMain6 : List (Nat × Desc) := [
  (0x76000, ⟨"CUL_CHIPID", 0xfff, 0x0, 0x0, 0x0, .single⟩),
  (0x76004, ⟨"CUL_FABCFG", 0xfff, 0x0, 0x0, 0x0, .single⟩),
  (0x76008, ⟨"CUL_TCFG", 0xe000ffff, 0x0, 0x0, 0xe00003e8, .single⟩),
  (0x7600c, ⟨"CUL_MCFG", 0xffff000f, 0x0, 0x0, 0x3e80002, .single⟩),
  (0x76010, ⟨"CUL_EPOCH", 0x0, 0x0, 0x0, 0x0, .single⟩),
  (0x76014, ⟨"CUL_MSTATUS", 0x0, 0xf, 0x0, 0x0, .single⟩),
  (0x76018, ⟨"CUL_JOIN", 0x0, 0x0, 0x0, 0x0, .single⟩),
  (0x7601c, ⟨"CUL_FREL_MISS_CNT", 0x0, 0x0, 0x0, 0x0, .single⟩),
  (0x76020, ⟨"CUL_FWD_REF_CNT", 0x0, 0x0, 0x0, 0x0, .single⟩),
  (0x76024, ⟨"CUL_EPDROP_CNT", 0x0, 0x0, 0x0, 0x0, .single⟩),
  (0x76028, ⟨"CUL_FEXC_CNT", 0x0, 0x0, 0x0, 0x0, .single⟩),
  (0x7602c, ⟨"CUL_SNAP_CFG", 0xffff, 0x0, 0x0, 0x0, .single⟩)]

/-- Single registers, part 7. -/
def rowsMain7 : List (Nat × Desc) := [
  (0x84000, ⟨"PMP_CTRL", 0x0, 0x0, 0x1, 0x0, .single⟩),
  (0x84004, ⟨"PMP_STATUS", 0x0, 0x1, 0x0, 0x4, .single⟩),
  (0x84008, ⟨"PMP_ERR_ADDR_LO", 0x0, 0x0, 0x0, 0x0, .lo⟩),
  (0x8400c, ⟨"PMP_ERR_ADDR_HI", 0x0, 0x0, 0x0, 0x0, .hi⟩),
  (0x84010, ⟨"PMP_ERR_INFO", 0x0, 0x0, 0x0, 0x0, .single⟩),
  (0x84014, ⟨"PMP_ERR_CNT", 0x0, 0x0, 0x0, 0x0, .single⟩),
  (0xa0000, ⟨"OBS_TB_LO", 0x0, 0x0, 0x0, 0x0, .lo⟩),
  (0xa0004, ⟨"OBS_TB_HI", 0x0, 0x0, 0x0, 0x0, .hi⟩),
  (0xa0008, ⟨"OBS_TB_INC", 0xffffffff, 0x0, 0x0, 0x0, .single⟩),
  (0xa000c, ⟨"OBS_TB_STATUS", 0x0, 0x0, 0x0, 0x0, .single⟩),
  (0xa0010, ⟨"OBS_TB_SET_LO", 0x0, 0x0, 0x0, 0x0, .lo⟩),
  (0xa0014, ⟨"OBS_TB_SET_HI", 0x0, 0x0, 0x0, 0x0, .hi⟩)]

/-- Single registers, part 8. -/
def rowsMain8 : List (Nat × Desc) := [
  (0xa0018, ⟨"OBS_TBMODE", 0x1, 0x0, 0x0, 0x0, .single⟩),
  (0xa001c, ⟨"OBS_STATUS", 0x0, 0x3c, 0x0, 0x0, .single⟩),
  (0xa0020, ⟨"OBS_SAMPLE", 0xffff, 0x0, 0x0, 0x0, .single⟩),
  (0xa0024, ⟨"OBS_AO_CFG", 0xffff, 0x0, 0x0, 0x100, .single⟩),
  (0xa0028, ⟨"OBS_HMASK", 0xffffffff, 0x0, 0x0, 0x0, .single⟩),
  (0xa002c, ⟨"OBS_HCMD", 0x0, 0x0, 0x0, 0x0, .single⟩),
  (0xa0030, ⟨"OBS_HALTED", 0x0, 0x0, 0x0, 0x0, .single⟩),
  (0xa0034, ⟨"OBS_STOP_TICK_LO", 0x0, 0x0, 0x0, 0x0, .lo⟩),
  (0xa0038, ⟨"OBS_STOP_TICK_HI", 0x0, 0x0, 0x0, 0x0, .hi⟩),
  (0xa003c, ⟨"OBS_DUMP_STATUS", 0x0, 0x0, 0x0, 0x0, .single⟩),
  (0xa0080, ⟨"OBS_AO_CORR", 0x0, 0x0, 0x0, 0x0, .single⟩),
  (0xa0084, ⟨"OBS_AO_UNCORR", 0x0, 0x0, 0x0, 0x0, .single⟩)]

/-- Single registers, part 9. -/
def rowsMain9 : List (Nat × Desc) := [
  (0xa0088, ⟨"OBS_AO_RETRY", 0x0, 0x0, 0x0, 0x0, .single⟩),
  (0xa008c, ⟨"OBS_AO_LATE", 0x0, 0x0, 0x0, 0x0, .single⟩),
  (0xa0090, ⟨"OBS_AO_OVR", 0x0, 0x0, 0x0, 0x0, .single⟩),
  (0xa0094, ⟨"OBS_AO_FAULT", 0x0, 0x0, 0x0, 0x0, .single⟩),
  (0xa0098, ⟨"OBS_AO_LOST", 0x0, 0x0, 0x0, 0x0, .single⟩),
  (0xc0000, ⟨"GAU_ID", 0x0, 0x0, 0x0, 0x0, .single⟩),
  (0xc0004, ⟨"GAU_VER", 0x0, 0x0, 0x0, 0x0, .single⟩),
  (0xc0008, ⟨"GAU_STATUS", 0x0, 0x0, 0x0, 0x0, .single⟩),
  (0xc000c, ⟨"GAU_SEAL_CNT", 0x0, 0x0, 0x0, 0x0, .single⟩),
  (0xc0010, ⟨"GAU_PERIOD", 0x0, 0x0, 0x0, 0x0, .single⟩),
  (0xc0014, ⟨"GAU_LOG_CFG", 0x0, 0x0, 0x0, 0x0, .single⟩),
  (0xc0018, ⟨"GAU_SEQ_LO", 0x0, 0x0, 0x0, 0x0, .lo⟩)]

/-- Single registers, part 10. -/
def rowsMain10 : List (Nat × Desc) := [
  (0xc001c, ⟨"GAU_SEQ_HI", 0x0, 0x0, 0x0, 0x0, .hi⟩),
  (0xc0020, ⟨"GAU_HEAD_CRC_LO", 0x0, 0x0, 0x0, 0x0, .lo⟩),
  (0xc0024, ⟨"GAU_HEAD_CRC_HI", 0x0, 0x0, 0x0, 0x0, .hi⟩),
  (0xc0028, ⟨"GAU_GTIME_LO", 0x0, 0x0, 0x0, 0x0, .lo⟩),
  (0xc002c, ⟨"GAU_GTIME_HI", 0x0, 0x0, 0x0, 0x0, .hi⟩)]

/-- All of them. -/
def rowsMain : List (Nat × Desc) := rowsMain1 ++ rowsMain2 ++ rowsMain3 ++ rowsMain4 ++ rowsMain5 ++ rowsMain6 ++ rowsMain7 ++ rowsMain8 ++ rowsMain9 ++ rowsMain10

/-- Residence counters of R424. -/
def rowsPwrRes : List (Nat × Desc) := [
  (0x0, ⟨"PFM_PWR_RES", 0x0, 0x0, 0x0, 0x0, .single⟩)]

/-- Staging words of R425. -/
def rowsCfgStage : List (Nat × Desc) := [
  (0x0, ⟨"PFM_CFG_STAGE", 0xffffffff, 0x0, 0x0, 0x0, .single⟩)]

/-- Good-tap map of R425. -/
def rowsCfgMap : List (Nat × Desc) := [
  (0x0, ⟨"PFM_CFG_MAP", 0x0, 0x0, 0x0, 0x0, .single⟩)]

/-- Partition entries of R317 and R98, part 1. -/
def rowsPart1 : List (Nat × Desc) := [
  (0x0, ⟨"PFM_PCTRL", 0x0, 0x0, 0x0, 0x0, .single⟩),
  (0x4, ⟨"PFM_PSTATE", 0x0, 0x78, 0x0, 0x0, .single⟩),
  (0x8, ⟨"PFM_PAT_LO", 0xffffffff, 0x0, 0x0, 0x0, .lo⟩),
  (0xc, ⟨"PFM_PAT_HI", 0xffff, 0x0, 0x0, 0x0, .hi⟩),
  (0x10, ⟨"PFM_PQTO", 0xffff, 0x0, 0x0, 0x10, .single⟩),
  (0x14, ⟨"PFM_PTAPR", 0x8fff1fff, 0x0, 0x0, 0x0, .single⟩),
  (0x18, ⟨"PFM_PTAPR", 0x8fff1fff, 0x0, 0x0, 0x0, .single⟩),
  (0x1c, ⟨"PFM_PTAPR", 0x8fff1fff, 0x0, 0x0, 0x0, .single⟩),
  (0x20, ⟨"PFM_PTAPR", 0x8fff1fff, 0x0, 0x0, 0x0, .single⟩),
  (0x24, ⟨"PFM_PTAPR", 0x8fff1fff, 0x0, 0x0, 0x0, .single⟩),
  (0x28, ⟨"PFM_PTAPR", 0x8fff1fff, 0x0, 0x0, 0x0, .single⟩),
  (0x2c, ⟨"PFM_PTAPR", 0x8fff1fff, 0x0, 0x0, 0x0, .single⟩)]

/-- Partition entries of R317 and R98, part 2. -/
def rowsPart2 : List (Nat × Desc) := [
  (0x30, ⟨"PFM_PTAPR", 0x8fff1fff, 0x0, 0x0, 0x0, .single⟩),
  (0x34, ⟨"PFM_PPUMP_LO", 0xffffffff, 0x0, 0x0, 0x0, .lo⟩),
  (0x38, ⟨"PFM_PPUMP_HI", 0x3fffffff, 0x0, 0x0, 0x0, .hi⟩),
  (0x3c, ⟨"PFM_PDMEM_BASE_LO", 0xfffff000, 0x0, 0x0, 0x0, .lo⟩),
  (0x40, ⟨"PFM_PDMEM_BASE_HI", 0xffffffff, 0x0, 0x0, 0x0, .hi⟩),
  (0x44, ⟨"PFM_PDMEM_LIM_LO", 0xfffff000, 0x0, 0x0, 0x0, .lo⟩),
  (0x48, ⟨"PFM_PDMEM_LIM_HI", 0xffffffff, 0x0, 0x0, 0x0, .hi⟩),
  (0x4c, ⟨"PFM_PFLT_ADDR_LO", 0xfffff000, 0x0, 0x0, 0x0, .lo⟩),
  (0x50, ⟨"PFM_PFLT_ADDR_HI", 0xffffffff, 0x0, 0x0, 0x0, .hi⟩),
  (0x54, ⟨"PFM_PFLT_CFG", 0xff1f1f, 0x0, 0x0, 0x0, .single⟩),
  (0x58, ⟨"PFM_PFLT_PROD", 0x0, 0x0, 0x0, 0x0, .single⟩),
  (0x5c, ⟨"PFM_PFLT_CONS", 0xffff, 0x0, 0x0, 0x0, .single⟩)]

/-- Partition entries of R317 and R98, part 3. -/
def rowsPart3 : List (Nat × Desc) := [
  (0x60, ⟨"PFM_PFLT_DROP", 0x0, 0x0, 0x0, 0x0, .single⟩),
  (0x64, ⟨"PFM_PCFGLK_CNT", 0x0, 0x0, 0x0, 0x0, .single⟩),
  (0x68, ⟨"PFM_PALLOC_STATUS", 0x0, 0x3, 0x0, 0x0, .single⟩),
  (0x80, ⟨"PFM_PCST_RES", 0x3ff01ff, 0x0, 0x0, 0x0, .single⟩),
  (0x84, ⟨"PFM_PCST_FRAME", 0x1f, 0x0, 0x0, 0x0, .single⟩),
  (0x88, ⟨"PFM_PSPILL_ADDR_LO", 0xfffff000, 0x0, 0x0, 0x0, .lo⟩),
  (0x8c, ⟨"PFM_PSPILL_ADDR_HI", 0xffffffff, 0x0, 0x0, 0x0, .hi⟩),
  (0x90, ⟨"PFM_PSPILL_FIRST", 0xffffff, 0x0, 0x0, 0x200000, .single⟩),
  (0x94, ⟨"PFM_PSPILL_NUM", 0xffffff, 0x0, 0x0, 0x0, .single⟩),
  (0x98, ⟨"PFM_PBASIN", 0x7ff03ff, 0x0, 0x0, 0x0, .single⟩),
  (0x9c, ⟨"PFM_PRLDIR", 0x7ff03ff, 0x0, 0x0, 0x0, .single⟩),
  (0xa0, ⟨"PFM_PRLBODY", 0xfff0fff, 0x0, 0x0, 0x0, .single⟩)]

/-- Partition entries of R317 and R98, part 4. -/
def rowsPart4 : List (Nat × Desc) := [
  (0xa4, ⟨"PFM_PSPILL_TO", 0xffff, 0x0, 0x0, 0x70, .single⟩),
  (0xa8, ⟨"PFM_PCST_STATUS", 0x0, 0x3, 0x0, 0x0, .single⟩)]

/-- All of them. -/
def rowsPart : List (Nat × Desc) := rowsPart1 ++ rowsPart2 ++ rowsPart3 ++ rowsPart4

/-- Function entries of R318. -/
def rowsFunc : List (Nat × Desc) := [
  (0x0, ⟨"PFM_FCFG", 0xe31f003f, 0x0, 0x0, 0x1, .single⟩),
  (0x4, ⟨"PFM_FWAIT", 0x7ff, 0x0, 0x0, 0x0, .single⟩),
  (0x8, ⟨"PFM_FSTATE", 0x0, 0x4, 0x0, 0x0, .single⟩),
  (0xc, ⟨"PFM_FCMD_CNT", 0x0, 0x0, 0x0, 0x0, .single⟩)]

/-- Overrun entries of R55. -/
def rowsPovr : List (Nat × Desc) := [
  (0x0, ⟨"HG_POVR_CFG", 0x8000ffff, 0x40000000, 0x0, 0x0, .single⟩),
  (0x4, ⟨"HG_PCLOSE", 0xffffffff, 0x0, 0x0, 0x0, .single⟩),
  (0x8, ⟨"HG_PSHIFT", 0x0, 0x0, 0x0, 0x0, .single⟩),
  (0xc, ⟨"HG_POVR_CNT", 0x0, 0x0, 0x0, 0x0, .single⟩),
  (0x10, ⟨"HG_PSTRETCH_SUM", 0x0, 0x0, 0x0, 0x0, .single⟩),
  (0x14, ⟨"HG_PLAST_OVR_LO", 0x0, 0x0, 0x0, 0x0, .lo⟩),
  (0x18, ⟨"HG_PLAST_OVR_HI", 0x0, 0x0, 0x0, 0x0, .hi⟩)]

/-- Schedule entries of R130, part 1. -/
def rowsPsched1 : List (Nat × Desc) := [
  (0x0, ⟨"HG_PSCHED_STATUS", 0x0, 0x20, 0x0, 0x0, .single⟩),
  (0x4, ⟨"HG_PCHAN", 0x3ffff, 0x0, 0x0, 0x0, .single⟩),
  (0x8, ⟨"HG_PSTAGE", 0xff, 0x0, 0x0, 0x0, .single⟩),
  (0xc, ⟨"HG_PSB_SIZE", 0x1f, 0x0, 0x0, 0x0, .single⟩),
  (0x10, ⟨"HG_PSB_ADDR_LO", 0xfffff000, 0x0, 0x0, 0x0, .lo⟩),
  (0x14, ⟨"HG_PSB_ADDR_HI", 0xffffffff, 0x0, 0x0, 0x0, .hi⟩),
  (0x18, ⟨"HG_PSB_PROD", 0x0, 0x0, 0x0, 0x0, .single⟩),
  (0x1c, ⟨"HG_PSB_CONS", 0xfffff, 0x0, 0x0, 0x0, .single⟩),
  (0x20, ⟨"HG_PSB_DROP", 0x0, 0x0, 0x0, 0x0, .single⟩),
  (0x24, ⟨"HG_PTBL_BASE_LO", 0x0, 0x0, 0x0, 0x0, .lo⟩),
  (0x28, ⟨"HG_PTBL_BASE_HI", 0x0, 0x0, 0x0, 0x0, .hi⟩),
  (0x2c, ⟨"HG_PTBL_INFO", 0x0, 0x0, 0x0, 0x0, .single⟩)]

/-- Schedule entries of R130, part 2. -/
def rowsPsched2 : List (Nat × Desc) := [
  (0x30, ⟨"HG_PTBL_N0_LO", 0x0, 0x0, 0x0, 0x0, .lo⟩),
  (0x34, ⟨"HG_PTBL_N0_HI", 0x0, 0x0, 0x0, 0x0, .hi⟩),
  (0x38, ⟨"HG_PLATE_CNT", 0x0, 0x0, 0x0, 0x0, .single⟩)]

/-- All of them. -/
def rowsPsched : List (Nat × Desc) := rowsPsched1 ++ rowsPsched2

/-- Credit windows of R216. -/
def rowsPcred : List (Nat × Desc) := [
  (0x0, ⟨"HG_PCRED_FIRST", 0xffffff, 0x0, 0x0, 0x0, .single⟩),
  (0x4, ⟨"HG_PCRED_UNITS", 0xff007f, 0x0, 0x0, 0x0, .single⟩),
  (0x8, ⟨"HG_PCRED_STATUS", 0x0, 0x3, 0x0, 0x0, .single⟩),
  (0xc, ⟨"HG_PCRED_RXS_CNT", 0x0, 0x0, 0x0, 0x0, .single⟩)]

/-- Tap fences of R156. -/
def rowsSpFence : List (Nat × Desc) := [
  (0x0, ⟨"SP_FENCE", 0xffffffff, 0x0, 0x0, 0x0, .single⟩)]

/-- Pair status of R156. -/
def rowsSpPair : List (Nat × Desc) := [
  (0x0, ⟨"SP_PAIR", 0x0, 0x0, 0x0, 0x0, .single⟩)]

/-- Delay registers of R157. -/
def rowsSpPbd : List (Nat × Desc) := [
  (0x0, ⟨"SP_PBD0", 0xfeffffff, 0x0, 0x0, 0x0, .single⟩),
  (0x4, ⟨"SP_PBD1", 0xfeffffff, 0x0, 0x0, 0x0, .single⟩)]

/-- Basin modes of R190. -/
def rowsSpBmode : List (Nat × Desc) := [
  (0x0, ⟨"SP_BMODE", 0xbfffbfff, 0x0, 0x0, 0x0, .single⟩)]

/-- Well groups of R242. -/
def rowsWelGroup : List (Nat × Desc) := [
  (0x0, ⟨"WEL_GACQ", 0xffffffff, 0x0, 0x0, 0x0, .single⟩),
  (0x4, ⟨"WEL_GRD", 0xffffffff, 0x0, 0x0, 0x0, .single⟩),
  (0x8, ⟨"WEL_GCFG", 0xbfffffff, 0x0, 0x0, 0x0, .single⟩),
  (0xc, ⟨"WEL_GSTAT", 0x0, 0x0, 0x1, 0x0, .single⟩)]

/-- Culvert ports of R279. -/
def rowsCulPort : List (Nat × Desc) := [
  (0x0, ⟨"CUL_PCFG", 0xc0000fff, 0x0, 0x0, 0x0, .single⟩),
  (0x4, ⟨"CUL_PSTATUS", 0x0, 0x7, 0x0, 0x0, .single⟩),
  (0x8, ⟨"CUL_PASYM", 0xffff, 0x0, 0x0, 0x0, .single⟩),
  (0xc, ⟨"CUL_PRTT", 0x0, 0x0, 0x0, 0x0, .single⟩),
  (0x10, ⟨"CUL_PCORR_CNT", 0x0, 0x0, 0x0, 0x0, .single⟩),
  (0x14, ⟨"CUL_PRETRY_CNT", 0x0, 0x0, 0x0, 0x0, .single⟩),
  (0x18, ⟨"CUL_PMARK_CNT", 0x0, 0x0, 0x0, 0x0, .single⟩),
  (0x1c, ⟨"CUL_PDROP_CNT", 0x0, 0x0, 0x0, 0x0, .single⟩)]

/-- Missing trays of R280. -/
def rowsCulMiss : List (Nat × Desc) := [
  (0x0, ⟨"CUL_MISS", 0x0, 0x0, 0x0, 0x0, .single⟩)]

/-- Span masks of R281. -/
def rowsCulPspan : List (Nat × Desc) := [
  (0x0, ⟨"CUL_PSPAN", 0xffffffff, 0x0, 0x0, 0x0, .single⟩),
  (0x4, ⟨"CUL_PSPAN", 0xffffffff, 0x0, 0x0, 0x0, .single⟩),
  (0x8, ⟨"CUL_PSPAN", 0xffffffff, 0x0, 0x0, 0x0, .single⟩),
  (0xc, ⟨"CUL_PSPAN", 0xffffffff, 0x0, 0x0, 0x0, .single⟩),
  (0x10, ⟨"CUL_PSPAN", 0xffffffff, 0x0, 0x0, 0x0, .single⟩),
  (0x14, ⟨"CUL_PSPAN", 0xffffffff, 0x0, 0x0, 0x0, .single⟩),
  (0x18, ⟨"CUL_PSPAN", 0xffffffff, 0x0, 0x0, 0x0, .single⟩),
  (0x1c, ⟨"CUL_PSPAN", 0xffffffff, 0x0, 0x0, 0x0, .single⟩)]

/-- Snapshot entries of R281. -/
def rowsCulPsnap : List (Nat × Desc) := [
  (0x0, ⟨"CUL_PEPOCH", 0x0, 0x0, 0x0, 0x0, .single⟩),
  (0x4, ⟨"CUL_PSNAP_ADDR_LO", 0xfffff000, 0x0, 0x0, 0x0, .lo⟩),
  (0x8, ⟨"CUL_PSNAP_ADDR_HI", 0xffffffff, 0x0, 0x0, 0x0, .hi⟩),
  (0xc, ⟨"CUL_PSNAP_SIZE", 0xffff, 0x0, 0x0, 0x0, .single⟩),
  (0x10, ⟨"CUL_PSNAP_CTRL", 0x60000000, 0x0, 0x80000000, 0x0, .single⟩),
  (0x14, ⟨"CUL_PSNAP_STATUS", 0x0, 0x38000000, 0x0, 0x0, .single⟩),
  (0x18, ⟨"CUL_PSNAP_TICK_LO", 0x0, 0x0, 0x0, 0x0, .lo⟩),
  (0x1c, ⟨"CUL_PSNAP_TICK_HI", 0x0, 0x0, 0x0, 0x0, .hi⟩)]

/-- Proxy windows of R281. -/
def rowsCulPx : List (Nat × Desc) := [
  (0x0, ⟨"CUL_PX_LO", 0x80ffffff, 0x0, 0x0, 0x0, .lo⟩),
  (0x4, ⟨"CUL_PX_HI", 0xfff, 0x0, 0x0, 0x0, .hi⟩)]

/-- Fabric channels of R282. -/
def rowsCulFch : List (Nat × Desc) := [
  (0x0, ⟨"CUL_FCH_CFG", 0xffff9fff, 0x0, 0x0, 0xe00000, .single⟩),
  (0x4, ⟨"CUL_FCH_UP", 0xffffff, 0x0, 0x0, 0x0, .single⟩),
  (0x8, ⟨"CUL_FCH_DN", 0xffffff, 0x0, 0x0, 0x0, .single⟩),
  (0xc, ⟨"CUL_FCH_STAT", 0x0, 0x0, 0x0, 0x0, .single⟩)]

/-- Remote release entries of R283. -/
def rowsCulRrt : List (Nat × Desc) := [
  (0x0, ⟨"CUL_RRT_SRC", 0xfcffffff, 0x0, 0x0, 0x0, .single⟩),
  (0x4, ⟨"CUL_RRT_DST", 0xffffff, 0x0, 0x0, 0x0, .single⟩),
  (0x8, ⟨"CUL_RRT_CHIP", 0xfff, 0x0, 0x0, 0x0, .single⟩)]

/-- Pump channels of R345. -/
def rowsPmpChan : List (Nat × Desc) := [
  (0x0, ⟨"PMP_CCFG", 0xf0ff001f, 0x0, 0x0, 0x0, .single⟩),
  (0x4, ⟨"PMP_CSHARE", 0x1ff, 0x0, 0x0, 0x40, .single⟩),
  (0x8, ⟨"PMP_CHEAD_LO", 0xffffffe1, 0x0, 0x0, 0x0, .lo⟩),
  (0xc, ⟨"PMP_CHEAD_HI", 0xffff, 0x0, 0x0, 0x0, .hi⟩),
  (0x10, ⟨"PMP_CCUR_LO", 0x0, 0x0, 0x0, 0x0, .lo⟩),
  (0x14, ⟨"PMP_CCUR_HI", 0x0, 0x0, 0x0, 0x0, .hi⟩),
  (0x18, ⟨"PMP_CCNT", 0x0, 0x0, 0x0, 0x0, .single⟩),
  (0x1c, ⟨"PMP_CCMD", 0x0, 0x0, 0x0, 0x0, .single⟩),
  (0x20, ⟨"PMP_CSTATUS", 0x0, 0xe000000, 0x0, 0x10000000, .single⟩),
  (0x24, ⟨"PMP_CDONE_CNT", 0x0, 0x0, 0x0, 0x0, .single⟩)]

/-- Tap clock regions of R376. -/
def rowsObsTclk : List (Nat × Desc) := [
  (0x0, ⟨"OBS_TCLK", 0xffff, 0x0, 0x0, 0x0, .single⟩)]

/-- Halt sets of R376. -/
def rowsObsPbrk : List (Nat × Desc) := [
  (0x0, ⟨"OBS_PBRK", 0xffffffff, 0x0, 0x0, 0x0, .single⟩)]

/-- Sumps of R376. -/
def rowsObsSump : List (Nat × Desc) := [
  (0x0, ⟨"OBS_SCFG", 0xff83f03f, 0x0, 0x0, 0x0, .single⟩),
  (0x4, ⟨"OBS_SRING_LO", 0xfffff000, 0x0, 0x0, 0x0, .lo⟩),
  (0x8, ⟨"OBS_SRING_HI", 0xffffffff, 0x0, 0x0, 0x0, .hi⟩),
  (0xc, ⟨"OBS_SRSIZE", 0x1f, 0x0, 0x0, 0x0, .single⟩),
  (0x10, ⟨"OBS_SPROD", 0x0, 0x0, 0x0, 0x0, .single⟩),
  (0x14, ⟨"OBS_SCONS", 0xffffffff, 0x0, 0x0, 0x0, .single⟩),
  (0x18, ⟨"OBS_SLOST_CNT", 0x0, 0x0, 0x0, 0x0, .single⟩),
  (0x1c, ⟨"OBS_SSTATUS", 0x0, 0x0, 0x0, 0x0, .single⟩)]

/-- Trace filters of R376. -/
def rowsObsFilter : List (Nat × Desc) := [
  (0x0, ⟨"OBS_TFCFG", 0xffc00000, 0x0, 0x0, 0x0, .single⟩),
  (0x4, ⟨"OBS_TFEVT", 0xffffffff, 0x0, 0x0, 0x0, .single⟩),
  (0x8, ⟨"OBS_TFLAYER", 0xfff0fff, 0x0, 0x0, 0x0, .single⟩),
  (0xc, ⟨"OBS_TFOPER", 0xfff0fff, 0x0, 0x0, 0x0, .single⟩),
  (0x10, ⟨"OBS_TFTAP", 0xfff0fff, 0x0, 0x0, 0xfff0000, .single⟩),
  (0x14, ⟨"OBS_TFCVAL", 0xffffff, 0x0, 0x0, 0x0, .single⟩),
  (0x18, ⟨"OBS_TFCMASK", 0xffffff, 0x0, 0x0, 0x0, .single⟩)]

/-- Global counters of R376. -/
def rowsObsGlobal : List (Nat × Desc) := [
  (0x0, ⟨"OBS_GSEL", 0x5f000fff, 0x0, 0x80000000, 0x700, .single⟩),
  (0x4, ⟨"OBS_GVAL_LO", 0x0, 0x0, 0x0, 0x0, .lo⟩),
  (0x8, ⟨"OBS_GVAL_HI", 0x0, 0x0, 0x0, 0x0, .hi⟩)]

/-- Partition counters of R376. -/
def rowsObsPart : List (Nat × Desc) := [
  (0x0, ⟨"OBS_PSEL", 0xfff, 0x0, 0x80000000, 0x700, .single⟩),
  (0x4, ⟨"OBS_PVAL_LO", 0x0, 0x0, 0x0, 0x0, .lo⟩),
  (0x8, ⟨"OBS_PVAL_HI", 0x0, 0x0, 0x0, 0x0, .hi⟩)]

/-- Gauge sets of R396. -/
def rowsGauSet : List (Nat × Desc) := [
  (0x0, ⟨"GAU_STAG", 0x0, 0x0, 0x0, 0x0, .single⟩),
  (0x8, ⟨"GAU_STICKS_LO", 0x0, 0x0, 0x0, 0x0, .lo⟩),
  (0xc, ⟨"GAU_STICKS_HI", 0x0, 0x0, 0x0, 0x0, .hi⟩),
  (0x10, ⟨"GAU_SOPS_LO", 0x0, 0x0, 0x0, 0x0, .lo⟩),
  (0x14, ⟨"GAU_SOPS_HI", 0x0, 0x0, 0x0, 0x0, .hi⟩),
  (0x18, ⟨"GAU_SLANES_LO", 0x0, 0x0, 0x0, 0x0, .lo⟩),
  (0x1c, ⟨"GAU_SLANES_HI", 0x0, 0x0, 0x0, 0x0, .hi⟩),
  (0x20, ⟨"GAU_SCBYTES_LO", 0x0, 0x0, 0x0, 0x0, .lo⟩),
  (0x24, ⟨"GAU_SCBYTES_HI", 0x0, 0x0, 0x0, 0x0, .hi⟩),
  (0x28, ⟨"GAU_SPBYTES_LO", 0x0, 0x0, 0x0, 0x0, .lo⟩),
  (0x2c, ⟨"GAU_SPBYTES_HI", 0x0, 0x0, 0x0, 0x0, .hi⟩)]

/-- Setup pages of R319, R347 and R377, part 1. -/
def rowsPage1 : List (Nat × Desc) := [
  (0x0, ⟨"DQ_DB_ADDR_LO", 0xffffffc0, 0x0, 0x0, 0x0, .lo⟩),
  (0x4, ⟨"DQ_DB_ADDR_HI", 0xffffffff, 0x0, 0x0, 0x0, .hi⟩),
  (0x8, ⟨"DQ_CMD_BASE_LO", 0xfffff000, 0x0, 0x0, 0x0, .lo⟩),
  (0xc, ⟨"DQ_CMD_BASE_HI", 0xffffffff, 0x0, 0x0, 0x0, .hi⟩),
  (0x10, ⟨"DQ_CPL_BASE_LO", 0xfffff000, 0x0, 0x0, 0x0, .lo⟩),
  (0x14, ⟨"DQ_CPL_BASE_HI", 0xffffffff, 0x0, 0x0, 0x0, .hi⟩),
  (0x18, ⟨"DQ_RING_SIZE", 0x1f001f, 0x0, 0x0, 0x40004, .single⟩),
  (0x1c, ⟨"DQ_CTRL", 0x1, 0x0, 0x0, 0x0, .single⟩),
  (0x20, ⟨"DQ_STATUS", 0x0, 0x0, 0x0, 0x4, .single⟩),
  (0x24, ⟨"DQ_CMD_IDX", 0x0, 0x0, 0x0, 0x0, .single⟩),
  (0x28, ⟨"DQ_CPL_IDX", 0x0, 0x0, 0x0, 0x0, .single⟩),
  (0x2c, ⟨"DQ_VMASK", 0xffffffff, 0x0, 0x0, 0xffffffff, .single⟩)]

/-- Setup pages of R319, R347 and R377, part 2. -/
def rowsPage2 : List (Nat × Desc) := [
  (0x30, ⟨"DQ_VPEND", 0x0, 0xffffffff, 0x0, 0x0, .single⟩),
  (0x34, ⟨"DQ_HOLDOFF", 0xffff, 0x0, 0x0, 0x0, .single⟩),
  (0x38, ⟨"DQ_WAITS", 0x0, 0x0, 0x0, 0x0, .single⟩),
  (0x100, ⟨"DQ_KICK", 0x0, 0x0, 0x0, 0x0, .single⟩),
  (0x200, ⟨"PMP_FSEL", 0x3f, 0x0, 0x0, 0x0, .single⟩),
  (0x204, ⟨"PMP_FCMD", 0x0, 0x0, 0x0, 0x0, .single⟩),
  (0x208, ⟨"PMP_FHEAD_LO", 0x0, 0x0, 0x0, 0x0, .lo⟩),
  (0x20c, ⟨"PMP_FHEAD_HI", 0x0, 0x0, 0x0, 0x0, .hi⟩),
  (0x210, ⟨"PMP_FVIEW", 0x0, 0x0, 0x0, 0x0, .single⟩),
  (0x214, ⟨"PMP_FCNT", 0x0, 0x0, 0x0, 0x0, .single⟩),
  (0x218, ⟨"PMP_FCUR_LO", 0x0, 0x0, 0x0, 0x0, .lo⟩),
  (0x21c, ⟨"PMP_FCUR_HI", 0x0, 0x0, 0x0, 0x0, .hi⟩)]

/-- Setup pages of R319, R347 and R377, part 3. -/
def rowsPage3 : List (Nat × Desc) := [
  (0x300, ⟨"OBS_FCSEL", 0x3f, 0x0, 0x0, 0x0, .single⟩),
  (0x304, ⟨"OBS_FCEVT", 0x0, 0x0, 0x0, 0x0, .single⟩),
  (0x308, ⟨"OBS_FCVAL_LO", 0x0, 0x0, 0x0, 0x0, .lo⟩),
  (0x30c, ⟨"OBS_FCVAL_HI", 0x0, 0x0, 0x0, 0x0, .hi⟩),
  (0x310, ⟨"OBS_FSSEL", 0xf, 0x0, 0x0, 0x0, .single⟩),
  (0x314, ⟨"OBS_FSPROD", 0x0, 0x0, 0x0, 0x0, .single⟩),
  (0x318, ⟨"OBS_FSCONS", 0x0, 0x0, 0x0, 0x0, .single⟩)]

/-- All of them. -/
def rowsPage : List (Nat × Desc) := rowsPage1 ++ rowsPage2 ++ rowsPage3

/-- Every group, with the instances each build has (R447). -/
def regions : List Region := [
  ⟨0x1018, 0x4, 3, 3, rowsPwrRes⟩,
  ⟨0x2100, 0x4, 144, 144, rowsCfgStage⟩,
  ⟨0x2400, 0x4, 128, 32, rowsCfgMap⟩,
  ⟨0x10000, 0x100, 32, 8, rowsPart⟩,
  ⟨0x20000, 0x40, 256, 64, rowsFunc⟩,
  ⟨0x30100, 0x20, 32, 8, rowsPovr⟩,
  ⟨0x30800, 0x40, 32, 8, rowsPsched⟩,
  ⟨0x31000, 0x10, 32, 8, rowsPcred⟩,
  ⟨0x40100, 0x4, 128, 32, rowsSpFence⟩,
  ⟨0x40400, 0x4, 22, 6, rowsSpPair⟩,
  ⟨0x48000, 0x8, 4096, 1024, rowsSpPbd⟩,
  ⟨0x51000, 0x4, 512, 512, rowsSpBmode⟩,
  ⟨0x60000, 0x10, 1024, 1024, rowsWelGroup⟩,
  ⟨0x70000, 0x1000, 6, 2, rowsCulPort⟩,
  ⟨0x76040, 0x4, 8, 1, rowsCulMiss⟩,
  ⟨0x76100, 0x20, 32, 8, rowsCulPspan⟩,
  ⟨0x76500, 0x20, 32, 8, rowsCulPsnap⟩,
  ⟨0x76900, 0x8, 128, 32, rowsCulPx⟩,
  ⟨0x77000, 0x10, 64, 64, rowsCulFch⟩,
  ⟨0x78000, 0x10, 1024, 1024, rowsCulRrt⟩,
  ⟨0x80000, 0x100, 64, 16, rowsPmpChan⟩,
  ⟨0xa0040, 0x4, 8, 8, rowsObsTclk⟩,
  ⟨0xa0200, 0x4, 32, 8, rowsObsPbrk⟩,
  ⟨0xa0400, 0x20, 16, 16, rowsObsSump⟩,
  ⟨0xa0800, 0x20, 8, 8, rowsObsFilter⟩,
  ⟨0xa1000, 0x10, 256, 256, rowsObsGlobal⟩,
  ⟨0xa4000, 0x10, 2048, 512, rowsObsPart⟩,
  ⟨0xc1000, 0x40, 32, 8, rowsGauSet⟩,
  ⟨0x100000, 0x1000, 256, 64, rowsPage⟩,
  ⟨0, 0x200000, 1, 1, rowsMain⟩]

/-- The row at a relative offset. -/
def rowAt : List (Nat × Desc) → Nat → Option Desc
  | [], _ => none
  | (o, d) :: t, k => if o = k then some d else rowAt t k

/-- The register at an offset, `none` where the offset is unassigned (R14, R441). `c` selects the Kyordol-C map, in
which absent instances are unassigned (R6). -/
def descIn (c : Bool) : List Region → Nat → Option Desc
  | [], _ => none
  | r :: t, off =>
    if r.base ≤ off ∧ off < r.base + r.stride * (if c then r.countC else r.countF) then
      match rowAt r.rows ((off - r.base) % r.stride) with
      | some d => some d
      | none => descIn c t off
    else descIn c t off

/-- The register at an offset of the window. -/
def descOf (c : Bool) (off : Nat) : Option Desc := descIn c regions off

/-- The word of a short list at key `k`, 0 where it is not listed. -/
def wordAt : List (Nat × Nat) → Nat → Nat
  | [], _ => 0
  | (o, v) :: t, k => if o = k then v else wordAt t k

/-- The words of the register at `off` that are not 0 at reset, group by group (R442). -/
def resetNat (off : Nat) : Nat :=
  if off < 0x10000 then
    wordAt [(0, 0xD170100), (4, 0x10000), (0x1000, 3), (0x1004, 0x3E8), (0x1008, 0x14), (0x100C, 0xBB8),
      (0x1010, 0x13880), (0x1050, 0xE10), (0x2008, 0x10)] off
  else if off < 0x20000 then
    (if off < 0x12000 then wordAt [(0x10, 0x10), (0x90, 0x200000), (0xA4, 0x70)] (off % 256) else 0)
  else if off < 0x30000 then (if off < 0x24000 ∧ off % 64 = 0 then 1 else 0)
  else if off < 0x77000 then
    wordAt [(0x30008, 0xF424000), (0x30010, 0x10000), (0x30014, 0x3FF), (0x30018, 0x2DB7), (0x30040, 0x40),
      (0x64004, 0x800), (0x76008, 0xE00003E8), (0x7600C, 0x3E80002)] off
  else if off < 0x80000 then (if off < 0x77400 ∧ off % 16 = 0 then 0xE00000 else 0)
  else if off < 0xA0000 then
    (if off < 0x84000 then wordAt [(4, 0x40), (0x20, 0x10000000)] (off % 256) else wordAt [(0x84004, 4)] off)
  else if off < 0x100000 then
    (if off < 0xA0800 then wordAt [(0xA0024, 0x100), (0xA0400, 0x80008000)] off
     else if off < 0xA1000 then (if off < 0xA0900 ∧ off % 32 = 16 then 0xFFF0000 else 0)
     else if off < 0xA2000 ∨ (0xA4000 ≤ off ∧ off < 0xAC000) then (if off % 16 = 0 then 0x700 else 0)
     else 0)
  else if off < 0x200000 then wordAt [(0x18, 0x40004), (0x20, 4), (0x2C, 0xFFFFFFFF)] (off % 4096)
  else 0

/-- The reset word of a register (R442); an unassigned offset reads 0. -/
def regReset (off : Nat) : W32 := BitVec.ofNat 32 (resetNat off)

end Sys2Proof.Machine
end

