-- ==== Sys2Proof/Syntax.lean ====
section
/-! DEFINITION. The commands of the block: one constructor per row of the table of operations and events, in the
table's order, with the operands that come from outside the block. -/

namespace Sys2Proof

/-- Who makes a register access (R290, R435, R444): function `func` on the register port, or the debug port,
which acts as function 0. `same` says that it takes effect in the kclk cycle in which the block did what it did last; else in a
later one (R12, R452). -/
structure Acc where
  func : BitVec 8
  dbg : Bool
  same : Bool := false
  deriving DecidableEq, Repr

/-- A request of the control network without its operation code (R80): the row of the table gives the code.
`attach` is the attachment point, `index` the raw INDEX field [98:75] and `rsv` the reserved bits [58:0]. `code` is a reserved
operation code that stands in place of the row's (R72), `part` the PART of a command of function 0, for a request that the
DQU forms for it (R286): what enters at an attachment point has none. -/
structure CnpReq where
  attach : BitVec 2
  space : BitVec 2
  resp : Bool
  tag : BitVec 8
  master : BitVec 13
  index : BitVec 24
  gen : BitVec 16
  rsv : BitVec 59
  a : W64
  b : W64
  code : Option (BitVec 5) := none
  part : Option (BitVec 5) := none
  deriving DecidableEq, Repr

/-- What the PHY interface of a port received (R248): the two words of each lane that make a flit in the native code (R250),
or in RS544 mode the sixteen of each lane that make a codeword (R253). Symbol s is bits [10s + 9 : 10s]. -/
inductive RxFlit where
  | flit (w : BitVec 680)
  | codeword (w : BitVec 5440)
  deriving DecidableEq, Repr

/-- What the tap port holds of an ARRIVE beside its cistern (R138, R148): LAST of its beat, and an opcode that the Standpipe does
not take, where one stands in place of ARRIVE (R193). -/
structure ArriveBeat where
  last : Bool
  code : Option (BitVec 4) := none
  deriving DecidableEq, Repr

/-- The response to the reads of an image (R433), and how far from the image's base the bytes lie whose read was answered with
an error. -/
structure ImageResp where
  resp : BitVec 2
  fail : BitVec 32
  deriving DecidableEq, Repr

/-- A RESTORE (R278): RSEL and PEN of the word written, and what the area that RSEL selects holds in device memory. -/
structure RestoreWord where
  rsel : Bool
  pen : Bool
  area : List Byte
  deriving DecidableEq, Repr

/-- What a read of the register window names (R14): its offset, and the base-2 logarithm of its bytes, 2 for a word. -/
structure ReadAddr where
  off : BitVec 21
  size : BitVec 2 := 2
  deriving DecidableEq, Repr

/-- A received TRAIN flit after the decoder (R249, R253): whether it was corrected, and what its IDENT part says. -/
structure TrainFlit where
  corrected : Bool
  ident : Bool
  chip : BitVec 12
  port : BitVec 3
  epoch : BitVec 16
  rs544 : Bool
  deriving DecidableEq, Repr

/-- What raises a reset that has more than one source (R412): a pin, a register write, or the block itself. -/
inductive ResetSrc where
  | pin
  | write (acc : Acc)
  deriving DecidableEq, Repr

/-- The commands, one per row. -/
inductive Instr where
  /-- GRID_TICK_BOUNDARY (R50): A grid tick boundary takes effect and the die acts on TICKNO, TICK_MARKs, FAULT outcomes, first slots of new
  partition ticks and the doorbell poll, in that order. -/
  | gridTickBoundary
  /-- GRID_SLOT_BOUNDARY (R30): A grid slot boundary takes effect, driving WAIT polls and fast-poll doorbell reads. -/
  | gridSlotBoundary
  /-- PARTITION_SLOT_BOUNDARY (R112): A partition slot boundary takes effect and the Headgate runs the tick-end LATE outcome, re-issues, bind
  samples and the slot's rows. -/
  | partitionSlotBoundary (p : BitVec 5)
  /-- TB_LOAD (R24): A write of OBS_TB_SET_HI loads the Time Base, or is ignored with LOCKED_WR while the grid runs. -/
  | tbLoad (acc : Acc) (val : W32)
  /-- GRID_START (R33): A write of HG_CTRL.EN from 0 to 1 checks the grid settings and starts the grid or sets CFG_ERR. -/
  | gridStart (acc : Acc) (val : W32)
  /-- GRID_STOP (R34): A write of HG_CTRL.EN from 1 to 0 stops the grid, unless a partition runs, and sends a final TICK_MARK with
  GRIDSTOP. -/
  | gridStop (acc : Acc) (val : W32)
  /-- TICK_MARK (R52): A received TICK_MARK is checked against the own TICKNO, counts a mark error on mismatch, and arms or disarms
  the watchdog. -/
  | tickMark (port : BitVec 3)
  /-- TICK_MARK_WATCHDOG_EXPIRY (R53): An armed TICK_MARK watchdog sees a whole grid tick without a TICK_MARK and the port reports LINK_DOWN. -/
  | tickMarkWatchdogExpiry (port : BitVec 3)
  /-- STRETCH_CAP_EXPIRY (R47): No stretch has arrived by position e + cap − CLOSE, so the tick ends at the cap with the FAULT outcome and
  shift STRETCH_MAX. -/
  | stretchCapExpiry (p : BitVec 5)
  /-- FCTL (R265): A received FCTL beat carries the stretch x down the tick-close tree and the die applies it to the partition's
  next tick. -/
  | fctl (port : BitVec 3)
  /-- TIME_REQUEST_TIMER (R259): Every 16 µs of its TB a non-reference die in SYNC mode sends a TIME request on its TPORT. -/
  | timeRequestTimer
  /-- TIME_REQUEST (R259): A received TIME request is answered on the same link with T1, T2 and T3. -/
  | timeRequest (port : BitVec 3)
  /-- TIME_ANSWER (R259): A received TIME answer yields an offset estimate that the servo uses to slew the TB and update OFFS and
  INSYNC. -/
  | timeAnswer (port : BitVec 3)
  /-- ARRIVE (R72): A bank applies ARRIVE to a cistern, adding 1 to COUNT after the checks of R75. -/
  | arrive (q : CnpReq)
  /-- ARRIVE_N (R72): A bank applies ARRIVE_N(n) to a cistern, adding n to COUNT after the checks of R75. -/
  | arriveN (q : CnpReq)
  /-- POST_COUNT (R69): A bank applies POST_COUNT(n), adding n to TARGET and subtracting 1 from BASIN, and tests completion. -/
  | postCount (q : CnpReq)
  /-- REDUCE_INTO (R168): A bank combines a 64-byte payload into the chain basin and adds 1 to COUNT. -/
  | reduceInto (q : CnpReq) (pay : Payload)
  /-- CREDIT_RETURN (R196): A bank subtracts n from a CREDIT cistern's COUNT, or refuses with EXCESS if n exceeds COUNT. -/
  | creditReturn (q : CnpReq)
  /-- POLL (R85): A POLL passes its rights check and opens or joins a merge window, or is issued as an ordinary read. -/
  | poll (q : CnpReq)
  /-- POLL_WINDOW_CLOSE (R85): A merge window's 8 kclk end and the bank performs one read that answers every requester in the window. -/
  | pollWindowClose (cnum : Cnum)
  /-- ARM (R63): A bank arms a cistern from the definition in A and B, advancing GEN and clearing COUNT, or refuses it. -/
  | arm (q : CnpReq)
  /-- CLEAR (R63): A bank returns an ARMED, LATE or FAULT cistern to IDLE, or refuses a DONE cistern with BUSY. -/
  | clear (q : CnpReq)
  /-- FENCE (R63): Function 0 fences a cistern, abandoning pending deliveries. -/
  | fence (q : CnpReq)
  /-- UNFENCE (R63): Function 0 returns a FENCED cistern to IDLE. -/
  | unfence (q : CnpReq)
  /-- READ (R72): A bank returns a basin word or a well word unchanged. -/
  | read (q : CnpReq)
  /-- SEM_ADD (R225): A bank adds a signed d to the 32-bit count of a word or well if the result stays in range, otherwise answers
  FAILED. -/
  | semAdd (q : CnpReq)
  /-- TEST_AND_SET (R72): A bank writes v to a basin word that holds 0, otherwise answers FAILED. -/
  | testAndSet (q : CnpReq)
  /-- CAS (R224): A bank replaces a word or well equal to A with B, subject for wells to the ownership transitions. -/
  | cas (q : CnpReq)
  /-- SWAP (R224): A bank replaces a word or well with A, subject for wells to the ownership transitions. -/
  | swap (q : CnpReq)
  /-- INC_SAT (R72): A bank adds d to a basin word, saturating at 2^64 − 1. -/
  | incSat (q : CnpReq)
  /-- MAX_INTO (R72): A bank keeps the maximum of a basin word and v, signed or unsigned. -/
  | maxInto (q : CnpReq)
  /-- MIN_INTO (R72): A bank keeps the minimum of a basin word and v, signed or unsigned. -/
  | minInto (q : CnpReq)
  /-- SPILLWAY_FILL_DONE (R94): A Spillway image read returns and, if it passes R60, is installed in its frame, releasing queued operations. -/
  | spillwayFillDone (cnum : Cnum) (image : W128) (resp : BitVec 2)
  /-- SPILLWAY_WRITE_BACK_DONE (R94): The write-back of an evicted frame occupant is answered and the frame becomes free for the waiting fill. -/
  | spillwayWriteBackDone (frame : BitVec 21) (resp : BitVec 2)
  /-- SPILL_MISS_TIMEOUT (R96): A queued miss reaches PFM_PSPILL_TO × 64 kclk and every queued operation for that cistern is refused. -/
  | spillMissTimeout (cnum : Cnum)
  /-- CST_ALLOCATION_WRITE (R99): A write of a CST allocation register is checked for overlap and range and, if accepted, starts initialisation
  of new units. -/
  | cstAllocationWrite (acc : Acc) (p : BitVec 5) (off : BitVec 8) (val : W32)
  /-- ALLOCATION_INIT_DONE (R100): Initialisation of newly given units ends and INIT_BUSY clears. -/
  | allocationInitDone (p : BitVec 5)
  /-- SCRUB_WORD_DUE (R421): A scrub word falls due in a bank's scrub pass. -/
  | scrubWordDue (bank : BitVec 6)
  /-- SCRUB_READ (R421): A due scrub word is read in a free or reserved cycle and corrected, reported or rewritten. -/
  | scrubRead (bank : BitVec 6)
  /-- SCRUB_PERIOD_END (R421): A scrub period ends, setting BEHIND if the pass is unfinished and waking the die from K2 or K3. -/
  | scrubPeriodEnd
  /-- SCHED_LOAD (R106): A SCHED_LOAD command starts the read and check of a schedule image for a partition. -/
  | schedLoad (f : BitVec 8)
  /-- IMAGE_LOAD_DONE (R106): The image read completes and the load is checked, writes its lists and places the table, or is refused. -/
  | imageLoadDone (p : BitVec 5) (image : List Byte) (err : ImageResp)
  /-- ROW_STAGING (R109): The RAE stages rows up to DEPTH slots ahead while the partition's staging share has room. -/
  | rowStaging (p : BitVec 5)
  /-- ROW_READ_DONE (R110): A staged row's read returns and the row is checked, staged or rejected as ROW_BAD. -/
  | rowReadDone (p : BitVec 5) (row : BitVec 256) (resp : BitVec 2)
  /-- SWAP_STROBE (R113): The swap strobe leaves 12 kclk before a boundary so that every router swaps to its shadow binding. -/
  | swapStrobe (p : BitVec 5)
  /-- BIND_SAMPLE_RETURN (R115): A bind sample returns to the root, which sets the channel's mode and target and tests completion. -/
  | bindSampleReturn (chan : BitVec 5)
  /-- ROW_ARM (R114): An ARM row issues a BAU ARM with A from ARG and B from LAYER and OPERATOR. -/
  | rowArm (p : BitVec 5)
  /-- BIND (R114): A BIND row holds a cistern on a channel from SLOT for SPAN slots. -/
  | bind (p : BitVec 5)
  /-- RELEASE_AT (R114): A RELEASE_AT row completes an ARMED cistern with status DONE whatever its COUNT. -/
  | releaseAt (p : BitVec 5)
  /-- CHECK (R114): A CHECK row reads a cistern and records CHECK_COUNT or CHECK_STATUS on a discrepancy. -/
  | check (p : BitVec 5)
  /-- SNAPSHOT_ROW (R114): A SNAPSHOT row requests a snapshot of the partition at the next grid tick boundary. -/
  | snapshotRow (p : BitVec 5)
  /-- TAP_ARRIVE (R138): An ARRIVE request enters its leaf and is answered ACCEPT, NOT_BOUND, FENCED or ILLEGAL. -/
  | tapArrive (tap : BitVec 12) (cnum : Cnum) (last : ArriveBeat)
  /-- TAP_ARRIVE_N (R138): An ARRIVE_N request enters its leaf and is summed into the channel or refused. -/
  | tapArriveN (tap : BitVec 12) (cnum : Cnum) (arg : BitVec 22) (last : Bool)
  /-- TAP_REDUCE (R138): A four-beat REDUCE request enters its leaf and enters the payload path or is refused. -/
  | tapReduce (tap : BitVec 12) (cnum : Cnum) (arg : BitVec 22) (data : Payload) (lastOk : Bool)
  /-- PAYLOAD_COMBINE (R139): A router combines the held payload tokens of every child in its effective mask once they share a CHAIN. -/
  | payloadCombine (chan : BitVec 5) (level : BitVec 3) (router : BitVec 10)
  /-- SP_FENCE_WRITE (R153): A write of SP_FENCE sets or clears tap fences, which take effect at the leaves within 64 kclk. -/
  | spFenceWrite (acc : Acc) (w : BitVec 7) (val : W32)
  /-- PAIR_MISCOMPARE (R154): The two copies of a paired router miscompare and the router continues on the good copy or reports an
  unresolved miscompare. -/
  | pairMiscompare (pair : BitVec 9) (aBad bBad : Bool)
  /-- LEAF_SELF_CHECK_FAILURE (R155): A leaf router's self-check fails, writing CODE_UNCORRECTABLE entries and an always-on record. -/
  | leafSelfCheckFailure (leaf : BitVec 10)
  /-- RELEASE_ISSUE (R121): A queued notice or root completion takes a free release context and the engine reads its list and sends it
  down. -/
  | releaseIssue
  /-- HOLD_TO_FIFO (R122): The release at the head of a tap's hold moves into its FIFO once the FIFO has room and no release of that
  cistern. -/
  | holdToFifo (tap : BitVec 12)
  /-- RELEASE_TAKE (R150): The tap takes the last beat of the head release, freeing the FIFO entry and acknowledging it. -/
  | releaseTake (tap : BitVec 12)
  /-- REPORT_CYCLE (R146): In a leaf's report cycle it sends queued acknowledgement and undelivered reports to the release engine. -/
  | reportCycle (leaf : BitVec 10)
  /-- SP_BMODE_WRITE (R191): A write of an SP_BMODE register updates unlocked halves and sets MODE_IGN for locked or reserved ones. -/
  | spBmodeWrite (acc : Acc) (k : BitVec 9) (val : W32)
  /-- GRANT_MESSAGE (R201): The engine sends owed credits as one grant message on the release path when it gets its turn. -/
  | grantMessage (entry : BitVec 13)
  /-- CREDIT_GRANT_PLACE (R202): A leaf moves one credit from a grant slot into a tap FIFO as a CREDIT_GRANT token when there is room. -/
  | creditGrantPlace (leaf : BitVec 10)
  /-- HG_CRED_CLR (R209): A write of HG_CRED_CLR_HI ends the bound state of a grant entry or sets CLR_ERR. -/
  | hgCredClr (acc : Acc) (val : W32)
  /-- CREDIT_WINDOW_WRITE (R216): A write of HG_PCRED_FIRST or HG_PCRED_UNITS is checked for lock, overlap and range. -/
  | creditWindowWrite (acc : Acc) (p : BitVec 5) (units : Bool) (val : W32)
  /-- HG_QUOTA_WRITE (R130): A write of HG_PCHAN or HG_PSTAGE is checked against other partitions and sets QUOTA_ERR if refused. -/
  | hgQuotaWrite (acc : Acc) (p : BitVec 5) (stage : Bool) (val : W32)
  /-- FORCE (R231): The supervisor or function 0 forces the release of a well whose owner equals E, setting ABANDONED. -/
  | force (f : BitVec 8)
  /-- FREEING_PASS_START (R234): A freeing pass begins for every master in the pending set once no pass is running. -/
  | freeingPassStart
  /-- FREEING_PASS_END (R233): A freeing pass has read every well word, freeing the set's wells with ABANDONED set. -/
  | freeingPassEnd
  /-- RNOTICE (R239): A received RNOTICE adds the named masters of the sending chip to the home die's pending set. -/
  | rnotice (port : BitVec 3)
  /-- WELL_FORWARD_TIMEOUT (R240): A forwarded well request has no response after WEL_RTO.TO × 64 kclk and is answered FAILED. -/
  | wellForwardTimeout (tag : BitVec 8)
  /-- WELL_RIGHTS_WRITE (R230): A write of a well group's rights record is applied or ignored with CFG_LOCKED and LOCKED_WR. -/
  | wellRightsWrite (acc : Acc) (g : BitVec 10) (word : BitVec 2) (val : W32)
  /-- GROUP_INITIALISATION (R243): A write of 1 to WEL_GSTAT.INIT starts rewriting the group's wells as free, or is refused with INIT_ERR. -/
  | groupInitialisation (acc : Acc) (g : BitVec 10)
  /-- GROUP_INIT_DONE (R243): The group's wells have been rewritten and POISON and INIT clear. -/
  | groupInitDone (g : BitVec 10)
  /-- LANE_LOCK (R249): Both lanes of a port in PHY report lock and the port enters ALIGN. -/
  | laneLock (port : BitVec 3)
  /-- LANE_LOCK_LOSS (R256): A lane loses lock and the port goes to DOWN or back to PHY. -/
  | laneLockLoss (port : BitVec 3) (lane : Bool)
  /-- DOWN_TIMER_EXPIRY (R249): A port has spent 10 µs in DOWN and enters PHY. -/
  | downTimerExpiry (port : BitVec 3)
  /-- ACK_TIMEOUT (R256): ACK makes no progress for 2 µs with NORMAL flits outstanding and the port goes to DOWN. -/
  | ackTimeout (port : BitVec 3)
  /-- LINK_GRACE_EXPIRY (R256): A link stays out of UP and HOLD for LGRACE µs and is reported to the fabric. -/
  | linkGraceExpiry (port : BitVec 3)
  /-- TRAIN_FLIT (R249): A received TRAIN flit advances alignment or carries IDENT data that takes the port to UP, HOLD or DOWN. -/
  | trainFlit (port : BitVec 3) (t : TrainFlit)
  /-- IDLE_FLIT (R251): A received IDLE flit delivers only ACK and a returned credit; `first` are its words, two of each lane, and
  `rest` in RS544 mode the fourteen of each lane that follow in the codeword (R253). -/
  | idleFlit (port : BitVec 3) (first : BitVec 680) (rest : Option (BitVec 4760))
  /-- NORMAL_FLIT (R254): A received NORMAL flit is accepted in order or rejected, delivering its counts and beat once. -/
  | normalFlit (port : BitVec 3) (fl : RxFlit)
  /-- NAK (R254): A received NAK makes the sender resend from ACK + 1, or after 16 NAKs take the link down. -/
  | nak (port : BitVec 3) (fl : RxFlit)
  /-- CTRL_REQ (R237): A routed CTRL_REQ is forwarded toward its DST or applied on the home die as a cistern or well operation. -/
  | ctrlReq (port : BitVec 3)
  /-- CTRL_RSP (R252): A routed CTRL_RSP is forwarded or returned to the requesting master. -/
  | ctrlRsp (port : BitVec 3)
  /-- FWD (R184): A received FWD frame is applied as a REDUCE_INTO forward on its destination cistern. -/
  | fwd (port : BitVec 3)
  /-- FARRIVE (R267): A received FARRIVE is applied as an ARRIVE on its destination cistern without the GEN check. -/
  | farrive (port : BitVec 3)
  /-- MEMBER (R271): A received MEMBER beat is recorded in the seen table and flooded on if new. -/
  | member (port : BitVec 3)
  /-- CUL_JOIN (R271): A write of CUL_JOIN with GO raises a JOIN membership message for a tray. -/
  | culJoin (acc : Acc) (val : W32)
  /-- CISTERN_FORWARD_TIMEOUT (R269): A forwarded cistern operation has no response within the timeout and is answered BUSY. -/
  | cisternForwardTimeout (tag : BitVec 8)
  /-- FABRIC_CHANNEL_WRITE (R282): A write of CUL_FCH_CFG is checked and ignored with CFG_ERR if it breaks a condition. -/
  | fabricChannelWrite (acc : Acc) (n : BitVec 6) (word : BitVec 2) (val : W32)
  /-- REMOTE_RELEASE_WRITE (R283): A write of a remote release entry is ignored with CFG_ERR if it gives a source a ninth entry. -/
  | remoteReleaseWrite (acc : Acc) (e : BitVec 10) (word : BitVec 2) (val : W32)
  /-- SNAPSHOT_BLOCK_COPY (R276): The background copier reads an uncopied block and sends it to the area through the snapshot channel. -/
  | snapshotBlockCopy (p : BitVec 5)
  /-- SNAPSHOT_COMPLETE (R277): Every section has been written and COMPLETE is written last, ending the snapshot. -/
  | snapshotComplete (p : BitVec 5)
  /-- RESTORE (R278): A write of 1 to RESTORE, with RSEL and PEN of the same word and what the area holds, checks the selected area and writes every section back, or sets RST_ERR. -/
  | restore (acc : Acc) (p : BitVec 5) (area : RestoreWord)
  /-- RESTORE_DONE (R278): The last restore write is answered and RESTORE clears. -/
  | restoreDone (p : BitVec 5)
  /-- PARTITION_START (R291): CMD START takes a STOPPED partition to RESTARTING. -/
  | partitionStart (acc : Acc) (p : BitVec 5)
  /-- PARTITION_QUIESCE (R291): CMD QUIESCE requests that a partition in RUN enter QUIESCING at a tick boundary. -/
  | partitionQuiesce (acc : Acc) (p : BitVec 5)
  /-- PARTITION_ABORT (R291): CMD ABORT returns a RESTARTING partition to STOPPED. -/
  | partitionAbort (acc : Acc) (p : BitVec 5)
  /-- DRAINED (R295): A QUIESCING partition becomes drained and enters STOPPED, freezing its fabric channels. -/
  | drained (p : BitVec 5)
  /-- QUIESCE_TIMEOUT (R296): A partition not drained PFM_PQTO grid ticks after Q enters STOPPED with QTO set. -/
  | quiesceTimeout (p : BitVec 5)
  /-- PARTITION_RESOURCE_WRITE (R289): A write of a tap range, Pump channel or device-memory window register is checked for overlap and range. -/
  | partitionResourceWrite (acc : Acc) (p : BitVec 5) (off : BitVec 8) (val : W32)
  /-- FUNCTION_CONFIG_WRITE (R318): A write of PFM_FCFG or PFM_FWAIT is checked against the pool limits and may raise a function reset. -/
  | functionConfigWrite (acc : Acc) (f : BitVec 8) (wait : Bool) (val : W32)
  /-- DOORBELL_READ_DONE (R301): A doorbell record read returns and its indices update CMD_PROD and CPL_CONS or put the function in ERROR. -/
  | doorbellReadDone (f : BitVec 8) (rec : W32) (resp : BitVec 2)
  /-- DQ_KICK (R300): A write of DQ_KICK delivers CMD_PROD and CPL_CONS without a memory read. -/
  | dqKick (acc : Acc) (f : BitVec 8) (val : W32)
  /-- COMMAND_FETCH (R302): The DQU issues a read of up to 8 commands for a function when its turn comes and the completion ring has room. -/
  | commandFetch
  /-- COMMAND_READ_DONE (R302): A command read returns and its commands are checked and queued for issue. -/
  | commandReadDone (f : BitVec 8) (cmds : List (BitVec 512)) (resp : BitVec 2)
  /-- NOP (R303): A NOP command completes with no effect. -/
  | nop (f : BitVec 8)
  /-- ARM_COMMAND (R303): An ARM command issues a BAU ARM for the function's partition. -/
  | armCommand (f : BitVec 8)
  /-- POST (R303): A POST command issues the named BAU operation on a cistern or basin word. -/
  | post (f : BitVec 8)
  /-- REDUCE_FROM_HOST (R307): A REDUCE_FROM_HOST command reads its payload and then issues a REDUCE_INTO. -/
  | reduceFromHost (f : BitVec 8)
  /-- PAYLOAD_READ_DONE (R307): The payload read of REDUCE_FROM_HOST returns and the REDUCE_INTO is issued or the command is refused with
  BUS_FAULT. -/
  | payloadReadDone (f : BitVec 8) (data : Payload) (resp : BitVec 2)
  /-- WAIT (R306): A WAIT command takes a wait entry and polls its cistern at issue. -/
  | wait (f : BitVec 8)
  /-- SEM_READ (R303): A SEM command with SOP READ reads a well. -/
  | semRead (f : BitVec 8)
  /-- SEM_ADD_COMMAND (R303): A SEM command with SOP ADD issues SEM_ADD(D) on a well. -/
  | semAddCommand (f : BitVec 8)
  /-- LOCK_CAS (R305): A LOCK command with LOP CAS issues CAS(A, B) on a well. -/
  | lockCas (f : BitVec 8)
  /-- LOCK_SWAP (R305): A LOCK command with LOP SWAP issues SWAP(A) on a well. -/
  | lockSwap (f : BitVec 8)
  /-- CLAIM (R305): A LOCK CLAIM reads a well and claims it by CAS if it is free, reporting HELD. -/
  | claim (f : BitVec 8)
  /-- LOCK_RELEASE (R305): A LOCK RELEASE reads a well and releases it by CAS if the function owns it, else is refused with RIGHTS. -/
  | lockRelease (f : BitVec 8)
  /-- CLRAB (R305): A LOCK CLRAB clears ABANDONED on a well that the function owns. -/
  | clrab (f : BitVec 8)
  /-- SNAPSHOT (R307): A SNAPSHOT command requests a snapshot and completes when COMPLETE is written. -/
  | snapshot (f : BitVec 8)
  /-- COMPLETION_WRITE_DONE (R308): A completion write is answered, CPL_PROD advances and an event is raised if IRQ is set. -/
  | completionWriteDone (f : BitVec 8) (resp : BitVec 2)
  /-- HOLDOFF_EXPIRY (R314): A vector's holdoff interval ends and one message covers every event that waited. -/
  | holdoffExpiry (f : BitVec 8) (v : BitVec 5)
  /-- VMASK_WRITE (R314): A write of DQ_VMASK clearing a bit whose pending bit is 1 sends one message and clears the pending bit. -/
  | vmaskWrite (acc : Acc) (f : BitVec 8) (val : W32)
  /-- QUEUE_ENABLE (R316): A write of 1 to DQ_CTRL.EN while IDLE resets the ring indices and returns the function to ACTIVE. -/
  | queueEnable (acc : Acc) (f : BitVec 8)
  /-- QUEUE_DISABLE (R316): A write of 0 to DQ_CTRL.EN stops fetching and ends outstanding WAITs without completions. -/
  | queueDisable (acc : Acc) (f : BitVec 8)
  /-- FAULT_ENTRY_WRITE_DONE (R313): A fault entry's write is answered and an event is raised on FVEC of FFN. -/
  | faultEntryWriteDone (p : BitVec 5) (resp : BitVec 2)
  /-- CHANNEL_ENABLE (R332): A write of 1 to a Pump channel's EN takes it from DISABLED to IDLE with CUR := HEAD. -/
  | channelEnable (acc : Acc) (c : BitVec 6) (val : W32)
  /-- CHANNEL_DISABLE (R332): A write of 0 to a Pump channel's EN disables it, aborting in Kyordol-F or draining in Kyordol-C. -/
  | channelDisable (acc : Acc) (c : BitVec 6) (val : W32)
  /-- HEAD_WRITE (R332): A HEAD write stores the first descriptor address and sets CUR in IDLE or ERROR. -/
  | headWrite (acc : Acc) (win : Bool) (c : BitVec 6) (val : W32)
  /-- ADD (R332): CMD ADD adds n descriptors to CNT and makes the channel ACTIVE. -/
  | add (acc : Acc) (win : Bool) (c : BitVec 6) (n : BitVec 16)
  /-- ABORT (R338): CMD ABORT puts an ACTIVE channel into ABORTING at its next burst boundary. -/
  | abort (acc : Acc) (win : Bool) (c : BitVec 6)
  /-- DESCRIPTOR_READ (R333): A channel chosen by arbitration issues a descriptor read while CNT covers it. -/
  | descriptorRead
  /-- DESCRIPTOR_READ_DONE (R330): A descriptor read returns and is checked, completing with FORMAT or RIGHTS if malformed. -/
  | descriptorReadDone (c : BitVec 6) (desc : BitVec 256) (resp : BitVec 2)
  /-- BURST_READ_ISSUE (R336): A channel chosen by arbitration and the rate limiter issues one burst read. -/
  | burstReadIssue
  /-- BURST_READ_DONE (R336): A burst's read data is complete and its write is issued, with any swap applied. -/
  | burstReadDone (c : BitVec 6) (data : List Byte) (resp : BitVec 2)
  /-- BURST_WRITE_DONE (R334): A burst write is answered and the descriptor completes or writes back when all its writes are answered. -/
  | burstWriteDone (c : BitVec 6) (resp : BitVec 2)
  /-- DESCRIPTOR_WRITE_BACK_DONE (R334): A descriptor's write-back is answered, the descriptor completes and CNT is decremented. -/
  | descriptorWriteBackDone (c : BitVec 6) (resp : BitVec 2)
  /-- OP_ISSUE (R331): An OP descriptor issues its BAU operation once every earlier write of the channel is answered. -/
  | opIssue (c : BitVec 6)
  /-- OP_RESPONSE (R331): The response to an OP descriptor arrives and the descriptor completes with its RESULT. -/
  | opResponse (c : BitVec 6)
  /-- RATE_WINDOW_START (R340): At each 1,024-mclk window start every channel's credit is refilled by SHARE × 256. -/
  | rateWindowStart
  /-- CHANNEL_QUIET (R338): An ABORTING, stopping or DRAINING channel becomes quiet and writes back its descriptor in progress and changes
  state. -/
  | channelQuiet (c : BitVec 6)
  /-- PUMP_RESUME (R343): A write of 1 to PMP_CTRL.RESUME requests the end of a Pump-wide stop. -/
  | pumpResume (acc : Acc)
  /-- PUMP_RESUME_EFFECT (R343): Once every channel is quiet, STOPPED channels enter IDLE and the stop clears. -/
  | pumpResumeEffect
  /-- SUMP_CONFIG_WRITE (R349): A write of a sump's OBS_SCFG is checked for buffer units and ring window and ignored with BUF_ERR if refused. -/
  | sumpConfigWrite (acc : Acc) (sump : BitVec 4) (val : W32)
  /-- COUNTER_CLEAR (R376): A write of 1 to CLR of a counter select sets the counter to 0. -/
  | counterClear (acc : Acc) (glob : Bool) (p : BitVec 5) (n : BitVec 8) (val : W32)
  /-- TCLK_WINDOW (R359): A 256-kclk window ends and a tap clock region's state is set to RUN, STRETCHED or STOPPED. -/
  | tclkWindow (r : BitVec 3) (count : BitVec 16)
  /-- TAP_BREAK (R360): A rising edge of TAP_BREAK on a tap raises a halt of the partitions in its HALTSET. -/
  | tapBreak (tap : BitVec 12)
  /-- HALT_COMMAND (R360): Function 0 writes HALT to OBS_HCMD, raising a halt of the partitions in OBS_HMASK. -/
  | haltCommand (acc : Acc)
  /-- RESUME_COMMAND (R363): Function 0 writes RESUME to OBS_HCMD, flooding a RESUME with effective tick E. -/
  | resumeCommand (acc : Acc)
  /-- STOP (R364): Function 0 writes STOP to OBS_HCMD, flooding a global STOP with effective tick E. -/
  | stop (acc : Acc)
  /-- START (R364): Function 0 writes START to OBS_HCMD, flooding a global START with effective tick E′. -/
  | start (acc : Acc)
  /-- HALT_TOKEN (R361): A received HALT beat is passed to the Headgate and flooded on if its halt ID is new. -/
  | haltToken (port : BitVec 3)
  /-- RESUME_TOKEN (R363): A received RESUME beat is flooded on and passed to the Headgate at boundary E − 1. -/
  | resumeToken (port : BitVec 3)
  /-- STOP_CUT (R367): A die's STOP cut becomes complete and it sets STOP_CUT and writes a STOP record. -/
  | stopCut
  /-- DUMP_TENSOR (R370): A DUMP_TENSOR command is checked and arms a dump. -/
  | dumpTensor (f : BitVec 8)
  /-- DUMP_DONE (R372): Every write of a dump's copy is answered and DUMP_TENSOR completes DONE. -/
  | dumpDone (d : BitVec 4)
  /-- DELTA_TIMER (R383): While the grid is stopped, every 1,048,576 kclk a DELTA frame is cut. -/
  | deltaTimer
  /-- STATUS_WORD (R384): A status word from the Gauge answers a frame ACCEPT, BAD or REFUSED and FSEQ advances or the frame is resent. -/
  | statusWord (w : BitVec 16)
  /-- REPORT_FRAME (R384): A REPORT frame from the Gauge updates the block's copy of the Gauge window. -/
  | reportFrame (words : List (BitVec 16))
  /-- PFM_GAU_MARK (R385): A write of PFM_GAU_MARK with GO cuts a DELTA frame for one partition and queues a MARK frame. -/
  | pfmGauMark (acc : Acc) (val : W32)
  /-- PFM_GAU_CFGW (R391): A write of PFM_GAU_CFGW_HI queues a CONFIG frame. -/
  | pfmGauCfgw (acc : Acc) (val : W32)
  /-- DELTA_FRAME (R384): The Gauge receives a DELTA frame and applies, acknowledges or logs it by its FSEQ. -/
  | deltaFrame (words : List (BitVec 16))
  /-- MARK_FRAME (R385): The Gauge receives a MARK frame and writes an INTERVAL and a TENANT record. -/
  | markFrame (words : List (BitVec 16))
  /-- CONFIG_FRAME (R391): The Gauge receives a CONFIG frame and applies it only with the seal open and a value in range. -/
  | configFrame (words : List (BitVec 16))
  /-- DBG_UNLOCK (R393): A write of PFM_PRIV.DBG_UNLOCK opens debug access if presence allows, otherwise is refused. -/
  | dbgUnlock (acc : Acc)
  /-- DBG_LOCK (R393): A write of PFM_PRIV.DBG_LOCK closes debug access. -/
  | dbgLock (acc : Acc) (both : Bool)
  /-- GAUGE_POWER_UP (R389): The Gauge island powers up, restores totals from the log and writes POWER_UP. -/
  | gaugePowerUp
  /-- GAU_PWRFAIL (R380): GAU_PWRFAIL_N falls and the Gauge writes pending INTERVAL records and POWER_DOWN. -/
  | gauPwrfail
  /-- INTERVAL (R388): Every PERIOD seconds of GTIME the Gauge writes an INTERVAL record for each changed set. -/
  | interval
  /-- SEAL_OPEN (R390): The debounced seal opens, SEAL_CNT increments and a SEAL_OPEN record is written. -/
  | sealOpen
  /-- SEAL_CLOSE (R390): The debounced seal closes and a SEAL_CLOSE record is written. -/
  | sealClose
  /-- PRESENCE_WINDOW_OPEN (R392): PRES_N has been low for 100 ms and a presence window opens or restarts. -/
  | presenceWindowOpen
  /-- PRESENCE_WINDOW_CLOSE (R392): An open presence window reaches 120 s and closes. -/
  | presenceWindowClose
  /-- PRES_STUCK (R392): PRES_N stays low over 10 s, closing any window and writing PRESENCE event 1. -/
  | presStuck
  /-- READ_ID (R394): A READ_ID request on GAU_RD returns METER_ID, version, SEAL_CNT and GTIME. -/
  | readId (req : BitVec 96)
  /-- READ_REGS (R394): A READ_REGS request returns words of the Gauge window. -/
  | readRegs (req : BitVec 96)
  /-- READ_LOG (R394): A READ_LOG request returns one log record or NOT_HELD. -/
  | readLog (req : BitVec 96)
  /-- LINK_UP_TIMEOUT (R395): No status word for 1 s of kclk time makes the block show LINK_UP 0. -/
  | linkUpTimeout
  /-- CLOCK_LOSS (R400): A window of 4,096 kclk with no edge of tbclk, mclk or cclk sets that clock's loss bit. -/
  | clockLoss (clk : BitVec 2)
  /-- POWER_ON_RESET (R402): PO_RST_N is released, the configuration record is loaded and checked, and block reset follows or CFG_FAULT is
  entered. -/
  | powerOnReset
  /-- BLOCK_RESET (R413): BLK_RST_N or PFM_RST KIND 1 returns settings to reset values and starts initialisation of CST and wells. -/
  | blockReset (src : ResetSrc)
  /-- BLOCK_INIT_DONE (R413): Block initialisation ends and TP_READY rises on every good tap. -/
  | blockInitDone
  /-- PARTITION_RESET (R414): A partition reset stops the partition, discards its state, raises function, channel and freeing resets and
  initialises its units. -/
  | partitionReset (acc : Acc) (p : BitVec 5)
  /-- FUNCTION_RESET (R415): A function reset disables the queues, resets the setup page, frees wait entries and raises a freeing pass. -/
  | functionReset (src : ResetSrc) (f : BitVec 8)
  /-- TAP_RESET (R416): A tap reset drops TP_READY, handles the tap as fenced, discards its queues and raises a freeing pass. -/
  | tapReset (src : ResetSrc) (tap : BitVec 12)
  /-- CULVERT_PORT_RESET (R417): A Culvert port reset takes the port down through OFF and discards its buffers and counters. -/
  | culvertPortReset (acc : Acc) (port : BitVec 3)
  /-- PUMP_CHANNEL_RESET (R418): A Pump channel reset stops the channel by its build's means, leaves it DISABLED and raises a freeing pass. -/
  | pumpChannelReset (acc : Acc) (c : BitVec 6)
  /-- WAKE_TIMER (R409): The wake timer reaches its setting and starts a wake toward K0 before the next scheduled event. -/
  | wakeTimer
  /-- WAKE_DONE (R407): A wake finishes and the block is in K0, releasing held traffic and waiting resets. -/
  | wakeDone
  /-- COMMIT (R406): A write of PFM_CFG_CTRL.COMMIT checks presence and the staged record and rewrites the configuration store. -/
  | commit (acc : Acc)
  /-- CONFIG_REWRITE_DONE (R406): The erase, program and readback of a rewrite finish and DONE or ERR is set with FCODE. -/
  | configRewriteDone (timeout : Bool) (readback : List Byte)
  /-- RELOAD (R406): A write of RELOAD in CFG_FAULT loads and checks the configuration record again. -/
  | reload (acc : Acc)
  /-- REGISTER_WRITE (R10): A write to a register with no row of its own changes its fields under its types, locks and reserved encodings. -/
  | registerWrite (acc : Acc) (off : BitVec 21) (size : BitVec 2) (val : W32)
  /-- PO_RST_N_ASSERTION (R428): PO_RST_N is asserted and every output goes to and holds its reset value while inputs are ignored. -/
  | poRstNAssertion
  /-- BLK_RST_N_RELEASE (R413): BLK_RST_N is released and the initialisation of CST words and wells begins, counted from the release. -/
  | blkRstNRelease
  /-- TAP_RST_N_RELEASE (R412): TAP_RST_N of a tap is released and the tap reset's remaining work runs toward its end. -/
  | tapRstNRelease (tap : BitVec 12)
  /-- TP_READY_RETURN (R416): 64 kclk after the end of a tap reset, TP_READY rises and the tap stops being handled as fenced. -/
  | tpReadyReturn (tap : BitVec 12)
  /-- RECORD_LOAD_DONE (R402): The read of the configuration record from the store completes and the record is checked, giving CFGST OK or
  CFG_FAULT with CAUSE. -/
  | recordLoadDone (rec : List Byte)
  /-- CLOCK_RETURN (R400): A monitored clock (tbclk, mclk or cclk) resumes, so the TB counts again, memory transactions proceed and the
  CNP accepts requests. -/
  | clockReturn (clk : BitVec 2)
  /-- TIME_ESTIMATE_AGED (R260): With its TPORT link down, a die's time estimate ages past 1 ms and the die becomes out of bound, clearing
  INSYNC. -/
  | timeEstimateAged
  /-- HALT_SEEN_ENTRY_RETIRE (R361): A halt seen-table entry retires 1 ms after it was made, so a later beat with the same origin and halt ID
  floods again. -/
  | haltSeenEntryRetire (chip : BitVec 12) (id : BitVec 16)
  /-- SCOREBOARD_RECORD_WRITE_DONE (R323): The memory write of a scoreboard record is answered; an error response loses the record, counts it in
  HG_PSB_DROP, writes BUS_FAULT and starts the Pump-wide stop. -/
  | scoreboardRecordWriteDone (p : BitVec 5) (resp : BitVec 2)
  /-- LO_READ_CAPTURE (R15): A read of a _LO register captures all 64 bits of the pair into the function's holding register for the next
  _HI read. -/
  | loReadCapture (acc : Acc) (off : ReadAddr)
  /-- CFG_JMP_CHANGE (R392): The debounced CFG_JMP input changes and the Gauge reports the new value in GAU_STATUS. -/
  | cfgJmpChange (v : Bool)
  deriving DecidableEq, Repr

end Sys2Proof
end

