-- ==== Sys2Proof/WellFormed.lean ====
section
/-! DEFINITION. Which commands are well formed: their operands name something that the larger build has, and carry the word
that makes them the command of their row. A meaning is total all the same: an operand that names nothing changes nothing. -/

namespace Sys2Proof

/-- The debug port acts as function 0 (R435). -/
def Acc.wf (a : Acc) : Bool := !a.dbg || a.func == 0

/-- A port number of the larger build (R4). -/
def portWf (k : BitVec 3) : Bool := decide (k.toNat < 6)

/-- A partition's allocation register (R98). -/
def allocOff (o : BitVec 8) : Bool := decide (0x80 ≤ o.toNat) && decide (o.toNat ≤ 0xA4) && o.toNat % 4 == 0

/-- A partition's resource register (R289). -/
def resourceOff (o : BitVec 8) : Bool := decide (0x14 ≤ o.toNat) && decide (o.toNat ≤ 0x48) && o.toNat % 4 == 0

/-- An image of 576 bytes (R401). -/
def recordWf (l : List Byte) : Bool := l.length == 576

/-- The word of a rights record, a channel or a remote release entry: the fourth is no setting (R242, R282, R283). -/
def wordWf (w : BitVec 2) : Bool := w != 3

/-- A _LO word of a pair (R15). -/
def loWf (off : BitVec 21) : Bool :=
  match Machine.descOf false off.toNat with
  | some d => d.pair == .lo
  | none => false

/-- The router of a payload combine: level 1 to 6 and a number that level has (R131). -/
def routerWf (level : BitVec 3) (r : BitVec 10) : Bool :=
  decide (1 ≤ level.toNat) && decide (level.toNat ≤ 6) && decide (r.toNat < 4 ^ (6 - level.toNat))

/-- A request's code in place of the row's is a reserved one (R72), and the PART of a command of function 0 stands beside that
function's MASTER (R286). -/
def CnpReq.wf (q : CnpReq) : Bool :=
  q.code.all (fun c => c == 0 || decide (0x0B ≤ c.toNat ∧ c.toNat ≤ 0x0F) || decide (0x18 ≤ c.toNat))
    && (q.part.isNone || q.master == 0x1000)

/-- What raises a reset is well formed. -/
def ResetSrc.wf : ResetSrc → Bool
  | .pin => true
  | .write acc => acc.wf

/-- The well-formed commands. -/
def Instr.wf : Instr → Bool
  | .tbLoad acc _ => acc.wf
  | .gridStart acc val => acc.wf && val.getLsbD 0
  | .gridStop acc val => acc.wf && !val.getLsbD 0
  | .tickMark k => portWf k
  | .tickMarkWatchdogExpiry k => portWf k
  | .fctl k => portWf k
  | .timeRequest k => portWf k
  | .timeAnswer k => portWf k
  | .cstAllocationWrite acc _ off _ => acc.wf && allocOff off
  | .imageLoadDone _ image _ => decide (image.length < 2 ^ 32)
  | .payloadCombine _ level r => routerWf level r
  | .spFenceWrite acc _ _ => acc.wf
  | .spBmodeWrite acc _ _ => acc.wf
  | .pairMiscompare pair _ _ => decide (pair.toNat ≤ 340)
  | .hgCredClr acc _ => acc.wf
  | .creditWindowWrite acc _ _ _ => acc.wf
  | .hgQuotaWrite acc _ _ _ => acc.wf
  | .wellRightsWrite acc _ word _ => acc.wf && wordWf word
  | .groupInitialisation acc _ => acc.wf
  | .laneLock k => portWf k
  | .laneLockLoss k _ => portWf k
  | .downTimerExpiry k => portWf k
  | .ackTimeout k => portWf k
  | .linkGraceExpiry k => portWf k
  | .trainFlit k _ => portWf k
  | .idleFlit k _ _ => portWf k
  | .normalFlit k _ => portWf k
  | .nak k _ => portWf k
  | .ctrlReq k => portWf k
  | .ctrlRsp k => portWf k
  | .fwd k => portWf k
  | .farrive k => portWf k
  | .member k => portWf k
  | .rnotice k => portWf k
  | .culJoin acc val => acc.wf && val.getLsbD 31
  | .fabricChannelWrite acc _ word _ => acc.wf && wordWf word
  | .remoteReleaseWrite acc _ word _ => acc.wf && wordWf word
  | .restore acc _ _ => acc.wf
  | .partitionStart acc _ => acc.wf
  | .partitionQuiesce acc _ => acc.wf
  | .partitionAbort acc _ => acc.wf
  | .partitionResourceWrite acc _ off _ => acc.wf && resourceOff off
  | .functionConfigWrite acc _ _ _ => acc.wf
  | .dqKick acc _ _ => acc.wf
  | .commandReadDone _ cmds _ => decide (cmds.length ≤ 8)
  | .vmaskWrite acc _ _ => acc.wf
  | .queueEnable acc _ => acc.wf
  | .queueDisable acc _ => acc.wf
  | .channelEnable acc _ val => acc.wf && val.getLsbD 31
  | .channelDisable acc _ val => acc.wf && !val.getLsbD 31
  | .headWrite acc _ _ _ => acc.wf
  | .add acc _ _ _ => acc.wf
  | .abort acc _ _ => acc.wf
  | .burstReadDone _ data _ => decide (data.length ≤ 4096)
  | .pumpResume acc => acc.wf
  | .sumpConfigWrite acc _ _ => acc.wf
  | .counterClear acc glob _ i val => acc.wf && (glob || decide (i.toNat < 64)) && val.getLsbD 31
  | .haltCommand acc => acc.wf
  | .resumeCommand acc => acc.wf
  | .stop acc => acc.wf
  | .start acc => acc.wf
  | .haltToken k => portWf k
  | .resumeToken k => portWf k
  | .pfmGauMark acc val => acc.wf && val.getLsbD 31
  | .pfmGauCfgw acc _ => acc.wf
  | .dbgUnlock acc => acc.wf
  | .dbgLock acc _ => acc.wf
  | .clockLoss clk => decide (clk.toNat < 3)
  | .clockReturn clk => decide (clk.toNat < 3)
  | .blockReset src => src.wf
  | .partitionReset acc _ => acc.wf
  | .functionReset src _ => src.wf
  | .tapReset src _ => src.wf
  | .culvertPortReset acc k => acc.wf && portWf k
  | .pumpChannelReset acc _ => acc.wf
  | .commit acc => acc.wf
  | .configRewriteDone timeout readback => timeout || recordWf readback
  | .reload acc => acc.wf
  | .registerWrite acc _ _ _ => acc.wf
  | .recordLoadDone rec => recordWf rec
  | .loReadCapture acc a => acc.wf && loWf a.off
  | .gridTickBoundary => true
  | .gridSlotBoundary => true
  | .partitionSlotBoundary .. => true
  | .stretchCapExpiry .. => true
  | .timeRequestTimer => true
  | .arrive q => q.wf
  | .arriveN q => q.wf
  | .postCount q => q.wf
  | .reduceInto q _ => q.wf
  | .creditReturn q => q.wf
  | .poll q => q.wf
  | .pollWindowClose .. => true
  | .arm q => q.wf
  | .clear q => q.wf
  | .fence q => q.wf
  | .unfence q => q.wf
  | .read q => q.wf
  | .semAdd q => q.wf
  | .testAndSet q => q.wf
  | .cas q => q.wf
  | .swap q => q.wf
  | .incSat q => q.wf
  | .maxInto q => q.wf
  | .minInto q => q.wf
  | .spillwayFillDone .. => true
  | .spillwayWriteBackDone .. => true
  | .spillMissTimeout .. => true
  | .allocationInitDone .. => true
  | .scrubWordDue .. => true
  | .scrubRead .. => true
  | .scrubPeriodEnd => true
  | .schedLoad .. => true
  | .rowStaging .. => true
  | .rowReadDone .. => true
  | .swapStrobe .. => true
  | .bindSampleReturn .. => true
  | .rowArm .. => true
  | .bind .. => true
  | .releaseAt .. => true
  | .check .. => true
  | .snapshotRow .. => true
  | .tapArrive _ _ b => b.code.all (fun c => c != 1 && c != 2 && c != 4)
  | .tapArriveN .. => true
  | .tapReduce .. => true
  | .leafSelfCheckFailure .. => true
  | .releaseIssue => true
  | .holdToFifo .. => true
  | .releaseTake .. => true
  | .reportCycle .. => true
  | .grantMessage .. => true
  | .creditGrantPlace .. => true
  | .force .. => true
  | .freeingPassStart => true
  | .freeingPassEnd => true
  | .wellForwardTimeout .. => true
  | .groupInitDone .. => true
  | .cisternForwardTimeout .. => true
  | .snapshotBlockCopy .. => true
  | .snapshotComplete .. => true
  | .restoreDone .. => true
  | .drained .. => true
  | .quiesceTimeout .. => true
  | .doorbellReadDone .. => true
  | .commandFetch => true
  | .nop .. => true
  | .armCommand .. => true
  | .post .. => true
  | .reduceFromHost .. => true
  | .payloadReadDone .. => true
  | .wait .. => true
  | .semRead .. => true
  | .semAddCommand .. => true
  | .lockCas .. => true
  | .lockSwap .. => true
  | .claim .. => true
  | .lockRelease .. => true
  | .clrab .. => true
  | .snapshot .. => true
  | .completionWriteDone .. => true
  | .holdoffExpiry .. => true
  | .faultEntryWriteDone .. => true
  | .descriptorRead => true
  | .descriptorReadDone .. => true
  | .burstReadIssue => true
  | .burstWriteDone .. => true
  | .descriptorWriteBackDone .. => true
  | .opIssue .. => true
  | .opResponse .. => true
  | .rateWindowStart => true
  | .channelQuiet .. => true
  | .pumpResumeEffect => true
  | .tclkWindow .. => true
  | .tapBreak .. => true
  | .stopCut => true
  | .dumpTensor .. => true
  | .dumpDone .. => true
  | .deltaTimer => true
  | .statusWord .. => true
  | .reportFrame .. => true
  | .deltaFrame .. => true
  | .markFrame .. => true
  | .configFrame .. => true
  | .gaugePowerUp => true
  | .gauPwrfail => true
  | .interval => true
  | .sealOpen => true
  | .sealClose => true
  | .presenceWindowOpen => true
  | .presenceWindowClose => true
  | .presStuck => true
  | .readId .. => true
  | .readRegs .. => true
  | .readLog .. => true
  | .linkUpTimeout => true
  | .powerOnReset => true
  | .blockInitDone => true
  | .wakeTimer => true
  | .wakeDone => true
  | .poRstNAssertion => true
  | .blkRstNRelease => true
  | .tapRstNRelease .. => true
  | .tpReadyReturn .. => true
  | .timeEstimateAged => true
  | .haltSeenEntryRetire .. => true
  | .scoreboardRecordWriteDone .. => true
  | .cfgJmpChange .. => true

end Sys2Proof
end

