-- ==== Sys2Proof/Machine/Code.lean ====
section
/-! DEFINITION. The symbol code of the CST and well memories (R420). A word's errors are held as a pattern of 160
bits, data symbols 0 to 15 and check symbols 16 to 19, which the code is linear in: what the decoder does depends on
the pattern alone. Symbol i stands for the coefficient of degree i (assumption 40). -/

namespace Sys2Proof.Machine

/-- Multiplication by x in GF(2^8) with x^8 + x^4 + x^3 + x^2 + 1. -/
def gfX (a : Nat) : Nat := if a < 128 then 2 * a else (2 * a - 256) ^^^ 0x1D

/-- Multiplication in GF(2^8). -/
def gfMul (a b : Nat) : Nat :=
  ((List.range 8).foldl (fun (r : Nat × Nat) i => (if b.testBit i then r.1 ^^^ r.2 else r.1, gfX r.2)) (0, a)).1

/-- α^n. -/
def gfPow : Nat → Nat
  | 0 => 1
  | n + 1 => gfX (gfPow n)

/-- The inverse: a^254. -/
def gfInv (a : Nat) : Nat := (List.range 253).foldl (fun r _ => gfMul r a) a

/-- Symbol i of a pattern. -/
def symb (e i : Nat) : Nat := (e >>> (8 * i)) % 256

/-- Syndrome j: the pattern at root α^j. -/
def syndrome (e j : Nat) : Nat := (List.range 20).foldl (fun a i => a ^^^ gfMul (symb e i) (gfPow (i * j))) 0

/-- The errors `u` at symbol i and `v` at symbol k explain the four syndromes. -/
def explains (s : Nat → Nat) (i u k v : Nat) : Bool :=
  (List.range 4).all (fun j => s j == (gfMul u (gfPow (i * j)) ^^^ gfMul v (gfPow (k * j))))

/-- What the decoder adds to a word of pattern `e`: `none` where it reports the word uncorrectable. -/
def rsGuess (e : Nat) : Option Nat :=
  let s := syndrome e
  match (List.range 20).find? (fun i => explains s i (s 0) i 0) with
  | some i => some (s 0 * 2 ^ (8 * i))
  | none =>
    ((List.range 20).flatMap (fun i => ((List.range 20).drop (i + 1)).map (fun k => (i, k)))).findSome? (fun p =>
      let d := gfMul (s 1 ^^^ gfMul (gfPow p.1) (s 0)) (gfInv (gfPow p.1 ^^^ gfPow p.2))
      if explains s p.1 (s 0 ^^^ d) p.2 d then some ((s 0 ^^^ d) * 2 ^ (8 * p.1) + d * 2 ^ (8 * p.2)) else none)

/-- The pattern that stays after decoding: 0 where every error is corrected, another codeword where the pattern lay
within two symbols of one, `none` where the word is uncorrectable. -/
def rsDecode (e : Nat) : Option Nat :=
  if (List.range 4).all (fun j => syndrome e j == 0) then some e
  else (rsGuess e).map (fun g => e ^^^ g)

end Sys2Proof.Machine
end

