-- ==== Sys2Proof/Machine/Fec.lean ====
section
/-! DEFINITION. The error codes of a Culvert link (R250, R253) and the 170-bit words that its flits travel in (R248). A code is
given by its symbols and check symbols: 68 and 4 of the native code, 544 and 30 of RS544 mode. Its roots are α^0, α^1, … with α = x,
and symbol 0 has the highest degree, as in the code of IEEE 802.3 that R253 names (assumption 68). -/

namespace Sys2Proof.Machine

/-! ## GF(2^10) with x^10 + x^3 + 1 (R250) -/

/-- Multiplication by x. -/
def g10X (a : Nat) : Nat := if a < 512 then 2 * a else (2 * a - 1024) ^^^ 9

/-- Multiplication. -/
def g10Mul (a b : Nat) : Nat :=
  ((List.range 10).foldl (fun (r : Nat × Nat) i => (if b.testBit i then r.1 ^^^ r.2 else r.1, g10X r.2)) (0, a)).1

/-- α^n. -/
def g10Pow : Nat → Nat
  | 0 => 1
  | n + 1 => g10X (g10Pow n)

/-- The inverse: a^1022. -/
def g10Inv (a : Nat) : Nat := (List.range 1021).foldl (fun r _ => g10Mul r a) a

/-! ## Polynomials over it, lowest degree first -/

/-- The sum. -/
def polyAdd : List Nat → List Nat → List Nat
  | [], q => q
  | p, [] => p
  | a :: p, b :: q => (a ^^^ b) :: polyAdd p q

/-- The product. -/
def polyMul : List Nat → List Nat → List Nat
  | [], _ => []
  | a :: p, q => polyAdd (q.map (g10Mul a)) (0 :: polyMul p q)

/-- The value at a point. -/
def polyAt (p : List Nat) (x : Nat) : Nat := p.foldr (fun a v => a ^^^ g10Mul v x) 0

/-! ## Encoding -/

/-- The generator polynomial of `nk` check symbols. -/
def fecGen (nk : Nat) : List Nat := (List.range nk).foldl (fun p j => polyMul [g10Pow j, 1] p) [1]

/-- One data symbol enters the remainder, which stands lowest degree first. -/
def fecStep (gen r : List Nat) (d : Nat) : List Nat :=
  polyAdd (0 :: r.dropLast) ((gen.take r.length).map (g10Mul (d ^^^ r.getLastD 0)))

/-- The check symbols of a list of data symbols, in the order in which they follow them. -/
def fecCheck (nk : Nat) (data : List Nat) : List Nat :=
  (data.foldl (fecStep (fecGen nk)) (List.replicate nk 0)).reverse

/-! ## Decoding -/

/-- The value of a received word at α^j. -/
def fecSyndrome (w : List Nat) (j : Nat) : Nat := polyAt w.reverse (g10Pow j)

/-- The search for the error locator by Berlekamp and Massey: the locator, the last one before its length changed, the length,
the steps since, and the discrepancy then. -/
structure Locator where
  c : List Nat := [1]
  b : List Nat := [1]
  len : Nat := 0
  m : Nat := 1
  d : Nat := 1

/-- Step `n` of the search over the syndromes `syn`. -/
def Locator.step (syn : List Nat) (x : Locator) (n : Nat) : Locator :=
  let d := (List.range (x.len + 1)).foldl (fun a i => a ^^^ g10Mul (x.c.getD i 0) (syn.getD (n - i) 0)) 0
  let c := polyAdd x.c (List.replicate x.m 0 ++ x.b.map (g10Mul (g10Mul d (g10Inv x.d))))
  if d = 0 then { x with m := x.m + 1 }
  else if 2 * x.len ≤ n then { c := c, b := x.c, len := n + 1 - x.len, m := 1, d := d }
  else { x with c := c, m := x.m + 1 }

/-- The formal derivative: the odd coefficients. -/
def polyDeriv (p : List Nat) : List Nat := p.tail.zipIdx.map (fun e => if e.2 % 2 = 0 then e.1 else 0)

/-- The error at the coefficient of degree `e`. -/
def fecError (syn loc : List Nat) (e : Nat) : Nat :=
  let inv := g10Pow (1023 - e)
  if polyAt loc inv = 0 then
    g10Mul (g10Mul (g10Pow e) (polyAt ((polyMul syn loc).take syn.length) inv)) (g10Inv (polyAt (polyDeriv loc) inv))
  else 0

/-- A received word of a code with `nk` check symbols, corrected: `none` where more than nk / 2 symbols are in error. -/
def fecDecode (nk : Nat) (w : List Nat) : Option (List Nat) :=
  let syn := (List.range nk).map (fecSyndrome w)
  if syn.all (· == 0) then some w
  else
    let loc := ((List.range nk).foldl (Locator.step syn) {}).c
    let v := w.zipIdx.map (fun e => e.1 ^^^ fecError syn loc (w.length - 1 - e.2))
    if (List.range nk).all (fun j => fecSyndrome v j == 0) && decide (2 * (List.zip v w).countP (fun e => e.1 != e.2) ≤ nk) then
      some v
    else none

/-! ## Words (R248, R250, R253) -/

/-- The symbols of a number, symbol 0 lowest. -/
def toSymbols (n v : Nat) : List Nat := (List.range n).map (fun i => v >>> (10 * i) % 1024)

/-- The number that symbols spell. -/
def ofSymbols : List Nat → Nat
  | [] => 0
  | a :: t => a % 1024 + 1024 * ofSymbols t

/-- The words of a codeword: each pair has 17 symbols for lane 0, in its low half, and the next 17 for lane 1. -/
def fecWords (n : Nat) (sym : List Nat) : List (BitVec 340) :=
  (List.range n).map (fun i => BitVec.ofNat 340 (ofSymbols ((sym.drop (34 * i)).take 34)))

/-- The words of a flit in the native code (R250). -/
def flitWords (f : BitVec 640) : List (BitVec 340) :=
  let d := toSymbols 64 f.toNat
  fecWords 2 (d ++ fecCheck 4 d)

/-- The words of a codeword of 8 flits (R253). -/
def codeWords (num : BitVec 20) (fl : List (BitVec 640)) : List (BitVec 340) :=
  let d := toSymbols 2 num.toNat ++ fl.flatMap (fun f => toSymbols 64 f.toNat)
  fecWords 16 (d ++ fecCheck 30 d)

/-- What a port received in pieces: the first two words of each lane, and the fourteen that follow in a codeword (R248, R253). -/
def rxOf (first : BitVec 680) : Option (BitVec 4760) → RxFlit
  | none => .flit first
  | some w => .codeword (w ++ first)

/-- The flits that were received, each with whether the decoder corrected a symbol of it: `none` where it could not. -/
def rxFlits : RxFlit → Option (List (BitVec 640 × Bool))
  | .flit w =>
    let r := toSymbols 68 w.toNat
    (fecDecode 4 r).map (fun v => [(BitVec.ofNat 640 (ofSymbols (v.take 64)), v != r)])
  | .codeword w =>
    let r := toSymbols 544 w.toNat
    (fecDecode 30 r).map (fun v => (List.range 8).map (fun i =>
      let f := (v.drop (2 + 64 * i)).take 64
      (BitVec.ofNat 640 (ofSymbols f), f != (r.drop (2 + 64 * i)).take 64)))

end Sys2Proof.Machine
end

