-- ==== Sys2Proof/Config.lean ====
section
/-! DEFINITION. What an implementation fixes and the values the manual leaves open. Every constant here is
opaque: it has no body, so a statement that holds, holds for every value (assumption 4). -/

namespace Sys2Proof

/-- The supply of values that the manual leaves undefined; the state's counter `freeCtr` picks one.
Log entry 4 names every use. -/
opaque Config.freeValue : Nat → BitVec 64

/-- Whether tbclk has an edge in kclk cycle `n` (R398: the board gives the frequency). -/
opaque Config.tbclkEdge : Nat → Bool

/-- Whether a millisecond of gclk ends in kclk cycle `n` (R379). -/
opaque Config.gclkMs : Nat → Bool

/-- What the snapshot area holds that a plain register write of RESTORE reads (R278), one content per use. -/
opaque Config.areaContent : Nat → List (BitVec 8)

/-- The status byte of an answer of the reader port: 0 NOT_HELD, 1 BAD_REQ, 2 BAD_CRC (R394 gives no values). -/
opaque Config.gauRdStatus : Nat → BitVec 8

/-- LINK_UP and VALID of GAU_STATUS as the Gauge itself shows them (R394, R396: both are said of the block's copy). -/
opaque Config.gauStatusLow : BitVec 2

/-- LRVER and LRSUM of the Gauge island's design (R396). -/
opaque Config.gauVer : BitVec 32

/-- The hops of a partition's tree from its farthest die to the root (R266): the block knows the ports of its own die alone. -/
opaque Config.treeHops : Nat → Nat

/-- How many of the 2h hops there and back run on RS544 links (R266). -/
opaque Config.treeRsHops : Nat → Nat

/-- The periods of kclk and of the slowest tclk in femtoseconds (R398). -/
opaque Config.kclkPeriod : Nat
opaque Config.tclkPeriod : Nat

/-- Whether the PHY of a port takes a word of each lane in kclk cycle `n` (CULk_TX_RDY, R432). -/
opaque Config.txReady : Nat → Nat → Bool

/-- Response credits that the surroundings give an attachment point in kclk cycle `n` (CNa_RS_CRED, R431). -/
opaque Config.rspCredits : Nat → Nat → BitVec 2

end Sys2Proof
end

