-- ==== Sys2Proof/Machine/Tab.lean ====
section
/-! DEFINITION. Sparse tables: a list of (key, value) pairs in one canonical form, for the register window,
the CST, the wells and every other indexed store. -/

namespace Sys2Proof.Machine

/-- A sparse table. Canonical: keys strictly rising, and no entry holds the value an unlisted key reads as,
so equal tables are equal data. -/
abbrev Tab (α : Type) := List (Nat × α)

/-- What key `k` holds; `d` is what an unlisted key reads as. -/
def tget {α : Type} (d : α) : Tab α → Nat → α
  | [], _ => d
  | (j, v) :: t, k => if j = k then v else if k < j then d else tget d t k

/-- The table with key `k` removed. -/
def tdel {α : Type} : Tab α → Nat → Tab α
  | [], _ => []
  | (j, v) :: t, k => if j = k then t else if k < j then (j, v) :: t else (j, v) :: tdel t k

/-- The table with `v` inserted at key `k`, in order. -/
def tins {α : Type} (v : α) : Tab α → Nat → Tab α
  | [], k => [(k, v)]
  | (j, w) :: t, k =>
    if j = k then (k, v) :: t else if k < j then (k, v) :: (j, w) :: t else (j, w) :: tins v t k

/-- Write `v` at key `k`; writing the default removes the entry. -/
def tset {α : Type} [DecidableEq α] (d : α) (t : Tab α) (k : Nat) (v : α) : Tab α :=
  if v = d then tdel t k else tins v t k

/-- Change what key `k` holds by `f`. -/
def tmod {α : Type} [DecidableEq α] (d : α) (t : Tab α) (k : Nat) (f : α → α) : Tab α :=
  tset d t k (f (tget d t k))

/-- The table without the keys from `lo` to `hi - 1`. -/
def tclear {α : Type} (t : Tab α) (lo hi : Nat) : Tab α := t.filter (fun e => decide (e.1 < lo ∨ hi ≤ e.1))

/-- The table with keys `lo` to `lo + n - 1` holding `f 0` to `f (n - 1)`. -/
def tfill {α : Type} [DecidableEq α] (d : α) (t : Tab α) (lo n : Nat) (f : Nat → α) : Tab α :=
  t.filter (fun e => decide (e.1 < lo))
    ++ (((List.range n).map (fun i => (lo + i, f i))).filter (fun e => decide (e.2 ≠ d))
      ++ t.filter (fun e => decide (lo + n ≤ e.1)))

/-- Change every listed entry by `f`, keeping the canonical form. -/
def tmap {α : Type} [DecidableEq α] (d : α) (t : Tab α) (f : Nat → α → α) : Tab α :=
  (t.map (fun e => (e.1, f e.1 e.2))).filter (fun e => decide (e.2 ≠ d))

/-- The keys strictly rise from above `b`. -/
def tsorted {α : Type} : Option Nat → Tab α → Bool
  | _, [] => true
  | none, (j, _) :: t => tsorted (some j) t
  | some b, (j, _) :: t => decide (b < j) && tsorted (some j) t

/-- The canonical form. -/
def twf {α : Type} [DecidableEq α] (d : α) (t : Tab α) : Bool :=
  tsorted none t && t.all (fun e => decide (e.2 ≠ d))

end Sys2Proof.Machine
end

