-- ==== Sys2Proof/Machine/State.lean ====
section
/-! DEFINITION. The state of the block: every register, store, queue, counter, mode and pin the spec gives it, as
plain data, with its value at reset. INVENTORY.md lists each with the rule that names it. -/

namespace Sys2Proof.Machine

/-- The two builds (R4). -/
inductive Build where
  | f
  | c
  deriving DecidableEq, Repr

/-- No step of the model ends in a fault: the spec gives the block no fault that stops it (its fault codes are data,
R19). The type has no constructor. -/
inductive Fault where
  deriving DecidableEq, Repr

/-- Why a command has no next state. -/
inductive Refusal where
  /-- The command's meaning is not written: raised by an arm of exec alone; safe, the model says nothing. -/
  | notModelled (mnemonic : String)
  deriving DecidableEq, Repr

/-! ## What the block presents at its ports -/

/-- Who asked for a transaction of the memory port (R320 to R323): the Pump's channels and its system queue. -/
inductive MemWho where
  | chan (c : Nat)
  | fault (p : Nat)
  | scoreboard (p : Nat)
  | image (p : Nat)
  | row (p : Nat)
  | spill (cnum : Nat)
  | doorbell (f : Nat)
  | command (f : Nat)
  | payload (f : Nat)
  | completion (f : Nat)
  | sump (i : Nat)
  | dump (d : Nat)
  | snapshot (p : Nat)
  | restore (p : Nat)
  deriving DecidableEq, Repr

/-- One thing the block presented outside. A response of the control network goes to master `dst`. `data` of a memory
is little-endian (R9). `host` is the function whose context a host-memory access uses, with its host port (R290, R320); `none` for device
memory. `qos` is AWQOS or ARQOS (R433). `cnCred` are request credits returned at an attachment point (R431). -/
inductive Out where
  | cnp (attach dst : Nat) (flit : W128)
  | cnCred (attach n : Nat)
  | tapRsp (tap : Nat) (code : Nat)
  | tapTok (tap : Nat) (token : Nat)
  | irq (f vec port : Nat)
  | memRead (who : MemWho) (addr len : Nat) (host : Option (Nat × Nat)) (qos : Nat)
  | memWrite (who : MemWho) (addr len data : Nat) (host : Option (Nat × Nat)) (qos : Nat)
  | flit (port : Nat) (data : BitVec 640)
  | phy (port : Nat) (words : BitVec 340)
  | regData (data : W32)
  | regAck
  | regError
  | dbgError
  | flrAck (f : Nat)
  | gauFrame (words : List (BitVec 16))
  | gauStatus (w : BitVec 16)
  | gauReport (words : List (BitVec 16))
  | gauRd (bytes : List Byte)
  | cfgRead
  | cfgWrite (bytes : List Byte)
  deriving DecidableEq, Repr

/-! ## Time and the grid (chapter 1) -/

/-- Clocks and the Time Base. `tb` is 64 bits of ns and 24 bits of fraction (R22); `h1` to `h3` are its values 1 to
3 kclk ago: the Headgate's view of R35 is `h3`. `off` is the offset that the servo still has to remove, in
2^-24 ns (R259). `waitM` and `waitC` are what a lost mclk or cclk keeps in the block (R400), `waitC` with the responses that wait
for a response credit, and `cred` the response credits of each attachment point (R431). -/
structure Clk where
  kclk : Nat := 0
  tb : BitVec 88 := 0
  h1 : BitVec 88 := 0
  h2 : BitVec 88 := 0
  h3 : BitVec 88 := 0
  estimate : Bool := false
  off : Int := 0
  lowTicks : Nat := 0
  lostTb : Bool := false
  lostM : Bool := false
  lostC : Bool := false
  waitM : List Out := []
  waitC : List Out := []
  cred : Tab Nat := []
  deriving DecidableEq, Repr

/-- The grid (R29 to R33): whether it runs, the number of the next tick boundary, the current tick and slot. -/
structure Grid where
  running : Bool := false
  begun : Bool := false
  tick : Nat := 0
  slot : Nat := 0
  deriving DecidableEq, Repr

/-! ## The Cistern Store (chapter 2) -/

/-- A cistern entry (R58), field for field. -/
structure Cistern where
  kind : BitVec 4 := 0
  part : BitVec 5 := 0
  dclass : Bool := false
  maskmode : Bool := false
  spilled : Bool := false
  gen : BitVec 16 := 0
  target : BitVec 20 := 0
  count : BitVec 20 := 0
  rlist : BitVec 16 := 0
  basin : BitVec 16 := 0
  layer : BitVec 12 := 0
  oper : BitVec 12 := 0
  status : BitVec 4 := 0
  deriving DecidableEq, Repr

/-- The lane state of a basin (R168). -/
structure LaneState where
  fill : BitVec 16 := 0
  stamp : BitVec 16 := 0
  v : Bool := false
  e : Bool := false
  bad : Bool := false
  deriving DecidableEq, Repr

/-- Where an operation came from, so that its answer finds its way back (R82, R303, R331, R269). -/
inductive Origin where
  | none
  | cnp (attach tag dst : Nat) (resp : Bool)
  | dqu (f : Nat) (cidx : Nat)
  | pump (c : Nat)
  | cul (chip : Nat) (tag : Nat) (resp : Bool)
  | fwd (chip : Nat)
  | fabric
  deriving DecidableEq, Repr

/-- An operation on its way to a bank (R72, R80): the requester's partition is fixed before the checks of R75;
`none` where the MASTER belongs to no partition (R81). `opc` is the code of R72. -/
structure BankOp where
  opc : Nat
  space : Nat
  index : Nat
  gen : Nat
  a : W64
  b : W64
  pay : Payload
  part : Option Nat
  master : Nat
  origin : Origin
  func0 : Bool
  deriving DecidableEq, Repr

/-- The answer of a bank (R82). -/
structure BankRsp where
  result : Nat
  status : Nat := 0
  gen : Nat := 0
  count : Nat := 0
  empty : Bool := false
  data : W64 := 0
  deriving DecidableEq, Repr

/-- A merge window of POLL (R85, R86): who waits for its one read. -/
structure PollWin where
  cnum : Nat
  reqs : List BankOp
  deriving DecidableEq, Repr

/-- A fill of a spill frame (R94): whether the image read is issued, whether the write-back of the frame's occupant
is, and whether that write-back failed (R453). -/
structure Fill where
  part : Nat
  cnum : Nat
  frame : Nat
  reading : Bool := false
  evicting : Bool := false
  failed : Bool := false
  deriving DecidableEq, Repr

/-! ## The Standpipe and the release engine (chapters 3 and 4) -/

/-- What a bind sample returned (R115, R181). `ok` is false where the entry could not be read. -/
structure Sample where
  ok : Bool := true
  status : Nat
  kind : Nat
  count : Nat
  target : Nat
  gen : Nat
  rlist : Nat
  rmode : Nat := 0
  clen : Nat := 0
  maskmode : Bool := false
  deriving DecidableEq, Repr

/-- The mode of the root for a channel (R115): `wait` until the sample has returned. -/
inductive RootMode where
  | wait
  | normal
  | countOnly
  | excess
  | void
  deriving DecidableEq, Repr

/-- A binding of a cistern to a channel, in the shadow or in force (R111, R115 to R119, R135, R142). `last` is the last
slot of its span. `leaves` are the leaf entries: leaf and TMASK; `fset` the leaves whose F is set (R142). `record` is
the scoreboard type to write at unbind with the dropped arrivals as ACTUAL. -/
structure Bind where
  part : Nat
  chan : Nat
  cnum : Nat
  plist : Nat
  layer : Nat
  oper : Nat
  last : Nat
  leaves : List (Nat × Nat) := []
  fset : List Nat := []
  partialDrop : Bool := false
  tag : Bool := false
  sample : Option Sample := none
  mode : RootMode := .wait
  target : Nat := 0
  gen : Nat := 0
  static : Nat := 0
  side : Nat := 0
  dropped : Nat := 0
  record : Option Nat := none
  rmode : Nat := 0
  clen : Nat := 0
  maskmode : Bool := false
  allNull : Bool := true
  tok0 : Option (Nat × Payload) := none
  withdrawn : List (Nat × Nat) := []
  deriving DecidableEq, Repr

/-- A payload token in a router's input (R139): its place, and what it carries in accumulator form. -/
structure Token where
  chan : Nat
  level : Nat
  router : Nat
  child : Nat
  chain : Nat
  mask : Nat
  ncont : Nat
  null : Bool
  data : Payload
  deriving DecidableEq, Repr

/-- A token of a tap's release FIFO, hold or delay store (R120, R122, R142, R202). `rid` names the release that it
acknowledges; `taken` says that its last beat is taken, or the token was dropped at a fenced tap, and its report waits
(R146). `layer` and `oper` are the trace tag of a bound release (R355). -/
structure Tok where
  opc : Nat
  cnum : Nat
  status : Nat
  seq : Nat
  empty : Bool := false
  data : Payload := 0
  rid : Option Nat := none
  part : Nat := 0
  layer : Nat := 0
  oper : Nat := 0
  taken : Bool := false
  deriving DecidableEq, Repr

/-- A grant slot of a tap (R201): the grant entry that holds it, and the credits to place. -/
structure GSlot where
  used : Bool := false
  cnum : Nat := 0
  seq : Nat := 0
  n : Nat := 0
  deriving DecidableEq, Repr

/-- A tap port (R122, R149, R151). `reset` is a tap reset in progress (R416). -/
structure TapSt where
  fifo : List Tok := []
  hold : List Tok := []
  slots : Tab GSlot := []
  reset : Bool := false
  resetPin : Bool := false
  deriving DecidableEq, Repr

/-- A token in a leaf's delay store (R152, R203): its tap, the slot boundaries that must pass before its own, and for a
grant message its slot and credits. -/
structure Delayed where
  tap : Nat
  left : Nat
  tok : Tok
  grant : Option (Nat × Nat) := none
  deriving DecidableEq, Repr

/-- A report entry (R146). -/
structure Report where
  rid : Nat
  mask : Nat
  ack : Bool
  deriving DecidableEq, Repr

/-- A leaf router's stores (R146, R152, R202): `lost` are undelivered reports that found the queue full,
`trace` the trace records that wait with their sumps, against `budget` (R357). -/
structure Leaf where
  store : List Delayed := []
  reports : List Report := []
  lost : List (Nat × Nat) := []
  tapTurn : Nat := 0
  slotTurn : Tab Nat := []
  budget : Nat := 0
  trace : List (Nat × Nat) := []
  traceLost : Bool := false
  deriving DecidableEq, Repr

/-- A completion that waits for a release context (R67, R117): a notice, or the root's own release with its
targets and the binding's tags. `dump` is a dump whose reads it waits for (R371). -/
structure Notice where
  cnum : Nat
  gen : Nat
  part : Nat
  rlist : Nat
  status : Nat
  reduce : Bool := false
  basin : Nat := 0
  empty : Bool := false
  payload : Payload := 0
  root : Option (List (Nat × Nat)) := none
  layer : Nat := 0
  oper : Nat := 0
  dump : Option Nat := none
  deriving DecidableEq, Repr

/-- A release context (R121, R125): `left` outstanding targets; the partition tick `judge`, the slot and the kclk cycle in
which the release was raised; `lost` targets whose undelivered report was dropped. `waiting` holds a release of a halted
partition or of a STOP back (R127, R366), or one that waits for a dump (R371). -/
structure Ctx where
  rid : Nat
  note : Notice
  left : Nat := 0
  judge : Nat := 0
  slot : Nat := 0
  kclk : Nat := 0
  lost : Nat := 0
  waiting : Bool := false
  deriving DecidableEq, Repr

/-- An entry of the undelivered table (R123). -/
structure Undeliv where
  rid : Nat
  leaf : Nat
  mask : Nat
  deriving DecidableEq, Repr

/-- A grant entry (R198). -/
structure Grant where
  state : Nat := 0
  gen : Nat := 0
  tap : Nat := 0
  gslot : Nat := 0
  owed : BitVec 20 := 0
  deriving DecidableEq, Repr

/-- An ARRIVE_N in its leaf's second pass (R138, case 6): its tap, the binding that it met, its n, and whether F was set
there. -/
structure Multi where
  tap : Nat
  chan : Nat
  cnum : Nat
  n : Nat
  fset : Bool
  deriving DecidableEq, Repr

/-- The Standpipe, the release engine and the grant engine. `act` and `shadow` hold bindings by channel; `sums` the leaf
sums of kclk cycle `sumsAt` at key 32 × leaf + channel, `multi` the ARRIVE_Ns of that cycle (R138). -/
structure Pipe where
  act : Tab (Option Bind) := []
  shadow : Tab (Option Bind) := []
  strobed : List Nat := []
  tokens : List Token := []
  sumsAt : Nat := 0
  sums : Tab Nat := []
  multi : List Multi := []
  taps : Tab TapSt := []
  leafs : Tab Leaf := []
  notices : List Notice := []
  ctxs : List Ctx := []
  nextRid : Nat := 0
  und : List Undeliv := []
  grants : Tab Grant := []
  deriving DecidableEq, Repr

/-! ## The banks (chapter 2) -/

/-- Work for a bank (R76 to R79): an operation, the bank write of a root completion (R117) or the residual write of a
binding (R118), the payload write of a token (R182), the marking of a cistern of a generation with a status (R44, R273), the one read of a merge window
(R85), a bind sample (R115), and the status that a cistern which is DONE takes when its release ends (R124, R125). -/
inductive BankWork where
  | op (o : BankOp)
  | root (b : Bind)
  | residual (b : Bind)
  | mark (part cnum gen : Nat) (status : BitVec 4)
  | polls (cnum : Nat) (reqs : List BankOp)
  | released (part cnum gen : Nat) (status : BitVec 4)
  | pay (b : Bind) (k : Token)
  | sample (ch part cnum : Nat)
  deriving DecidableEq, Repr

/-- The stores of the 64 banks and what the banks keep beside them. `ent` holds the cistern entry of each resident
slot, `basins` and `lanes` the basins and their lane states, `rl` the release-list words. `err` holds the symbol
errors of a word (R420) at key class × 2^24 + index: class 0 a slot, 1 a basin word (4 per basin), 2 a release-list
word, 3 a word of two wells. `bad` and `badBasin` are the poisoned cisterns and basins (R97). `tags` holds, for a
frame slot, 1 + the spilled CNUM that occupies it (R93). `initd` are the units under initialisation (R100): partition,
resource (0 resident, 1 basin, 2 directory), unit. `hold` is the work that waits at a bank's RD stage, or
behind work that does (R77, R121, R276), `miss` the miss queues (R95), `polls` the merge windows (R85), `next` operations that follow from an
answer in the same step (R305). `scrubPos` and `scrubDue` are each bank's place in its scrub pass and the words that are
due, `scrubLate` says that a pass overran its period and its waiting words go out in every free cycle (R421). -/
structure Cst where
  ent : Tab Cistern := []
  basins : Tab Payload := []
  lanes : Tab LaneState := []
  rl : Tab W128 := []
  err : Tab (BitVec 160) := []
  bad : Tab Bool := []
  badBasin : Tab Bool := []
  tags : Tab Nat := []
  initd : List (Nat × Nat × Nat) := []
  hold : List BankWork := []
  next : List BankOp := []
  miss : List BankWork := []
  fills : List Fill := []
  polls : List PollWin := []
  scrubPos : Tab Nat := []
  scrubDue : Tab Nat := []
  scrubLate : Bool := false
  scrubFrom : Nat := 0
  deriving DecidableEq, Repr

/-! ## Functions and host queues (chapter 9) -/

/-- A fetched command and its ring index (R302). -/
structure Cmd where
  data : BitVec 512
  cidx : Nat
  deriving DecidableEq, Repr

/-- What a command in flight still waits for (R303 to R307). -/
inductive Phase where
  | bank
  | lockRead
  | lockCas (expected : W64)
  | payload
  | load
  | snap
  | dump (d : Nat)
  deriving DecidableEq, Repr

/-- A command in flight. -/
structure InFlight where
  cmd : Cmd
  phase : Phase
  deriving DecidableEq, Repr

/-- An outstanding WAIT (R306): `left` grid tick boundaries remain before its last poll,
`last` says that the last poll is issued, `polls` counts polls without an answer. -/
structure WaitEnt where
  cmd : Cmd
  left : Nat
  last : Bool
  polls : Nat
  deriving DecidableEq, Repr

/-- A completion whose write is not answered (R308), and the vector it raises. -/
structure Cpl where
  irq : Bool
  vec : Nat
  deriving DecidableEq, Repr

/-- The queues of one function (R299 to R316). `cplProd` is the 17-bit count of R308. `cmdReads` are the command reads
outstanding, oldest first: ring index and number of commands, 0 where the read will be discarded. `stalled` holds
fetching back until the partition enters RUN (R297). `held` are the vectors whose holdoff interval runs, `waitVec` those
with an event that waits for its end (R314). -/
structure Fn where
  cmdProd : BitVec 16 := 0
  cmdCons : BitVec 16 := 0
  cplProd : BitVec 17 := 0
  cplCons : BitVec 16 := 0
  cmds : List Cmd := []
  flight : List InFlight := []
  waits : List WaitEnt := []
  cpls : List Cpl := []
  cmdReads : List (Nat × Nat) := []
  dbReads : Nat := 0
  lastPoll : Nat := 0
  stalled : Bool := false
  held : List Nat := []
  waitVec : List Nat := []
  deriving DecidableEq, Repr

/-! ## Observation (chapter 11) -/

/-- A sump's buffer: its records, oldest first, how many of them a write under way covers, and the loss that the
next record carries (R350, R351). -/
structure Sump where
  recs : List Nat := []
  sent : Nat := 0
  loss : Nat := 0
  deriving DecidableEq, Repr

/-- A tensor dump (R369 to R372). `copied` is the number of bytes whose write is issued, `got` of those answered. -/
structure Dump where
  func : Nat
  cidx : Nat
  part : Nat
  cmd : BitVec 512
  order : Nat
  armed : Bool := true
  tick : Nat := 0
  tb : Nat := 0
  cnum : Nat := 0
  gen : Nat := 0
  status : Nat := 0
  read : Nat := 0
  written : Nat := 0
  answered : Nat := 0
  deriving DecidableEq, Repr

/-- The Observation Unit. `smearTick` says that a partition was in the smear interval in this sample period (R362). `cnt` holds the 48-bit counters: global counter i at key i, counter i of partition p at
0x1000 + 64p + i (R352). `seen` is the table of R361, `smear` the partitions in the smear interval of R362,
`resumes` the RESUMEs that wait for their boundary (R363), `corr` and `retry` the counts of the grid tick by unit
(R354), `stopTb` when a tap clock region was found STOPPED (R359). -/
structure Obs where
  cnt : Tab Nat := []
  sumps : Tab Sump := []
  haltId : BitVec 16 := 0
  seen : List (Nat × Nat) := []
  smear : BitVec 32 := 0
  smearTick : Bool := false
  resumes : List (Nat × BitVec 32) := []
  dumps : Tab (Option Dump) := []
  dumpOrder : Nat := 0
  corr : Tab Nat := []
  retry : Tab Nat := []
  stopTb : Tab Nat := []
  deriving DecidableEq, Repr

/-- The global STOP (R364 to R368): the STOPs and STARTs that wait, by their E, each with whether it is a START and whether it
came late; whether a STOP is in force, its E, whether its cut is complete, and the E′ of the last START. -/
structure StopSt where
  pend : List (Nat × Bool × Bool) := []
  inForce : Bool := false
  e : BitVec 48 := 0
  cut : Bool := false
  left : Option Nat := none
  deriving DecidableEq, Repr

/-! ## The Gauge (chapter 12) -/

/-- A frame of the meter link without its FSEQ and CRC, which it takes when it is sent (R384): word 0, then the words
from word 2. -/
structure GFrame where
  w0 : BitVec 16
  body : List (BitVec 16)
  deriving DecidableEq, Repr

/-- The block's side of the meter link (R383 to R385, R395). `delta` holds accumulator i of set p at key 5p + i. -/
structure GLink where
  delta : Tab Nat := []
  sat : Bool := false
  firstTick : BitVec 48 := 0
  fseq : BitVec 16 := 0
  restart : Bool := true
  queue : List GFrame := []
  flight : Option GFrame := none
  due : Bool := false
  deriving DecidableEq, Repr

/-- A copy of the Gauge configuration in sector 0 or 1 of the log flash (R386): its parameters, SEAL_CNT, the number of the copy
(by which the newer one is known) and its CRC-64. -/
structure GConf where
  num : Nat
  meterId : W32
  period : Nat
  logBase : Nat
  logNsect : Nat
  sealCnt : W32
  crc : W64
  deriving DecidableEq, Repr

/-- The Gauge island (R378 to R394), which no reset of the block reaches. `tot` holds total i of set p at key
5p + i, `flash` a record of R387 at key 64 × sector + place, `copies` the configuration copy of sector 0 or 1. -/
structure Island where
  up : Bool := true
  failing : Bool := false
  gtime : BitVec 48 := 0
  lastFseq : BitVec 16 := 0xFFFF
  tot : Tab Nat := []
  tag : Tab Nat := []
  changed : List Nat := []
  satFlag : Bool := false
  lastTick : BitVec 48 := 0
  meterId : W32 := 0
  period : Nat := 900
  logBase : Nat := 2
  logNsect : Nat := 8192
  areaBase : Nat := 2
  areaNsect : Nat := 8192
  areaPos : Nat := 0
  flash : Tab (BitVec 512) := []
  copies : Tab (Option GConf) := []
  seq : BitVec 48 := 0
  headCrc : W64 := 0
  chainBreak : Bool := false
  logErr : Bool := false
  sealOpen : Bool := false
  sealCnt : W32 := 0
  jmp : Bool := false
  presOpen : Bool := false
  presStuck : Bool := false
  deriving DecidableEq, Repr

/-! ## The Pump (chapter 10) -/

/-- A transaction of the memory port that is not answered, or one of the system queue that waits there (R321, R453). -/
structure MemTxn where
  who : MemWho
  addr : Nat
  len : Nat
  host : Option (Nat × Nat)
  write : Bool := false
  data : Nat := 0
  deriving DecidableEq, Repr

/-- A descriptor that was read and is not complete (R328, R333): where it lay, its 32 bytes, how many of its bytes
are cut into bursts, how many lie in the prefix whose writes are answered OKAY, and what is wrong with it; `got` is false for
one outside the window, which is not read (R330). -/
structure PDesc where
  addr : Nat
  host : Bool
  data : BitVec 256
  cut : Nat := 0
  done : Nat := 0
  bad : Nat := 0
  erred : Bool := false
  got : Bool := true
  deriving DecidableEq, Repr

/-- A burst of a COPY descriptor (R336): the descriptor's place among those that are open, its range, whether its read
data has come and its write is issued, whether that write is answered OKAY. -/
structure Burst where
  desc : Nat
  off : Nat
  len : Nat
  written : Bool := false
  failed : Bool := false
  okay : Bool := false
  deriving DecidableEq, Repr

/-- Work of a reserved channel (R325, R350, R371, R276). -/
inductive IntWork where
  | sump (i n len : Nat)
  | dumpRead (d off len addr : Nat)
  | dumpWrite (d p len : Nat)
  | snap (p len : Nat)
  | snapRead (p off len : Nat)
  deriving DecidableEq, Repr

/-- A Pump channel at run time: descriptors open, oldest first, with the number of the oldest (`base`), whether a
descriptor read is outstanding, where the next lies, bursts in order, the write-back or OP under way, the rate credit
(R340), whether an abort or a stop has no descriptor in progress since it waited for an OP (R338), whether an abort ends in
DISABLED (R332), and whether a channel reset waits for the channel to be quiet (R418). -/
structure Chan where
  descs : List PDesc := []
  base : Nat := 0
  reading : Bool := false
  nextAddr : Nat := 0
  nextHost : Bool := false
  bursts : List Burst := []
  wb : Option Nat := none
  opOut : Bool := false
  opRsp : Option BankRsp := none
  credit : Int := 0
  noProg : Bool := false
  endDis : Bool := false
  reset : Bool := false
  work : List IntWork := []
  deriving DecidableEq, Repr

/-- The Pump as a whole: unanswered writes, the unanswered reads of the system queue, what waits there and the unit served
last (R321, R453), the channel served last at each
priority (R339), the trace credit of channel 63 (R357), and the next sump in turn (R350). -/
structure Pump where
  chans : Tab Chan := []
  writes : List MemTxn := []
  reads : List MemTxn := []
  waits : List MemTxn := []
  sysTurn : Nat := 0
  last : Tab Nat := []
  traceCredit : Int := 1966
  sumpTurn : Nat := 0
  deriving DecidableEq, Repr

/-! ## Wells (chapter 7) -/

/-- The Well Unit: the well words, the poison mark of each half word by well (R241), the masters of the pending set and
of the running pass, each with its chip (R234), the home chips whose reset notice is not delivered, whether it is on its
way, and its masters (R239), the groups under initialisation (R243), the pass that is running, and the number of words that it
has read in every array (R233). -/
structure Wel where
  w : Tab W64 := []
  poison : Tab Bool := []
  pend : List (Nat × Nat) := []
  pass : Option (List (Nat × Nat)) := none
  passPos : Nat := 0
  notices : List (Nat × Bool × List Nat) := []
  deriving DecidableEq, Repr

/-! ## Culvert (chapter 8) -/

/-- A beat of a flit (R251, R252). `pay` is its 256-bit payload. -/
structure Beat where
  btype : Nat
  src : Nat := 0
  dst : Nat := 0
  beat : Nat := 0
  last : Bool := true
  vc : Nat := 0
  finfo : Nat := 0
  pay : Nat := 0
  epoch : Nat := 0
  deriving DecidableEq, Repr

/-- A Culvert port (R249 to R256, R374): `txSeq` the next FSEQ, `acked` the last FSEQ acknowledged, `replay` the flits
not acknowledged, `rxSeq` the FSEQ expected, `rejecting` whether a NAK is out, `naks` the NAKs for one FSEQ without
progress, `queue` the frames that wait, `counts` the counts that wait by channel, `used` the credits spent per virtual
channel, `rx` the beats received and not yet acted on, `train` the TRAIN flits in a row, the TICK_MARK watchdog with the
grid ticks begun since the last mark, the TICKNO of that mark (R367), the grid ticks in a row with a mark error, the two serials, whether the link
was reported lost to the fabric, the flits that wait for the PHY, the words of the flit or codeword that goes out (lane 1
above lane 0), and the number of the next codeword (R248, R253). -/
structure Port where
  txSeq : Nat := 0
  acked : Nat := 511
  replay : List (Nat × BitVec 640) := []
  rxSeq : Nat := 0
  rejecting : Bool := false
  naks : Nat := 0
  queue : List (List Beat) := []
  turn : Nat := 0
  counts : List (Nat × Nat) := []
  used : Tab Nat := []
  rx : List Beat := []
  train : Nat := 0
  armed : Bool := false
  unmarked : Nat := 0
  mark : Option (BitVec 16) := none
  markErr : Bool := false
  markErrRow : Nat := 0
  sser : W32 := 0
  rser : W32 := 0
  tx : List (BitVec 640) := []
  words : List (BitVec 340) := []
  cwNum : BitVec 20 := 0
  lost : Bool := false
  deriving DecidableEq, Repr

/-- A forwarded request that awaits its response (R240, R269): the home chip, and the operation with its origin. -/
structure Fwd where
  chip : Nat
  tag : Nat
  master : Nat
  op : BankOp
  deriving DecidableEq, Repr

/-- A membership message (R271). -/
structure Msg where
  src : Nat
  mtype : Nat
  e : Nat
  pay : Nat
  deriving DecidableEq, Repr

/-- A tick-close channel's run-time state (R265): a late indication seen, LATE_TICK sent down. -/
structure FabSt where
  late : Bool := false
  sentLate : Bool := false
  deriving DecidableEq, Repr

/-- The Culvert unit: ports, forwards, the seen table with the messages whose effective tick is to come, the failed
links f of R272 as pairs of chips, the tick-close channels, and the completions whose contribution to a fabric channel
is to be made in this step (partition and cistern, R264). -/
structure Cul where
  ports : Tab Port := []
  fwds : List Fwd := []
  seen : List Msg := []
  links : List (Nat × Nat) := []
  fab : Tab FabSt := []
  done : List (Nat × Nat) := []
  deriving DecidableEq, Repr

/-! ## Power, reset and configuration (chapter 13) -/

/-- A rewrite of the configuration store under way (R406). -/
inductive CfgJob where
  | none
  | load
  | reload
  | rewrite (rec : List Byte)
  deriving DecidableEq, Repr

/-- Power state K0 to K3, resets and the configuration record (R400 to R413): `por` PO_RST_N asserted, `blkPin`
BLK_RST_N asserted, `blk` a block reset whose initialisation has not ended, `timer` the setting of the wake timer in units
of the Headgate's view, `entered` the ns at which the power state was entered, `spent` the ns spent in state k before
that, `raised` the resets raised by a write whose completion PFM_RST_STATUS.BUSY still shows: KIND and INDEX. -/
structure Rst where
  por : Bool := false
  blkPin : Bool := false
  blk : Bool := false
  kst : Nat := 0
  waking : Bool := false
  timer : Option Nat := none
  entered : Nat := 0
  spent : Tab Nat := []
  raised : List (Nat × Nat) := []
  job : CfgJob := .none
  record : List Byte := []
  deriving DecidableEq, Repr

/-! ## Partitions at run time (chapters 1, 3, 9, 11) -/

/-- A snapshot in progress (R275 to R277): its tick, its area, the images still to be read, the blocks still to be
copied as ranges of block keys, those copied ahead of a write, the writes of the header, tags and modes that are
still to be sent (`head`), the blocks in the snapshot buffers with their bank and their writes (`buf`), and counts of writes
sent and answered. -/
structure Snap where
  tick : BitVec 48
  area : Nat
  images : Nat := 0
  todo : List (Nat × Nat) := []
  cow : Tab Bool := []
  head : List (Nat × Nat × Nat) := []
  buf : List (Nat × Nat × List (Nat × Nat × Nat)) := []
  sent : Nat := 0
  answered : Nat := 0
  finishing : Bool := false
  cmds : List (Nat × Nat) := []
  deriving DecidableEq, Repr

/-- A row of a schedule image (R103). -/
structure Row where
  action : Nat
  slot : Nat
  cnum : Nat
  chan : Nat
  layer : Nat
  oper : Nat
  arg : W64
  deriving DecidableEq, Repr

/-- A loaded table (R102, R106): where its rows lie, its tick index, and the slot of each row as it was loaded. -/
structure Table where
  base : Nat := 0
  rowOff : Nat := 0
  ntick : Nat := 1
  index : List (Nat × Nat) := []
  slots : List Nat := []
  deriving DecidableEq, Repr

/-- A staged row (R109): the partition tick it belongs to, its row, and whether it was staged after it was due. -/
structure Staged where
  tick : Nat
  row : Row
  late : Bool := false
  deriving DecidableEq, Repr

/-- An outcome of R44 that waits for the kclk cycle after its boundary (R41): the tick, the cisterns whose deadline its close
is, and how many of them are LATE already. -/
structure Closing where
  tick : BitVec 48
  dl : List (Nat × Nat) := []
  late : Nat := 0
  deriving DecidableEq, Repr

/-- What the Headgate holds of one partition: the number `tick` and the slot of its partition tick (R37), the
payback of the tick (R42), whether the tick is late and the stretch received (R45, R46), the cisterns with their GEN
armed with the close of this tick and of the next as deadline (R39, R40), the outcome that waits
(`closing`), the events of the tick by fault code (R312),
what was requested of it (`qTick` in QUIESCING the grid tick from which PFM_PQTO counts; `cut` after a STOP until its next tick begins, R368), whether a RESTORE is in progress (R278), and its schedule: the active table with
its n0 (`none` without one), the table that waits for its switch with the switch tick, the load under way (function,
ring index, image address, switch tick; `loadAsked` once its reads beyond the header are ordered), the tick and place of the row to be staged next with the SLOT of the row staged
last and whether a read has failed in this slot, the reads under way (tick, place in the program, address), the staged rows, and the bindings that have not
taken effect in a slot of their span. -/
structure PartRt where
  tick : BitVec 48 := 0
  slot : Nat := 0
  begun : Bool := false
  payback : Nat := 0
  late : Bool := false
  sent : Bool := false
  lateDown : Bool := false
  stretch : Option Nat := none
  capped : Bool := false
  alone : Bool := false
  dl : List (Nat × Nat) := []
  dlNext : List (Nat × Nat) := []
  closing : Option Closing := none
  events : Tab Nat := []
  faultQ : List (Nat × Bool) := []
  sbQ : List Nat := []
  quiesceReq : Bool := false
  qTick : Nat := 0
  haltPend : Bool := false
  halted : Bool := false
  cut : Bool := false
  resumePend : Bool := false
  snap : Option Snap := none
  snapReq : Bool := false
  snapDefer : Bool := false
  snapCmds : List (Nat × Nat) := []
  restoring : Bool := false
  tbl : Option (Table × Nat) := none
  tblSel : Bool := false
  next : Option (Table × Nat) := none
  load : Option (Nat × Nat × Nat × Nat) := none
  loadAsked : Bool := false
  stTick : Nat := 0
  stIdx : Nat := 0
  stSlot : Nat := 0
  stErr : Bool := false
  reads : List (Nat × Nat × Nat) := []
  staged : List Staged := []
  spans : List Bind := []
  deriving DecidableEq, Repr

/-- The two holding registers of who accesses the register window (R443): the captured pair with its upper half, and
the pair of a held _LO write with the word. -/
structure Hold where
  cap : Option (Nat × Nat) := none
  wr : Option (Nat × Nat) := none
  deriving DecidableEq, Repr

/-- What the register reads of a kclk cycle return: the fields as they stood at its start (R452). -/
structure Begin where
  regs : Tab W32 := []
  clk : Clk := {}
  grid : Grid := {}
  stop : StopSt := {}
  cst : Cst := {}
  pipe : Pipe := {}
  wel : Wel := {}
  cul : Cul := {}
  rst : Rst := {}
  parts : Tab PartRt := []
  fns : Tab Fn := []
  obs : Obs := {}
  glink : GLink := {}
  pump : Pump := {}
  deriving DecidableEq, Repr

/-- The state of the block. `pending` is the model's own queue of commands, `held` the commands that wait for a wake,
`out` what the block presented, `freeCtr` the counter of the free values; `holds` are the holding registers of function
f at key 2f, of the debug port at key 1. `start` is the start of the kclk cycle (R452), `fresh` the flags that the block set in
it: offset and bit (R12). -/
structure State where
  pending : List Instr := []
  held : List Instr := []
  out : List Out := []
  freeCtr : Nat := 0
  build : Build := .f
  regs : Tab W32 := []
  clk : Clk := {}
  grid : Grid := {}
  stop : StopSt := {}
  cst : Cst := {}
  pipe : Pipe := {}
  wel : Wel := {}
  cul : Cul := {}
  rst : Rst := {}
  parts : Tab PartRt := []
  fns : Tab Fn := []
  obs : Obs := {}
  glink : GLink := {}
  island : Island := {}
  pump : Pump := {}
  fetchTurn : Nat := 0
  holds : Tab Hold := []
  start : Begin := {}
  fresh : List (Nat × Nat) := []
  deriving DecidableEq, Repr

/-- The block right after the release of PO_RST_N (R402, R412, R413): every register at its reset word, the read of the
configuration record under way, and a block reset in progress. -/
def State.reset : State :=
  { rst := { blk := true, job := .load }, start := { rst := { blk := true, job := .load } } }

end Sys2Proof.Machine
end

