-- ==== Sys2Proof/Machine/Ops.lean ====
section
/-! DEFINITION. The named operations every family shares: reading and writing a stored register word, presenting an
output, free values, fault entries (R311, R312), always-on and trace records (R354 to R356), counters (R352), usage
(R381), and the cyclic codes. -/

namespace Sys2Proof.Machine

/-! ## Registers as stored -/

/-- The stored word at an offset. -/
def State.reg (s : State) (off : Nat) : Nat := (tget (regReset off) s.regs off).toNat

/-- Store a word. -/
def State.setReg (s : State) (off v : Nat) : State :=
  { s with regs := tset (regReset off) s.regs off (BitVec.ofNat 32 v) }

/-- A field of a stored word. -/
def State.fld (s : State) (off hi lo : Nat) : Nat := bits (s.reg off) hi lo

/-- Store a field, the other bits kept. -/
def State.setFld (s : State) (off hi lo v : Nat) : State := s.setReg off (setBits (s.reg off) hi lo v)

/-- A bit of a stored word. -/
def State.flag (s : State) (off i : Nat) : Bool := (s.reg off).testBit i

/-- Set or clear a bit; a bit that is set is one of this kclk cycle (R12). -/
def State.setFlag (s : State) (off i : Nat) (b : Bool) : State :=
  { s.setFld off i i (bit b) with fresh := if b then (off, i) :: s.fresh else s.fresh }

/-- A kclk cycle begins: what its reads return is fixed, and no flag is set in it yet (R12, R452). -/
def State.beginCycle (s : State) : State :=
  { s with
    start := ⟨s.regs, s.clk, s.grid, s.stop, s.cst, s.pipe, s.wel, s.cul, s.rst, s.parts, s.fns, s.obs, s.glink, s.pump⟩
    fresh := [] }

/-- The block as it stood at the start of the kclk cycle. -/
def State.atStart (s : State) : State :=
  let b := s.start
  { s with regs := b.regs, clk := b.clk, grid := b.grid, stop := b.stop, cst := b.cst, pipe := b.pipe, wel := b.wel
           cul := b.cul, rst := b.rst, parts := b.parts, fns := b.fns, obs := b.obs, glink := b.glink, pump := b.pump }

/-- The flags of the word at `off` that the block set in this kclk cycle. -/
def State.freshBits (s : State) (off : Nat) : W32 :=
  s.fresh.foldl (fun m e => if e.1 = off then m ||| BitVec.ofNat 32 (2 ^ e.2) else m) 0

/-- Add to a wrapping counter register. -/
def State.bump (s : State) (off n : Nat) : State := s.setReg off (s.reg off + n)

/-- The 64 bits of a pair whose _LO word is at `off` (R15). -/
def State.pair (s : State) (off : Nat) : Nat := s.reg off + s.reg (off + 4) * 2 ^ 32

/-- Store both words of a pair. -/
def State.setPair (s : State) (off v : Nat) : State := (s.setReg off (v % 2 ^ 32)).setReg (off + 4) (v / 2 ^ 32)

/-! ## Outputs and free values -/

/-- A response credit of attachment point a is used (R431). -/
def Clk.useCred (c : Clk) (a : Nat) : Clk := { c with cred := tmod 0 c.cred a (· - 1) }

/-- Present something outside. While mclk is lost, transactions of the memory port wait; responses of the control network wait
while cclk is lost (R400), and for a credit of their attachment point (R431). -/
def State.emit (s : State) (o : Out) : State :=
  let keepM : State := if s.clk.lostM then { s with clk := { s.clk with waitM := s.clk.waitM ++ [o] } }
    else { s with out := s.out ++ [o] }
  match o with
  | .memRead .. => keepM
  | .memWrite .. => keepM
  | .cnp a _ _ =>
    if s.clk.lostC || tget 0 s.clk.cred a == 0 then { s with clk := { s.clk with waitC := s.clk.waitC ++ [o] } }
    else { s with clk := s.clk.useCred a, out := s.out ++ [o] }
  | _ => { s with out := s.out ++ [o] }

/-- Responses that wait go out as far as clock and credits allow, each attachment point's in their order (R400, R431). -/
def State.sendRsps (s : State) : State :=
  s.clk.waitC.foldl State.emit { s with clk := { s.clk with waitC := [] } }

/-- The response credits of a kclk cycle come in (R431): how many the surroundings give is an input that no row of the table names
(DESIGN CHOICE: assumption 76). -/
def State.rspCredits (s : State) : State :=
  ({ s with clk := { s.clk with cred := (List.range 4).foldl (fun t a =>
      tmod 0 t a (· + (Config.rspCredits a s.clk.kclk).toNat)) s.clk.cred } } : State).sendRsps

/-- The free value that comes next (assumption 4). -/
def State.free (s : State) : Nat := (Config.freeValue s.freeCtr).toNat

/-- Take it: the next one is another. -/
def State.nextFree (s : State) : State := { s with freeCtr := s.freeCtr + 1 }

/-! ## Sizes of the build (R4, R447) -/

def State.isC (s : State) : Bool := s.build == .c
def State.nPart (s : State) : Nat := if s.isC then 8 else 32
def State.nFunc (s : State) : Nat := if s.isC then 64 else 256
def State.nChan (s : State) : Nat := if s.isC then 16 else 64
def State.nPort (s : State) : Nat := if s.isC then 2 else 6
def State.nTap (s : State) : Nat := if s.isC then 1024 else 4096
def State.nResident (s : State) : Nat := if s.isC then 262144 else 2097152
/-- The Pump channel that drains sumps and copies dumps (R350, 11 Kyordol-C). -/
def State.sumpChan (s : State) : Nat := s.nChan - 1
/-- The Pump channel of the snapshot copier (R276). -/
def State.snapChan (s : State) : Nat := s.nChan - 2

/-! ## Partitions and functions -/

def State.prt (s : State) (p : Nat) : PartRt := tget {} s.parts p
def State.setPrt (s : State) (p : Nat) (x : PartRt) : State := { s with parts := tset {} s.parts p x }
def State.modPrt (s : State) (p : Nat) (f : PartRt → PartRt) : State := s.setPrt p (f (s.prt p))
def State.fn (s : State) (f : Nat) : Fn := tget {} s.fns f
def State.setFn (s : State) (f : Nat) (x : Fn) : State := { s with fns := tset {} s.fns f x }
def State.modFn (s : State) (f : Nat) (g : Fn → Fn) : State := s.setFn f (g (s.fn f))

/-- PFM_PSTATE.STATE (R291): 0 STOPPED, 1 RESTARTING, 2 RUN, 3 QUIESCING. -/
def State.pstate (s : State) (p : Nat) : Nat := s.fld (R.pfmPstate p) 2 0
/-- Locked settings of p are locked (R292, R445). -/
def State.locked (s : State) (p : Nat) : Bool := s.pstate p != 0
/-- Locked settings of p are locked for a write of this kclk cycle: the state at its start counts (R445). -/
def State.wasLocked (s : State) (p : Nat) : Bool := s.atStart.locked p
/-- The partition executes: RUN or QUIESCING. -/
def State.active (s : State) (p : Nat) : Bool := s.pstate p == 2 || s.pstate p == 3
/-- The function exists (PFM_FCFG.EN). -/
def State.fEn (s : State) (f : Nat) : Bool := s.flag (R.pfmFcfg f) 31
/-- The function existed at the start of the kclk cycle (R445). -/
def State.fWas (s : State) (f : Nat) : Bool := s.atStart.fEn f
def State.fPart (s : State) (f : Nat) : Nat := s.fld (R.pfmFcfg f) 20 16
def State.fNvec (s : State) (f : Nat) : Nat := s.fld (R.pfmFcfg f) 5 0
def State.fPort (s : State) (f : Nat) : Nat := s.fld (R.pfmFcfg f) 25 24

/-! ## The memory port (R320 to R322, R453) -/

/-- The context of a host transaction: the function and its host port (R290, R320). -/
def State.hostCtx (s : State) (f : Option Nat) : Option (Nat × Nat) := f.map (fun f => (f, s.fPort f))

/-- AWID and ARID of a requester (R433): its channel, or 0xFF for the system queue. -/
def State.axiId (s : State) : MemWho → Nat
  | .chan c => c
  | .sump _ => s.sumpChan
  | .dump _ => s.sumpChan
  | .snapshot _ => s.snapChan
  | .restore _ => s.snapChan
  | _ => 0xFF

/-- AWQOS and ARQOS of a requester (R433): twice the channel's PRIO, or 0xF for the system queue. -/
def State.qosOf (s : State) (who : MemWho) : Nat :=
  if s.axiId who = 0xFF then 0xF else 2 * s.fld (R.pmpCcfg (s.axiId who)) 30 28

/-- SLVERR and DECERR are error responses (R320). -/
def badResp (r : BitVec 2) : Bool := decide (2 ≤ r.toNat)

/-- Two byte ranges of one memory space meet. -/
def MemTxn.meets (a b : MemTxn) : Bool :=
  a.host.isSome == b.host.isSome && decide (a.addr < b.addr + b.len ∧ b.addr < a.addr + a.len)

/-- The requester of the system queue that a transaction belongs to (R322): 0 the RAE, 1 the DQU, 2 the Headgate, 3 fault
entries; 4 is a channel, which is no part of that queue. -/
def MemWho.unit : MemWho → Nat
  | .image _ => 0
  | .row _ => 0
  | .spill _ => 0
  | .doorbell _ => 1
  | .command _ => 1
  | .payload _ => 1
  | .completion _ => 1
  | .scoreboard _ => 2
  | .fault _ => 3
  | .chan _ => 4
  | .sump _ => 4
  | .dump _ => 4
  | .snapshot _ => 4
  | .restore _ => 4

/-- A transaction leaves: it is unanswered from here on. -/
def State.memIssue (s : State) (t : MemTxn) : State :=
  if t.write then
    ({ s with pump := { s.pump with writes := s.pump.writes ++ [t] } } : State).emit
      (.memWrite t.who t.addr t.len t.data t.host (s.qosOf t.who))
  else if t.who.unit = 4 then s.emit (.memRead t.who t.addr t.len t.host (s.qosOf t.who))
  else ({ s with pump := { s.pump with reads := s.pump.reads ++ [t] } } : State).emit
      (.memRead t.who t.addr t.len t.host (s.qosOf t.who))

/-- A read of these bytes must wait for a write that is not answered (R321). -/
def State.memBusy (s : State) (t : MemTxn) : Bool := s.pump.writes.any (MemTxn.meets t)

/-- A transaction of the system queue may leave: at most 32 reads and 32 writes are outstanding (R453). -/
def State.memMay (s : State) (t : MemTxn) : Bool :=
  if t.write then decide (s.pump.writes.countP (fun w => w.who.unit != 4) < 32)
  else decide (s.pump.reads.length < 32) && !s.memBusy t

/-- The transaction that leaves next: requesters round robin, each in its own order (R453). -/
def State.memNext (s : State) : Option MemTxn :=
  [1, 2, 3, 4].findSome? (fun i =>
    match s.pump.waits.find? (fun t => t.who.unit == (s.pump.sysTurn + i) % 4) with
    | some t => if s.memMay t then some t else none
    | none => none)

/-- Let up to `n` waiting transactions go. -/
def State.memGo (s : State) : Nat → State
  | 0 => s
  | n + 1 =>
    match s.memNext with
    | some t =>
      (({ s with pump := { s.pump with waits := s.pump.waits.erase t, sysTurn := t.who.unit } } : State).memIssue t).memGo n
    | none => s

/-- Let go what may go. -/
def State.memFlush (s : State) : State := s.memGo s.pump.waits.length

/-- Hand a transaction to the port: one of the system queue waits there for its turn (R322, R453). -/
def State.memPut (s : State) (t : MemTxn) : State :=
  if t.who.unit = 4 then s.memIssue t
  else ({ s with pump := { s.pump with waits := s.pump.waits ++ [t] } } : State).memFlush

/-- Order a write; `host` is the function of a host-memory access. -/
def State.memWr (s : State) (who : MemWho) (addr len data : Nat) (host : Option Nat) : State :=
  s.memPut ⟨who, addr, len, s.hostCtx host, true, data⟩

/-- Order a read. -/
def State.memRd (s : State) (who : MemWho) (addr len : Nat) (host : Option Nat) : State :=
  s.memPut ⟨who, addr, len, s.hostCtx host, false, 0⟩

/-- The oldest unanswered write of a requester is answered; one that has not left is not going to. -/
def State.memAck (s : State) (who : MemWho) : State :=
  ({ s with pump := { s.pump with
      writes := s.pump.writes.eraseP (fun t => t.who == who)
      waits := if s.pump.writes.any (fun t => t.who == who) then s.pump.waits
        else s.pump.waits.eraseP (fun t => t.who == who && t.write) } } : State).memFlush

/-- The unanswered write of a requester to these bytes is answered. -/
def State.memAckAt (s : State) (who : MemWho) (addr len : Nat) : State :=
  ({ s with pump := { s.pump with
      writes := s.pump.writes.eraseP (fun t => t.who == who && t.addr == addr && t.len == len) } } : State).memFlush

/-- The oldest unanswered read of a requester of the system queue is answered; one that has not left is not going to. -/
def State.memGot (s : State) (who : MemWho) : State :=
  ({ s with pump := { s.pump with
      reads := s.pump.reads.eraseP (fun t => t.who == who)
      waits := if s.pump.reads.any (fun t => t.who == who) then s.pump.waits
        else s.pump.waits.eraseP (fun t => t.who == who && !t.write) } } : State).memFlush

/-- Every read that a requester of the system queue ordered has left and is answered. -/
def State.memGotAll (s : State) (who : MemWho) : State :=
  let s := (s.pump.waits.filter (fun t => t.who == who)).foldl (fun s t => s.emit (.memRead t.who t.addr t.len t.host (s.qosOf t.who))) s
  ({ s with pump := { s.pump with
      reads := s.pump.reads.filter (fun t => t.who != who), waits := s.pump.waits.filter (fun t => t.who != who) } } : State).memFlush

/-! ## Stamps -/

/-- The Headgate's view of the TB in whole ns (R35, R358). -/
def State.now (s : State) : Nat := s.clk.h3.toNat / 2 ^ 24
/-- The Headgate's view in units of 1/256 ns (R35). -/
def State.view (s : State) : Nat := s.clk.h3.toNat / 2 ^ 16
/-- The membership epoch (R270). -/
def State.epoch (s : State) : Nat := s.fld R.culEpoch 15 0
/-- TICKNO of the grid (R31). -/
def State.tickno (s : State) : Nat := s.grid.tick % 2 ^ 48
/-- The partition's records carry HALT_SMEAR (R362). -/
def State.smeared (s : State) (p : Nat) : Bool := s.obs.smear.getLsbD p

/-! ## Usage (R381, R383) -/

/-- The five totals of a set. -/
inductive Usage where
  | ticks
  | ops
  | lanes
  | cbytes
  | pbytes
  deriving DecidableEq, Repr

def Usage.idx : Usage → Nat
  | .ticks => 0
  | .ops => 1
  | .lanes => 2
  | .cbytes => 3
  | .pbytes => 4

/-- Add usage to set p; an accumulator that would pass 2^48 - 1 holds there, the next frame carries SAT, and
PFM_GAU_STATUS.SAT is set (R383). -/
def State.usage (s : State) (p : Nat) (u : Usage) (n : Nat) : State :=
  let v := tget 0 s.glink.delta (5 * p + u.idx) + n
  if v < 2 ^ 48 then { s with glink := { s.glink with delta := tset 0 s.glink.delta (5 * p + u.idx) v } }
  else ({ s with glink := { s.glink with
            delta := tset 0 s.glink.delta (5 * p + u.idx) (2 ^ 48 - 1), sat := true } } : State).setFlag
          R.pfmGauStatus 3 true

/-! ## Sumps (R349 to R351) -/

/-- Bytes of one record of a sump (R349). -/
def recBytes (kind : Nat) : Nat := if kind = 0 then 32 else if kind = 1 then 64 else 16

/-- A record finds room in the buffer of sump `i`. -/
def State.sumpRoom (s : State) (i : Nat) : Bool :=
  (tget {} s.obs.sumps i).recs.length
    < s.fld (R.obsScfg i) 17 12 * 4096 / recBytes (s.fld (R.obsScfg i) 30 29)

def State.setSump (s : State) (i : Nat) (x : Sump) : State :=
  { s with obs := { s.obs with sumps := tset {} s.obs.sumps i x } }

/-- A record lost at sump `i` (R351); at sump 0 it also counts in OBS_AO_LOST_CNT (R376). -/
def State.sumpLose (s : State) (i : Nat) : State :=
  let x := tget {} s.obs.sumps i
  let s := (s.setSump i { x with loss := x.loss + 1 }).bump (R.obsSlostCnt i) 1
  if i = 0 then s.bump R.obsAoLost 1 else s

/-- Put one record into sump `i`'s buffer, or lose it. -/
def State.sumpPut (s : State) (i : Nat) (r : Nat) : State :=
  if s.sumpRoom i then
    let x := tget {} s.obs.sumps i
    s.setSump i { x with recs := x.recs ++ [r] }
  else s.sumpLose i

/-- Clear the carried loss of sump `i`. -/
def State.sumpCarried (s : State) (i : Nat) : State :=
  s.setSump i { tget {} s.obs.sumps i with loss := 0 }

/-- A record for sump `i` of KIND SAMPLE or TRACE; where records were lost, bit 2 says so (LATE_SAMPLE, LOST). -/
def State.sumpRecord (s : State) (i : Nat) (r : Nat) : State :=
  if s.sumpRoom i then
    if (tget {} s.obs.sumps i).loss = 0 then s.sumpPut i r else (s.sumpCarried i).sumpPut i (r ||| 4)
  else s.sumpLose i

/-- The fields of an always-on record that its event gives (R354). -/
structure AoRec where
  type : Nat
  unit : Nat
  code : Nat := 0
  part : Nat := 0
  cnum : Nat := 0
  aux : Nat := 0
  info : Nat := 0
  deriving DecidableEq, Repr

/-- The 32 bytes of an always-on record (R354). -/
def State.aoWord (s : State) (r : AoRec) : Nat :=
  s.now % 2 ^ 64 * 2 ^ 192 + r.type % 256 * 2 ^ 184 + r.unit % 256 * 2 ^ 176 + r.code % 256 * 2 ^ 168
    + r.part % 32 * 2 ^ 163 + r.cnum % 2 ^ 24 * 2 ^ 136 + r.aux % 256 * 2 ^ 128 + s.tickno * 2 ^ 80
    + s.epoch * 2 ^ 64 + r.info % 2 ^ 64

/-- Write an always-on record to sump 0, an OVERFLOW record ahead of it where records were lost (R351). -/
def State.ao (s : State) (r : AoRec) : State :=
  if s.sumpRoom 0 then
    let n := (tget {} s.obs.sumps 0).loss
    if n = 0 then s.sumpPut 0 (s.aoWord r)
    else ((s.sumpCarried 0).sumpPut 0 (s.aoWord { type := 0x0D, unit := 11, info := n })).sumpPut 0 (s.aoWord r)
  else s.sumpLose 0

/-! ## Fault entries (R311, R312) -/

/-- The fields of a fault entry that its event gives (R312). -/
structure FaultRec where
  code : Nat
  cnum : Nat := 0
  layer : Nat := 0
  oper : Nat := 0
  n1 : Nat := 0
  n2 : Nat := 0
  master : Nat := 0x1FFF
  unit : Nat
  stretch : Bool := false
  summary : Bool := false
  info : Nat := 0
  deriving DecidableEq, Repr

/-- The number of p's tick (R37): where p runs no ticks of its own, in STOPPED and RESTARTING, that of the grid, which is
its own with a shift of 0 (assumption 47). -/
def State.tickOf (s : State) (p : Nat) : Nat := if s.active p then (s.prt p).tick.toNat else s.tickno

/-- The 256 bits of a fault entry of partition p (R312). -/
def State.faultWord (s : State) (p : Nat) (r : FaultRec) : Nat :=
  s.tickOf p * 2 ^ 208 + r.code % 256 * 2 ^ 200 + r.cnum % 2 ^ 24 * 2 ^ 176 + r.layer % 2 ^ 12 * 2 ^ 164
    + r.oper % 2 ^ 12 * 2 ^ 152 + r.n1 % 2 ^ 20 * 2 ^ 132 + r.n2 % 2 ^ 20 * 2 ^ 112 + r.master % 2 ^ 13 * 2 ^ 99
    + s.epoch * 2 ^ 80 + r.unit % 256 * 2 ^ 72 + bit r.stretch * 2 ^ 67 + bit (s.smeared p) * 2 ^ 66
    + bit r.summary * 2 ^ 65 + r.info % 2 ^ 64

/-- FFN and FVEC name a vector that exists (R311): function 0, or an enabled function of p with FVEC below NVEC. -/
def State.faultFnOk (s : State) (p : Nat) : Bool :=
  let f := s.fld (R.pfmPfltCfg p) 23 16
  f == 0 || (s.fEn f && s.fPart f == p && decide (s.fld (R.pfmPfltCfg p) 12 8 < s.fNvec f))

/-- The fault ring of p is valid (R311). -/
def State.faultRingOk (s : State) (p : Nat) : Bool :=
  let n := s.fld (R.pfmPfltCfg p) 4 0
  decide (6 ≤ n ∧ n ≤ 16) && s.faultFnOk p

/-- Capacity of a ring of 2^n entries with indices of w bits (R309). -/
def ringCap (w n : Nat) : Nat := if n < w then 2 ^ n else 2 ^ w - 1

/-- An always-on counter that a fault entry moves (R376). -/
def State.aoFaultCounts (s : State) (r : FaultRec) : State :=
  let s := s.bump R.obsAoFault 1
  if r.code = 0x02 then s.bump R.obsAoOvr 1 else s

/-- Issue the write of the oldest fault entry that waits, to slot PROD of the ring (R311, R323). -/
def State.faultIssue (s : State) (p : Nat) : State :=
  match (s.prt p).faultQ with
  | [] => s
  | e :: _ =>
    s.memWr (.fault p)
      (s.pair (R.pfmPfltAddr p) + 32 * (s.fld (R.pfmPfltProd p) 15 0 % 2 ^ s.fld (R.pfmPfltCfg p) 4 0)) 32 e.1 none

/-- Write one fault entry to partition p: the copy in sump 0 (R354), then the ring (R311), through the Pump's system
queue. -/
def State.fault (s : State) (p : Nat) (r : FaultRec) : State :=
  let s := s.aoFaultCounts r
  let s := s.ao { type := 0x01, unit := r.unit, code := r.code, part := p, cnum := r.cnum, info := r.info }
  let w := s.faultWord p r
  let n := s.fld (R.pfmPfltCfg p) 4 0
  let prod := s.fld (R.pfmPfltProd p) 15 0
  let cons := s.fld (R.pfmPfltCons p) 15 0
  if s.faultRingOk p ∧ (prod + 65536 - cons) % 65536 + (s.prt p).faultQ.length < ringCap 16 n then
    let first := (s.prt p).faultQ.isEmpty
    let s := s.modPrt p (fun x => { x with faultQ := x.faultQ ++ [(w, r.code != 0x11)] })
    if first then s.faultIssue p else s
  else s.bump (R.pfmPfltDrop p) 1

/-- An event of a first-event code in partition p (R312): counted for the SUMMARY entry, and written at once if it is
the first of its partition tick. The count stands in bits [31:0] of the table's value, above it the unit of the first
event. A LATE_RELEASE event is one cistern reported (OBS_AO_LATE_CNT, R376). -/
def State.event (s : State) (p : Nat) (r : FaultRec) : State :=
  let n := tget 0 (s.prt p).events r.code
  let v := if n = 0 then r.unit * 2 ^ 32 + 1 else n + 1
  let s := s.modPrt p (fun x => { x with events := tset 0 x.events r.code v })
  let s := if r.code = 0x01 then s.bump R.obsAoLate 1 else s
  if n = 0 then s.fault p r else s

/-- The SUMMARY entries at the end of a partition tick (R312). -/
def State.summaries (s : State) (p : Nat) : State :=
  let l := (s.prt p).events
  l.foldl (fun s e => s.fault p { code := e.1, n1 := e.2 % 2 ^ 32, unit := e.2 / 2 ^ 32, summary := true })
    (s.modPrt p (fun x => { x with events := [] }))

/-- A write ignored as CFG_LOCKED in p (R312, R317). -/
def State.cfgLocked (s : State) (p unit off : Nat) : State :=
  (s.bump (R.pfmPcfglkCnt p) 1).event p { code := 0x0B, unit := unit, info := off }

/-! ## Counters (R352) -/

/-- What one event counts: its code, how many, its partition, and for REDUCE events the format and the lanes. -/
structure Evt where
  evt : Nat
  n : Nat := 1
  part : Option Nat := none
  fmt : Nat := 7
  lanes : Nat := 0
  deriving DecidableEq, Repr

/-- A select word chooses the event (R352). -/
def Evt.sel (e : Evt) (w : Nat) : Bool :=
  bits w 7 0 == e.evt
    && (!(e.evt == 0x02 || e.evt == 0x0A) || bits w 10 8 == 7 || bits w 10 8 == e.fmt)

/-- What a chosen event adds: lanes with LANES set, else occurrences. -/
def Evt.amount (e : Evt) (w : Nat) : Nat :=
  if (e.evt == 0x02 || e.evt == 0x0A) && w.testBit 11 then e.lanes else e.n

/-- The counter that a select register at `off` governs, if the event reaches it. -/
def Evt.slot (e : Evt) (off w : Nat) : Option Nat :=
  if 0xA1000 ≤ off ∧ off < 0xA2000 ∧ off % 16 = 0 then
    if e.sel w && (!w.testBit 30 || e.part == some (bits w 28 24)) then some ((off - 0xA1000) / 16) else none
  else if 0xA4000 ≤ off ∧ off < 0xAC000 ∧ off % 16 = 0 then
    let p := (off - 0xA4000) / 0x400
    if e.sel w && e.part == some p then some (0x1000 + 64 * p + (off - 0xA4000) % 0x400 / 16) else none
  else none

/-- Add to a 48-bit counter; it wraps. -/
def addCnt (t : Tab Nat) (k n : Nat) : Tab Nat := tset 0 t k ((tget 0 t k + n) % 2 ^ 48)

/-- One listed register's part in counting an event. -/
def Evt.step (e : Evt) (t : Tab Nat) (x : Nat × W32) : Tab Nat :=
  match e.slot x.1 x.2.toNat with
  | some k => addCnt t k (e.amount x.2.toNat)
  | none => t

/-- Count an event in every counter whose select register chooses it. A select register at its reset word chooses
none, so only listed registers matter. -/
def State.count (s : State) (e : Evt) : State :=
  if e.n = 0 then s else { s with obs := { s.obs with cnt := s.regs.foldl e.step s.obs.cnt } }

/-- Issue cycles of the banks (R352). -/
def State.cycles (s : State) (n : Nat) : State := s.count { evt := 0x33, n := n }

/-! ## Trace (R355, R356) -/

/-- A trace event before it becomes a record. `tap` is the logical tap of a leaf event. -/
structure Trace where
  evt : Nat
  part : Nat
  cnum : Nat := 0
  layer : Nat := 0
  oper : Nat := 0
  src : Nat := 0
  arg : Nat := 0
  tap : Bool := false
  stretch : Bool := false
  deriving DecidableEq, Repr

/-- The record of a trace event (R355). -/
def State.traceWord (s : State) (t : Trace) : Nat :=
  s.now % 2 ^ 48 * 2 ^ 80 + t.cnum % 2 ^ 24 * 2 ^ 56 + t.layer % 2 ^ 12 * 2 ^ 44 + t.oper % 2 ^ 12 * 2 ^ 32
    + t.src % 2 ^ 13 * 2 ^ 19 + t.part % 32 * 2 ^ 14 + t.evt % 32 * 2 ^ 9 + t.arg % 16 * 2 ^ 5
    + bit t.stretch * 16 + bit (s.smeared t.part) * 8

/-- Filter `f` lets the event through (R356). -/
def State.filterOk (s : State) (f : Nat) (t : Trace) : Bool :=
  let c := s.reg (R.obsTfcfg f)
  let l := s.reg (R.obsTflayer f)
  let o := s.reg (R.obsTfoper f)
  let a := s.reg (R.obsTftap f)
  let m := s.reg (R.obsTfcmask f)
  c.testBit 31 && (s.reg (R.obsTfevt f)).testBit t.evt && bits c 26 22 == t.part
    && (t.layer &&& bits l 27 16) == (bits l 11 0 &&& bits l 27 16)
    && (t.oper &&& bits o 27 16) == (bits o 11 0 &&& bits o 27 16)
    && (if t.tap then decide (bits a 11 0 ≤ t.src ∧ t.src ≤ bits a 27 16)
        else bits a 11 0 == 0 && bits a 27 16 == 0xFFF)
    && (t.cnum &&& m) == (s.reg (R.obsTfcval f) &&& m)

/-- A sump is an enabled TRACE sump owned by function 0 or by partition `p`. -/
def State.traceSumpOk (s : State) (i p : Nat) : Bool :=
  let c := s.reg (R.obsScfg i)
  c.testBit 31 && bits c 30 29 == 2 && (!c.testBit 28 || bits c 27 23 == p)

/-- The sump an event's record goes to: that of the lowest-numbered filter that matches (R356). -/
def State.traceSump (s : State) (t : Trace) : Option Nat :=
  match (List.range 8).find? (fun f => s.filterOk f t) with
  | none => none
  | some f =>
    let i := s.fld (R.obsTfcfg f) 30 27
    if s.traceSumpOk i t.part then some i else none

/-- A trace event of a bank, the Headgate, a port or the observation unit. -/
def State.trace (s : State) (t : Trace) : State :=
  match s.traceSump t with
  | some i => s.sumpRecord i (s.traceWord t)
  | none => s

/-! ## Interrupt messages (R314) -/

/-- A message on vector v of function f leaves; its holdoff interval begins. -/
def State.irqSend (s : State) (f v : Nat) : State :=
  let s := s.emit (.irq f v (s.fPort f))
  if s.fld (R.dqHoldoff f) 15 0 = 0 then s
  else s.modFn f (fun x => { x with held := x.held ++ [v] })

/-- The holdoff interval of vector v of function f is running: HOLDOFF_EXPIRY ends it. -/
def State.holding (s : State) (f v : Nat) : Bool := (s.fn f).held.contains v

/-- An event on vector v of function f (R314). -/
def State.irqEvent (s : State) (f v : Nat) : State :=
  if s.flag (R.dqVmask f) v then s.setFlag (R.dqVpend f) v true
  else if s.holding f v then
    s.modFn f (fun x => { x with waitVec := if v ∈ x.waitVec then x.waitVec else x.waitVec ++ [v] })
  else s.irqSend f v

/-! ## Cyclic codes -/

/-- One bit of a reflected CRC-32 (R451). -/
def crc32Bit (c : Nat) : Nat := if c % 2 = 1 then (c / 2) ^^^ 0xEDB88320 else c / 2

/-- One byte of a reflected CRC-32. -/
def crc32Byte (c : Nat) (b : Byte) : Nat :=
  (List.range 8).foldl (fun c _ => crc32Bit c) (c ^^^ b.toNat)

/-- The CRC-32 of R451 over a byte list. -/
def crc32 (l : List Byte) : Nat := (l.foldl crc32Byte 0xFFFFFFFF) ^^^ 0xFFFFFFFF

/-- One bit of the CRC-16 of R384, most significant bit first. -/
def crc16Bit (c : Nat) : Nat := if c < 0x8000 then c * 2 else (c * 2 % 65536) ^^^ 0x1021

/-- The CRC-16 over one 16-bit word. -/
def crc16Word (c w : Nat) : Nat := (List.range 16).foldl (fun c _ => crc16Bit c) (c ^^^ w)

/-- The CRC-16 of a frame (R384): every preceding word. -/
def crc16 (l : List (BitVec 16)) : Nat := l.foldl (fun c w => crc16Word c w.toNat) 0xFFFF

/-- The CRC-16 over one byte (R394). -/
def crc16Byte (c : Nat) (b : Byte) : Nat := (List.range 8).foldl (fun c _ => crc16Bit c) (c ^^^ b.toNat * 256)

/-- The CRC-16 over bytes (R394). -/
def crc16Bytes (l : List Byte) : Nat := l.foldl crc16Byte 0xFFFF

/-- One bit of the CRC-64 of R387, most significant bit first. -/
def crc64Bit (c : Nat) : Nat := if c < 2 ^ 63 then c * 2 else (c * 2 % 2 ^ 64) ^^^ 0x42F0E1EBA9EA3693

/-- The CRC-64 over bytes (R387). -/
def crc64 (l : List Byte) : Nat :=
  l.foldl (fun c b => (List.range 8).foldl (fun c _ => crc64Bit c) (c ^^^ b.toNat * 2 ^ 56)) 0

/-- The `n` bytes of a number, least significant first (R9). -/
def toBytes (n v : Nat) : List Byte := (List.range n).map (fun i => BitVec.ofNat 8 (v >>> (8 * i)))

/-- The number that little-endian bytes spell (R9). -/
def ofBytes : List Byte → Nat
  | [] => 0
  | b :: t => b.toNat + 256 * ofBytes t

/-- `n` bytes from place `i` of a byte list, as a number. -/
def bytesAt (l : List Byte) (i n : Nat) : Nat := ofBytes ((l.drop i).take n)

end Sys2Proof.Machine
end

