-- ==== Sys2Proof/Machine/Operands.lean ====
section
/-! DEFINITION. Every operand form: cistern entries as words (R58), control network requests and responses (R80,
R82), ARM definitions (R73), and the commands of the host rings (R302, R303, R369). -/

namespace Sys2Proof.Machine

/-! ## Cistern entries (R58) -/

/-- The 128-bit word of an entry. -/
def Cistern.pack (c : Cistern) : W128 :=
  c.kind ++ (c.part ++ (BitVec.ofBool c.dclass ++ (BitVec.ofBool c.maskmode ++ (BitVec.ofBool c.spilled ++
    (c.gen ++ (c.target ++ (c.count ++ (c.rlist ++ (c.basin ++ (c.layer ++ (c.oper ++ c.status)))))))))))

/-- The entry that a word holds. -/
def Cistern.unpack (w : W128) : Cistern where
  kind := w.extractLsb' 124 4
  part := w.extractLsb' 119 5
  dclass := w.getLsbD 118
  maskmode := w.getLsbD 117
  spilled := w.getLsbD 116
  gen := w.extractLsb' 100 16
  target := w.extractLsb' 80 20
  count := w.extractLsb' 60 20
  rlist := w.extractLsb' 44 16
  basin := w.extractLsb' 28 16
  layer := w.extractLsb' 16 12
  oper := w.extractLsb' 4 12
  status := w.extractLsb' 0 4

/-- The entry that allocation writes (R59). -/
def Cistern.fresh (p : Nat) (frame : Bool) : Cistern :=
  { kind := 1, part := BitVec.ofNat 5 p, basin := 0xFFFF, spilled := frame }

/-- KIND codes (R58). -/
def kBarrier : BitVec 4 := 1
def kCount : BitVec 4 := 2
def kCredit : BitVec 4 := 3
def kEvent : BitVec 4 := 4
def kReduce : BitVec 4 := 5
/-- STATUS codes (R58). -/
def stIdle : BitVec 4 := 0
def stArmed : BitVec 4 := 1
def stDone : BitVec 4 := 2
def stLate : BitVec 4 := 3
def stFault : BitVec 4 := 4
def stFenced : BitVec 4 := 5

/-! ## Operation and result codes (R72, R83) -/

namespace Op
def arrive : Nat := 0x01
def arriveN : Nat := 0x02
def postCount : Nat := 0x03
def reduceInto : Nat := 0x04
def creditReturn : Nat := 0x05
def poll : Nat := 0x06
def arm : Nat := 0x07
def clear : Nat := 0x08
def fence : Nat := 0x09
def unfence : Nat := 0x0A
def read : Nat := 0x10
def semAdd : Nat := 0x11
def testAndSet : Nat := 0x12
def cas : Nat := 0x13
def swap : Nat := 0x14
def incSat : Nat := 0x15
def maxInto : Nat := 0x16
def minInto : Nat := 0x17
end Op

namespace Res
def ok : Nat := 0x0
def completed : Nat := 0x1
def notArmed : Nat := 0x2
def genMismatch : Nat := 0x3
def excess : Nat := 0x4
def busy : Nat := 0x5
def fenced : Nat := 0x6
def rights : Nat := 0x7
def range : Nat := 0x8
def kind : Nat := 0x9
def failed : Nat := 0xA
def spillTimeout : Nat := 0xB
def uncorrectable : Nat := 0xC
def badOp : Nat := 0xD
def late : Nat := 0xE
end Res

/-! Fault codes (R19). -/
namespace Fc
def lateRelease : Nat := 0x01
def tickOverrun : Nat := 0x02
def creditBound : Nat := 0x03
def genMismatch : Nat := 0x04
def fencedTarget : Nat := 0x05
def codeUncorrectable : Nat := 0x06
def linkDown : Nat := 0x07
def memberLost : Nat := 0x08
def busFault : Nat := 0x09
def rights : Nat := 0x0A
def cfgLocked : Nat := 0x0B
def spillMissTimeout : Nat := 0x0C
def descFormat : Nat := 0x0D
def poolExhausted : Nat := 0x0E
def presenceRequired : Nat := 0x0F
def notBound : Nat := 0x10
def haltSmear : Nat := 0x11
end Fc

/-- An operation code of R72. -/
def opDefined (o : Nat) : Bool := (1 ≤ o && o ≤ 0x0A) || (0x10 ≤ o && o ≤ 0x17)
/-- A cistern operation (R72). -/
def opCistern (o : Nat) : Bool := 1 ≤ o && o ≤ 0x0A
/-- A word operation code (R72). -/
def opWord (o : Nat) : Bool := 0x10 ≤ o && o ≤ 0x17

/-- A request header is malformed: reserved bits, SPACE 3, a reserved code or one that its space does not have, or INDEX bits that
must be 0 (R72, R74, R80). -/
def headerBad (rsv space opc index : Nat) : Bool :=
  rsv != 0 || space == 3 || !(if space = 0 then opCistern opc else opWord opc) || (space == 1 && index % 32 != 0)

/-- An arrival operation, which carries a GEN (R65): ARRIVE, ARRIVE_N, POST_COUNT, REDUCE_INTO, CREDIT_RETURN. -/
def opArrival (o : Nat) : Bool := 1 ≤ o && o ≤ 5

/-- The 128-bit response flit (R82). -/
def BankRsp.flit (r : BankRsp) (tag : Nat) : W128 :=
  BitVec.ofNat 128 (tag % 256 * 2 ^ 120 + r.result % 16 * 2 ^ 116 + r.status % 16 * 2 ^ 112 + r.gen % 65536 * 2 ^ 96
    + (r.count % 2 ^ 20 + bit r.empty * 2 ^ 20) * 2 ^ 64 + r.data.toNat)

/-- The response that a flit carries. -/
def BankRsp.ofFlit (w : W128) : BankRsp :=
  let n := w.toNat
  { result := bits n 119 116, status := bits n 115 112, gen := bits n 111 96, count := bits n 83 64,
    empty := n.testBit 84, data := BitVec.ofNat 64 n }

/-- The header flit of a request (R80). -/
def BankOp.header (o : BankOp) (tag : Nat) : W128 :=
  BitVec.ofNat 128 (o.opc % 32 * 2 ^ 123 + o.space % 4 * 2 ^ 121 + 2 ^ 120 + tag % 256 * 2 ^ 112
    + o.master % 2 ^ 13 * 2 ^ 99 + o.index % 2 ^ 24 * 2 ^ 75 + o.gen % 65536 * 2 ^ 59)

/-- The basin that a word operation's INDEX names (R80). -/
def BankOp.basin (o : BankOp) : Nat := bits o.index 23 8
/-- The word of the basin (R80). -/
def BankOp.word (o : BankOp) : Nat := bits o.index 7 5
/-- The well that a well operation's INDEX names (R80). -/
def BankOp.well (o : BankOp) : Nat := bits o.index 23 8

/-! ## ARM (R73) -/

/-- The definition an ARM takes from its operands. -/
structure ArmDef where
  kind : BitVec 4
  dclass : Bool
  maskmode : Bool
  keep : Bool
  deadline : Bool
  rsv : BitVec 4
  target : BitVec 20
  rlist : BitVec 16
  basin : BitVec 16
  layer : BitVec 12
  oper : BitVec 12
  rsvB : BitVec 40
  deriving DecidableEq, Repr

def ArmDef.of (a b : W64) : ArmDef where
  kind := a.extractLsb' 60 4
  dclass := a.getLsbD 59
  maskmode := a.getLsbD 58
  keep := a.getLsbD 57
  deadline := a.getLsbD 56
  rsv := a.extractLsb' 52 4
  target := a.extractLsb' 32 20
  rlist := a.extractLsb' 16 16
  basin := a.extractLsb' 0 16
  layer := b.extractLsb' 12 12
  oper := b.extractLsb' 0 12
  rsvB := b.extractLsb' 24 40

/-! ## Commands of the host rings (R302, R303) -/

/-- `n` bytes of a command from offset `i`. -/
def Cmd.at (c : Cmd) (i n : Nat) : Nat := (c.data.toNat >>> (8 * i)) % 2 ^ (8 * n)

def Cmd.opc (c : Cmd) : Nat := c.at 0 1
def Cmd.irq (c : Cmd) : Bool := (c.at 1 1).testBit 0
def Cmd.order (c : Cmd) : Bool := (c.at 1 1).testBit 1
def Cmd.quiet (c : Cmd) : Bool := (c.at 1 1).testBit 2
def Cmd.vec (c : Cmd) : Nat := c.at 2 1
def Cmd.part (c : Cmd) : Nat := c.at 3 1
def Cmd.tag (c : Cmd) : Nat := c.at 4 2
def Cmd.layer (c : Cmd) : Nat := c.at 6 2
def Cmd.oper (c : Cmd) : Nat := c.at 8 2
def Cmd.cnum (c : Cmd) : Nat := c.at 0x10 4
def Cmd.well (c : Cmd) : Nat := c.at 0x10 2
def Cmd.sub (c : Cmd) : Nat := c.at 0x14 1
def Cmd.bop (c : Cmd) : Nat := c.at 0x15 1
def Cmd.gen (c : Cmd) : Nat := c.at 0x16 2
def Cmd.a (c : Cmd) : W64 := BitVec.ofNat 64 (c.at 0x18 8)
def Cmd.b (c : Cmd) : W64 := BitVec.ofNat 64 (c.at 0x20 8)
def Cmd.smask (c : Cmd) : Nat := c.at 0x18 1
def Cmd.to (c : Cmd) : Nat := c.at 0x1A 2

/-- A mask of `n` bits from bit `lo`. -/
def field (lo n : Nat) : Nat := (2 ^ n - 1) * 2 ^ lo

/-- The bits of a command that are not reserved, by its opcode (R302, R303, R369). -/
def cmdMask (opc : Nat) : Nat :=
  field 0 8 + field 8 3 + field 16 8 + field 24 8 + field 32 16 + field 48 12 + field 64 12 +
  (if opc = 1 then field 0x80 24 + field 0xC0 64
   else if opc = 2 then field 0x80 24 + field 0xA0 8 + field 0xA8 8 + field 0xB0 16 + field 0xC0 64 + field 0x100 64
   else if opc = 3 then field 0x80 24 + field 0xB0 16 + field 0xC0 64 + field 0x106 58 + field 0x140 1
   else if opc = 4 then field 0x80 24 + field 0xB0 16 + field 0xC0 8 + field 0xD0 16
   else if opc = 5 then field 0x80 16 + field 0xA0 8 + field 0xC0 32
   else if opc = 6 then field 0x80 16 + field 0xA0 8 + field 0xC0 64 + field 0x100 64
   else if opc = 7 then field 0xC0 64 + field 0x100 48
   else if opc = 8 then field 0x80 320 + field 0x1C0 2
   else 0)

/-- A selector byte of a command holds a defined value (R303, R305). -/
def cmdSubOk (c : Cmd) : Bool :=
  if c.opc = 2 then decide (c.sub ≤ 1) && opDefined c.bop && c.bop != Op.reduceInto && c.bop != Op.arm
  else if c.opc = 5 then decide (c.sub ≤ 1)
  else if c.opc = 6 then decide (c.sub ≤ 5)
  else true

/-- A command of function f is well formed (R303): otherwise it completes REFUSED with DESC_FORMAT. -/
def State.cmdOk (s : State) (f : Nat) (c : Cmd) : Bool :=
  decide (c.opc ≤ 9) && (c.data.toNat &&& cmdMask c.opc) == c.data.toNat && decide (c.vec < s.fNvec f)
    && (if f = 0 then decide (c.part < s.nPart) else c.part == 0) && cmdSubOk c

/-- The requester partition of a command (R286). -/
def State.cmdPart (s : State) (f : Nat) (c : Cmd) : Nat := if f = 0 then c.part else s.fPart f

end Sys2Proof.Machine
end

