-- ==== Sys2Proof/Machine/Answer.lean ====
section
/-! DEFINITION. How the answers of operations reach who asked: completions of host commands (R307 to R310), WAITs
(R306), Pump OP descriptors (R331), and the error of a function (R315). -/

namespace Sys2Proof.Machine

/-! ## Completions (R308, R310) -/

/-- What a completion says beside the command's own fields (R308). -/
structure CplRec where
  cstat : Nat := 0
  result : Nat := 0
  fcode : Nat := 0
  held : Bool := false
  passed : Bool := false
  empty : Bool := false
  data : Nat := 0
  count : Nat := 0
  gen : Nat := 0
  status : Nat := 0
  deriving DecidableEq, Repr

/-- The function writes completions: its queues are enabled and it is not in ERROR (R315, R316). -/
def State.fnWrites (s : State) (f : Nat) : Bool := s.flag (R.dqCtrl f) 0 && s.fld (R.pfmFstate f) 1 0 != 2

/-- The 32 bytes of a completion in ring slot `k` (a 17-bit count) (R308). -/
def State.cplWord (s : State) (f : Nat) (c : Cmd) (k : Nat) (r : CplRec) : Nat :=
  let p := s.cmdPart f c
  let log2 := s.fld (R.dqRingSize f) 20 16
  c.tag + c.cidx % 65536 * 2 ^ 16 + c.opc * 2 ^ 32 + (r.cstat % 16 + r.result % 16 * 16) * 2 ^ 40
    + r.fcode % 256 * 2 ^ 48
    + (bit r.held + bit r.passed * 2 + bit r.empty * 4 + bit (s.smeared p) * 8 + bit (k / 2 ^ log2 % 2 == 0) * 128)
        * 2 ^ 56
    + r.data % 2 ^ 64 * 2 ^ 64 + r.count % 2 ^ 20 * 2 ^ 128 + r.gen % 65536 * 2 ^ 160 + r.status % 16 * 2 ^ 176
    + s.tickno * 2 ^ 192

/-- Write a completion (R308): one aligned 32-byte write in the function's context. -/
def State.cplWrite (s : State) (f : Nat) (c : Cmd) (r : CplRec) : State :=
  let x := s.fn f
  let k := (x.cplProd.toNat + x.cpls.length) % 2 ^ 17
  let a := s.pair (R.dqCplBase f) + 32 * (k % 2 ^ s.fld (R.dqRingSize f) 20 16)
  let s' := s.memWr (.completion f) a 32 (s.cplWord f c k r) (some f)
  s'.modFn f (fun x => { x with cpls := x.cpls ++ [⟨c.irq, c.vec⟩] })

/-- A command completes: it leaves the flight and the waits, counts, and its completion is written unless QUIET with
DONE, or unless the function writes none. -/
def State.complete (s : State) (f : Nat) (c : Cmd) (r : CplRec) : State :=
  let s := s.modFn f (fun x => { x with flight := x.flight.filter (fun i => i.cmd != c),
                                        waits := x.waits.filter (fun w => w.cmd != c) })
  let s := (s.bump (R.pfmFcmdCnt f) 1).count { evt := 0x28, part := if f = 0 then none else some (s.fPart f) }
  if !s.fnWrites f || (c.quiet && r.cstat == 0) then s else s.cplWrite f c r

/-- CSTAT and FCODE of a bank RESULT (R310). -/
def cstatOf (result : Nat) : Nat × Nat :=
  if result = Res.genMismatch then (1, Fc.genMismatch)
  else if result = Res.rights then (1, Fc.rights)
  else if result = Res.spillTimeout then (1, Fc.spillMissTimeout)
  else if result = Res.uncorrectable then (1, Fc.codeUncorrectable)
  else if result = Res.fenced ∨ result = Res.range ∨ result = Res.kind ∨ result = Res.badOp then (1, Fc.descFormat)
  else (0, 0)

/-- The completion of a bank answer (R310). -/
def BankRsp.cpl (r : BankRsp) : CplRec :=
  { cstat := (cstatOf r.result).1, fcode := (cstatOf r.result).2, result := r.result, empty := false,
    data := r.data.toNat, count := r.count, gen := r.gen, status := r.status }

/-- A command completes REFUSED with a fault code and no RESULT. -/
def State.refuse (s : State) (f : Nat) (c : Cmd) (code : Nat) : State :=
  s.complete f c { cstat := 1, fcode := code }

/-! ## WAIT (R306) -/

/-- The condition of a WAIT, and whether it holds because the generation passed. -/
def waitMet (c : Cmd) (r : BankRsp) : Bool × Bool :=
  let d := (r.gen + 65536 - c.gen) % 65536
  if d = 0 then (c.smask.testBit r.status, false) else (decide (1 ≤ d ∧ d ≤ 32767), true)

/-- One poll of a WAIT is answered: met, refused by the bank, or, where it was the last poll, TIMEOUT. -/
def State.waitAnswer (s : State) (f : Nat) (w : WaitEnt) (r : BankRsp) : State :=
  if r.result ≠ Res.ok then s.complete f w.cmd r.cpl
  else
    let m := waitMet w.cmd r
    if m.1 then s.complete f w.cmd { r.cpl with passed := m.2, empty := r.empty }
    else if w.last && w.polls ≤ 1 then s.complete f w.cmd { r.cpl with cstat := 2 }
    else s.modFn f (fun x => { x with waits := x.waits.map (fun v =>
      if v.cmd = w.cmd then { v with polls := v.polls - 1 } else v) })

/-! ## Delivery by origin -/

/-- The in-flight command or WAIT of function f with ring index `cidx`. -/
def Fn.findWait (x : Fn) (cidx : Nat) : Option WaitEnt := x.waits.find? (fun w => w.cmd.cidx == cidx)
def Fn.findFlight (x : Fn) (cidx : Nat) : Option InFlight := x.flight.find? (fun i => i.cmd.cidx == cidx)

/-- An answer to a host command that needs no further operation: a WAIT's poll, or a command's only operation. -/
def State.dquAnswer (s : State) (f cidx : Nat) (r : BankRsp) : State :=
  match (s.fn f).findWait cidx with
  | some w => s.waitAnswer f w r
  | none =>
    match (s.fn f).findFlight cidx with
    | some i => s.complete f i.cmd r.cpl
    | none => s

def State.chan (s : State) (c : Nat) : Chan := tget {} s.pump.chans c
def State.setChan (s : State) (c : Nat) (x : Chan) : State :=
  { s with pump := { s.pump with chans := tset {} s.pump.chans c x } }
def State.modChan (s : State) (c : Nat) (f : Chan → Chan) : State := s.setChan c (f (s.chan c))

/-! ## Errors of a function (R315) -/

/-- A function enters ERROR from ACTIVE: nothing more is fetched, issued or completed, the code is shown, a fault entry is
written to its partition (function 0: a FAULT record of the always-on set), and vector 0 is raised. -/
def State.fnError (s : State) (f code info : Nat) : State :=
  if s.fld (R.pfmFstate f) 1 0 ≠ 1 then s
  else
    let s := (s.setFld (R.pfmFstate f) 1 0 2).setFld (R.pfmFstate f) 15 8 code
    let s := s.modFn f (fun x => { x with cmds := [], cmdReads := x.cmdReads.map (fun r => (r.1, 0)) })
    let s := if f = 0 then s.ao { type := 0x01, unit := 1, code := code, info := info }
      else s.fault (s.fPart f) { code := code, unit := 1, n1 := if code = Fc.busFault then 0xFFFFF else 0, info := info }
    s.irqEvent f 0

end Sys2Proof.Machine
end

