-- ==== Sys2Proof/Machine/Taps.lean ====
section
/-! DEFINITION. Good taps (R404), who owns what (R81, R98, R219, R289), allocation ranges (R92, R98), and whether the
block is up (R402, R413, R444). -/

namespace Sys2Proof.Machine

/-! ## Good taps (R404) -/

/-- Physical tap p is good. -/
def State.tapGood (s : State) (p : Nat) : Bool := s.flag (R.pfmCfgMap (p / 32)) (p % 32)

/-- The number of good taps of the loaded record. -/
def State.nGood (s : State) : Nat := s.fld R.pfmGrade 28 16

/-- Set bits of a number below 2^n. -/
def popcount (n v : Nat) : Nat := (List.range n).countP (fun i => v.testBit i)

/-- Good taps below physical tap p. -/
def State.goodBelow (s : State) (p : Nat) : Nat :=
  (List.range (p / 32)).foldl (fun a w => a + popcount 32 (s.reg (R.pfmCfgMap w))) 0
    + popcount (p % 32) (s.reg (R.pfmCfgMap (p / 32)) % 2 ^ (p % 32))

/-- The logical number of a physical tap, if it is good. -/
def State.logical (s : State) (p : Nat) : Option Nat := if s.tapGood p then some (s.goodBelow p) else none

/-- The physical number of a logical tap. -/
def State.physical (s : State) (t : Nat) : Option Nat :=
  (List.range s.nTap).find? (fun p => s.tapGood p && s.goodBelow p == t)

/-! ## Owners -/

/-- A valid range of p gives it logical tap t (R289). -/
def State.hasTap (s : State) (p t : Nat) : Bool :=
  (List.range 8).any (fun k =>
    let r := s.reg (R.pfmPtapr p k)
    r.testBit 31 && decide (bits r 27 16 ≤ t ∧ t < bits r 27 16 + bits r 12 0))

/-- The partition of logical tap t (R289). -/
def State.tapOwner (s : State) (t : Nat) : Option Nat := (List.range s.nPart).find? (fun p => s.hasTap p t)

/-- The partition of a physical tap. -/
def State.tapPart (s : State) (p : Nat) : Option Nat := (s.logical p).bind s.tapOwner

/-- The partition that holds Pump channel c (R289). -/
def State.chanPart (s : State) (c : Nat) : Option Nat :=
  (List.range s.nPart).find? (fun p => (s.pair (R.pfmPpump p)).testBit c)

/-- The partition of a master as the CNP sees it (R81, R219): a tap by its physical number. Function 0 has none. -/
def State.masterPart (s : State) (m : Nat) : Option Nat :=
  if m < 0x1000 then s.tapPart m
  else if m < 0x1100 then
    let f := m - 0x1000
    if f = 0 ∨ s.nFunc ≤ f ∨ !s.fEn f then none else some (s.fPart f)
  else if m < 0x1100 + s.nChan then s.chanPart (m - 0x1100)
  else none

/-- The master ID within an identity: taps by logical number (R219). -/
def State.masterId (s : State) (m : Nat) : Nat := if m < 0x1000 then (s.logical m).getD 0x1FFF else m

/-- The die's own chip ID. -/
def State.chip (s : State) : Nat := s.fld R.culChipid 11 0

/-! ## Allocation ranges (R92, R98) -/

def State.resBase (s : State) (p : Nat) : Nat := 4096 * s.fld (R.pfmPcstRes p) 8 0
def State.resEnd (s : State) (p : Nat) : Nat := s.resBase p + 4096 * s.fld (R.pfmPcstRes p) 25 16
def State.nFrames (s : State) (p : Nat) : Nat :=
  let l := s.fld (R.pfmPcstFrame p) 4 0
  if l = 0 then 0 else 2 ^ l
def State.spillFirst (s : State) (p : Nat) : Nat := s.fld (R.pfmPspillFirst p) 23 0
def State.spillNum (s : State) (p : Nat) : Nat := s.fld (R.pfmPspillNum p) 23 0
def State.basinBase (s : State) (p : Nat) : Nat := 64 * s.fld (R.pfmPbasin p) 9 0
def State.basinEnd (s : State) (p : Nat) : Nat := s.basinBase p + 64 * s.fld (R.pfmPbasin p) 26 16
def State.dirBase (s : State) (p : Nat) : Nat := 64 * s.fld (R.pfmPrldir p) 9 0
def State.dirEnd (s : State) (p : Nat) : Nat := s.dirBase p + 64 * s.fld (R.pfmPrldir p) 26 16
def State.bodyBase (s : State) (p : Nat) : Nat := 32768 + 64 * s.fld (R.pfmPrlbody p) 11 0
def State.bodyEnd (s : State) (p : Nat) : Nat := s.bodyBase p + 64 * s.fld (R.pfmPrlbody p) 27 16

/-- `lo ≤ x < hi`. -/
def within (lo x hi : Nat) : Bool := decide (lo ≤ x ∧ x < hi)

/-- CNUM c is a resident cistern of p. -/
def State.inRes (s : State) (p c : Nat) : Bool := within (s.resBase p) c (s.resEnd p)
/-- CNUM c is a defined spilled cistern of p. -/
def State.inSpill (s : State) (p c : Nat) : Bool :=
  decide (0x200000 ≤ c) && within (s.spillFirst p) c (s.spillFirst p + s.spillNum p)
/-- CNUM c lies in p. -/
def State.holdsCnum (s : State) (p c : Nat) : Bool := s.inRes p c || s.inSpill p c
/-- Basin b lies in p; basin 0xFFFF is never allocated (R88). -/
def State.holdsBasin (s : State) (p b : Nat) : Bool := within (s.basinBase p) b (s.basinEnd p) && b != 0xFFFF
def State.holdsDir (s : State) (p i : Nat) : Bool := within (s.dirBase p) i (s.dirEnd p)

/-- The owner of a unit of a resource. -/
def State.ownerRes (s : State) (slot : Nat) : Option Nat := (List.range s.nPart).find? (fun p => s.inRes p slot)
def State.ownerBasin (s : State) (b : Nat) : Option Nat := (List.range s.nPart).find? (fun p => s.holdsBasin p b)
def State.ownerCnum (s : State) (c : Nat) : Option Nat := (List.range s.nPart).find? (fun p => s.holdsCnum p c)
def State.ownerRl (s : State) (w : Nat) : Option Nat :=
  (List.range s.nPart).find? (fun p =>
    if w < 32768 then within (s.dirBase p) (2 * w) (s.dirEnd p) else within (s.bodyBase p) w (s.bodyEnd p))

/-- Image address of a spilled cistern (R92). -/
def State.imageAddr (s : State) (p c : Nat) : Nat :=
  s.pair (R.pfmPspillAddr p) + 16 * (c - s.spillFirst p)

/-- The frame slot of a spilled cistern, if p has frames (R92). -/
def State.frameSlot (s : State) (p c : Nat) : Option Nat :=
  let f := s.nFrames p
  if f = 0 then none else some (s.resEnd p - f + (c - s.spillFirst p) % f)

/-- The slot is a spill frame of its owner. -/
def State.isFrame (s : State) (slot : Nat) : Bool :=
  match s.ownerRes slot with
  | some p => decide (s.resEnd p ≤ slot + s.nFrames p)
  | none => false

/-- The slot that holds CNUM c of p, if it is there (R56, R93). A resident CNUM whose slot is a frame names the frame's own entry:
what an operation on one does is not given (DESIGN CHOICE: assumption 77). -/
def State.slotOf (s : State) (p c : Nat) : Option Nat :=
  if c < 0x200000 then some c
  else match s.frameSlot p c with
    | some f => if tget 0 s.cst.tags f = c + 1 ∧ !s.cst.fills.any (fun x => x.frame == f && x.evicting) then some f else none
    | none => none

/-- A unit of p is under initialisation: resource 0 resident, 1 basin, 2 directory (R100). -/
def State.initBusy (s : State) (res unit : Nat) : Bool := s.cst.initd.any (fun e => e.2 == (res, unit))

/-! ## Is the block up -/

/-- The block is out of reset with a good record (R402, R403, R413, R444). -/
def State.up (s : State) : Bool :=
  !s.rst.por && !s.rst.blk && !s.rst.blkPin && s.fld R.pfmState 1 0 == 1

/-- TP_READY of a physical tap (R151). -/
def State.tapReady (s : State) (t : Nat) : Bool :=
  s.up && s.tapGood t && !(tget {} s.pipe.taps t).reset && decide (s.rst.kst ≠ 3)

/-- A global STOP is in force (R365). -/
def State.stopped (s : State) : Bool := s.stop.inForce

end Sys2Proof.Machine
end

