-- ==== Sys2Proof/Machine/Link.lean ====
section
/-! DEFINITION. The sending side of the Culvert ports (R250 to R257), routing (R261, R262, R284), and what every part
of the block uses to send a frame, a hop beat or a count. A port commits its flits in the step that queues them, as far as
credits and the replay buffer allow (assumption 41); their words go out as the PHY takes them (R248). -/

namespace Sys2Proof.Machine

/-! ## Ports -/

def State.port (s : State) (k : Nat) : Port := tget {} s.cul.ports k
def State.setPort (s : State) (k : Nat) (x : Port) : State :=
  { s with cul := { s.cul with ports := tset {} s.cul.ports k x } }
def State.modPort (s : State) (k : Nat) (f : Port → Port) : State := s.setPort k (f (s.port k))

/-- CUL_PSTATUS.STATE (R249): 0 OFF, 1 PHY, 2 ALIGN, 3 IDENT, 4 UP, 5 HOLD, 6 DOWN. -/
def State.linkState (s : State) (k : Nat) : Nat := s.fld (R.culPstatus k) 31 29
def State.linkUp (s : State) (k : Nat) : Bool := decide (k < s.nPort) && s.linkState k == 4
/-- The port is in UP or HOLD. -/
def State.linkOpen (s : State) (k : Nat) : Bool := decide (k < s.nPort) && (s.linkState k == 4 || s.linkState k == 5)
/-- The chip ID expected at the other end. -/
def State.nbr (s : State) (k : Nat) : Nat := s.fld (R.culPcfg k) 11 0

/-- A beat dropped at port k. -/
def State.drop (s : State) (k : Nat) : State := s.bump (R.culPdropCnt k) 1

/-! ## Flits (R250, R251) -/

/-- The parts of a flit. -/
structure Flit where
  fkind : Nat
  fseq : Nat := 0
  ack : Nat := 0
  epoch : Nat := 0
  cv : Nat := 0
  cgrp : Nat := 0
  beat : Beat := { btype := 0 }
  cret : Option Nat := none
  counts : Nat := 0
  deriving DecidableEq, Repr

/-- The 640 data bits (R250, R251). -/
def Flit.pack (f : Flit) : BitVec 640 :=
  let b := f.beat
  BitVec.ofNat 640 ((f.fkind % 16 * 2 ^ 124 + f.fseq % 512 * 2 ^ 115 + f.ack % 512 * 2 ^ 106 + f.epoch % 65536 * 2 ^ 90
    + f.cv % 65536 * 2 ^ 74 + f.cgrp % 4 * 2 ^ 72 + b.btype % 16 * 2 ^ 68 + b.src % 4096 * 2 ^ 56 + b.dst % 4096 * 2 ^ 44
    + b.beat % 4 * 2 ^ 42 + bit b.last * 2 ^ 41 + b.vc % 4 * 2 ^ 39
    + (match f.cret with | some v => 2 ^ 38 + v % 4 * 2 ^ 36 | none => 0) + b.finfo % 2 ^ 36) * 2 ^ 512
    + f.counts % 2 ^ 256 * 2 ^ 256 + b.pay % 2 ^ 256)

/-- A field of a received flit's header. -/
def hdr (w : BitVec 640) (hi lo : Nat) : Nat := bits w.toNat (512 + hi) (512 + lo)

/-- The beat of a received flit. -/
def flitBeat (w : BitVec 640) : Beat :=
  { btype := hdr w 71 68, src := hdr w 67 56, dst := hdr w 55 44, beat := hdr w 43 42, last := hdr w 41 41 == 1,
    vc := hdr w 40 39, finfo := hdr w 35 0, pay := w.toNat % 2 ^ 256, epoch := hdr w 105 90 }

/-- A routed beat type (R252). -/
def routed (t : Nat) : Bool := t == 2 || t == 3 || t == 4 || t == 5 || t == 9

/-- The rank of a beat type (R252). -/
def beatRank (t : Nat) : Nat :=
  if t = 1 then 1 else if t = 6 then 2 else if t = 7 then 3 else if t = 8 then 4 else if t = 3 then 5 else 6

/-- The partition that a routed beat names (R252). -/
def beatPart (b : Beat) : Option Nat :=
  if b.btype = 2 ∨ b.btype = 4 ∨ b.btype = 5 then some (b.finfo % 32) else none

/-! ## Records of MATCH mode (R375) -/

def State.matchMode (s : State) : Bool := s.flag R.obsTbmode 0

/-- A TMATCH record for a TICK_MARK sent (`rx` false) or received. -/
def State.tmatch (s : State) (k : Nat) (rx : Bool) (serial : W32) : State :=
  if s.matchMode then
    s.ao { type := 0x0F, unit := 9, aux := k + bit rx * 8, info := s.nbr k * 2 ^ 32 + serial.toNat }
  else s

/-- A trace record 0x10 or 0x11 for beat 0 of a routed frame of a partition. -/
def State.tracePair (s : State) (k : Nat) (rx : Bool) (serial : W32) (b : Beat) : State :=
  match beatPart b with
  | some p =>
    if s.matchMode && b.beat == 0 then
      match s.traceSump { evt := if rx then 0x11 else 0x10, part := p, arg := b.btype } with
      | some i => s.sumpRecord i (s.now % 2 ^ 48 * 2 ^ 80 + serial.toNat * 2 ^ 48 + s.nbr k * 2 ^ 36 + k * 2 ^ 33
          + p * 2 ^ 14 + (if rx then 0x11 else 0x10) * 2 ^ 9 + b.btype * 2 ^ 5)
      | none => s
    else s
  | none => s

/-! ## Sending -/

/-- In STOP a port sends, of what waits, only TOKEN, TIME and MEMBER beats and CTRL_RSP frames (R366, assumption 42);
in HOLD only TIME and MEMBER beats (R249). -/
def State.maySend (s : State) (k t : Nat) : Bool :=
  if s.linkState k = 5 then t == 7 || t == 8
  else if s.linkUp k then !s.stopped || t == 1 || t == 7 || t == 8 || t == 3
  else false

/-- Credits and replay space suffice for a frame (R254, R255). -/
def State.frameFits (s : State) (k : Nat) (f : List Beat) : Bool :=
  let x := s.port k
  decide (x.replay.length + f.length ≤ 128) &&
    match f with
    | [] => true
    | b :: _ => s.maySend k b.btype && (!routed b.btype || decide (tget 0 x.used b.vc + f.length ≤ 32))

/-- The order in which beat types take turns: by rank, and at rank 6 round robin after `turn` (R252). -/
def sendOrder (turn : Nat) : List Nat :=
  [1, 6, 7, 8, 3] ++
    (if turn = 2 then [4, 5, 9, 2] else if turn = 4 then [5, 9, 2, 4] else if turn = 5 then [9, 2, 4, 5]
     else [2, 4, 5, 9])

/-- The type of a frame. -/
def frameType (f : List Beat) : Nat := match f with | b :: _ => b.btype | [] => 0

/-- The virtual channel of a frame. -/
def frameVc (f : List Beat) : Nat := match f with | b :: _ => b.vc | [] => 0

/-- The die that a frame is for. -/
def frameDst (f : List Beat) : Nat := match f with | b :: _ => b.dst | [] => 0

/-- Frame `f` need not wait for one before it: it is the oldest of its type and virtual channel, and a reset notice follows
the requests to its die that were formed before it (R239). -/
def frameFirst (q : List (List Beat)) (f : List Beat) : Bool :=
  q.find? (fun g => frameType g == frameType f && frameVc g == frameVc f) == some f
    && (frameType f != 9 || !(q.takeWhile (· != f)).any (fun g => frameType g == 2 && frameDst g == frameDst f))

/-- Frame `f` may go now. -/
def State.frameGoes (s : State) (k : Nat) (f : List Beat) : Bool := s.frameFits k f && frameFirst (s.port k).queue f

/-- The frame that goes next: by rank, then by age; a frame without credit holds back only those behind it on its virtual
channel (R252, R255). -/
def State.nextFrame (s : State) (k : Nat) : Option (List Beat) :=
  (sendOrder (s.port k).turn).findSome? (fun t =>
    (s.port k).queue.find? (fun f => frameType f == t && s.frameGoes k f))

/-- The counts that ride on the next flit: the group of the oldest, one count for each channel. -/
def rideCounts (l : List (Nat × Nat)) : Nat × List (Nat × Nat) :=
  match l with
  | [] => (0, [])
  | (c, _) :: _ =>
    (c / 16, (List.range 16).filterMap (fun i => l.find? (fun e => e.1 == c / 16 * 16 + i)))

/-- Bill two bytes for each count of a fabric channel (R381). -/
def State.billCount (s : State) (c : Nat) : State := s.usage (s.fld (R.culFchCfg c) 28 24) .cbytes 2

/-- Hand a flit to the sending side of the port: its words go out in order (R248). -/
def State.sendFlit (s : State) (k : Nat) (w : BitVec 640) : State :=
  (s.emit (.flit k w)).modPort k (fun x => { x with tx := x.tx ++ [w] })

/-- Commit one NORMAL flit with a beat and the counts that may ride on it. -/
def State.commitFlit (s : State) (k : Nat) (b : Beat) : State :=
  let x := s.port k
  let r := if s.linkUp k && !s.stopped then rideCounts x.counts else (0, [])
  let w := ({ fkind := 1, fseq := x.txSeq, ack := (x.rxSeq + 511) % 512, epoch := s.epoch,
              cv := r.2.foldl (fun a e => a + 2 ^ (e.1 % 16)) 0, cgrp := r.1, beat := b,
              counts := r.2.foldl (fun a e => a + e.2 % 65536 * 2 ^ (16 * (e.1 % 16))) 0 } : Flit).pack
  let serial := x.sser
  let s := s.setPort k { x with
    txSeq := (x.txSeq + 1) % 512, replay := x.replay ++ [(x.txSeq, w)], sser := x.sser + 1,
    counts := r.2.foldl (fun l e => l.erase e) x.counts,
    used := if routed b.btype then tmod 0 x.used b.vc (· + 1) else x.used }
  let s := (s.sendFlit k w).count { evt := 0x30 }
  let s := if b.btype = 1 ∧ b.pay % 16 = 0xA then s.tmatch k false serial else s
  let s := s.tracePair k false serial b
  r.2.foldl (fun s e => s.billCount e.1) s

/-- A frame leaves the queue: its beats travel in consecutive slots. -/
def State.sendFrame (s : State) (k : Nat) (f : List Beat) : State :=
  let s := s.modPort k (fun x => { x with
    queue := x.queue.erase f, turn := if beatRank (frameType f) = 6 then frameType f else x.turn })
  f.foldl (fun s b => s.commitFlit k b) s

/-- Send frames while one is allowed to go. -/
def State.sendFrames (s : State) (k : Nat) : Nat → State
  | 0 => s
  | n + 1 =>
    match s.nextFrame k with
    | none => s
    | some f => (s.sendFrame k f).sendFrames k n

/-- Send the frames that wait, in the order formed (R368). -/
def State.sendFormed (s : State) (k : Nat) : State :=
  (s.port k).queue.foldl (fun s f => if s.frameGoes k f then s.sendFrame k f else s) s

/-- Send the counts that no beat carried. -/
def State.sendCounts (s : State) (k : Nat) : Nat → State
  | 0 => s
  | n + 1 =>
    let x := s.port k
    if s.linkUp k && !s.stopped && !x.counts.isEmpty && decide (x.replay.length < 128) then
      (s.commitFlit k { btype := 0 }).sendCounts k n
    else s

/-- Send what may go on port k. -/
def State.drainPort (s : State) (k : Nat) : State :=
  let s := s.sendFrames k (s.port k).queue.length
  s.sendCounts k (s.port k).counts.length

/-- The bits of an IDLE flit with the ACK, and with a credit returned. -/
def State.idleBits (s : State) (k : Nat) (cret : Option Nat) : BitVec 640 :=
  ({ fkind := 0, ack := ((s.port k).rxSeq + 511) % 512, epoch := s.epoch, cret := cret } : Flit).pack

/-- Send an IDLE flit. -/
def State.sendIdle (s : State) (k : Nat) (cret : Option Nat) : State :=
  if s.linkOpen k then s.sendFlit k (s.idleBits k cret) else s

/-- The bits of a TRAIN flit. The manual gives no layout for its IDENT part: what the header of R251 does not hold is a free
value (assumption 4). -/
def State.trainBits (s : State) (k : Nat) : BitVec 640 :=
  ({ fkind := 3, epoch := s.epoch, beat := { btype := 0, src := s.chip, finfo := k, pay := s.free } } : Flit).pack

/-! ## Words to the PHY (R248, R250, R253) -/

/-- The flit that goes out next: the oldest that waits; else the port fills with IDLE flits, in training with TRAIN flits. -/
def State.phyFlit (s : State) (k : Nat) : State × BitVec 640 :=
  match (s.port k).tx with
  | w :: t => (s.modPort k (fun x => { x with tx := t }), w)
  | [] => if s.linkOpen k then (s, s.idleBits k none) else (s.nextFree, s.trainBits k)

/-- The next `n` flits. -/
def State.phyFlits (s : State) (k : Nat) : Nat → State × List (BitVec 640)
  | 0 => (s, [])
  | n + 1 =>
    let a := s.phyFlit k
    let b := a.1.phyFlits k n
    (b.1, a.2 :: b.2)

/-- Form the next flit in the native code, or the next codeword in RS544 mode. -/
def State.phyLoad (s : State) (k : Nat) : State :=
  if s.flag (R.culPcfg k) 30 then
    let a := s.phyFlits k 8
    a.1.modPort k (fun x => { x with words := codeWords x.cwNum a.2, cwNum := x.cwNum + 1 })
  else
    let a := s.phyFlit k
    a.1.modPort k (fun x => { x with words := flitWords a.2 })

/-- One kclk cycle of a port that trains or is open: where the PHY signals ready, it takes one word of each lane (R248, R432). -/
def State.phyStep (s : State) (k : Nat) : State :=
  if !decide (2 ≤ s.linkState k ∧ s.linkState k ≤ 5) then s
  else if !Config.txReady k s.clk.kclk then s
  else
    let s := if (s.port k).words.isEmpty then s.phyLoad k else s
    match (s.port k).words with
    | w :: t => (s.modPort k (fun x => { x with words := t })).emit (.phy k w)
    | [] => s

/-- Queue a frame at an open port; at any other port it is dropped and counted (R257). -/
def State.queueFrame (s : State) (k : Nat) (f : List Beat) : State :=
  if s.linkUp k || (s.linkOpen k && (frameType f == 7 || frameType f == 8)) then
    (s.modPort k (fun x => { x with queue := x.queue ++ [f] })).drainPort k
  else s.drop k

/-- Send one hop beat on a port (R252). -/
def State.sendHop (s : State) (k btype finfo pay : Nat) : State :=
  s.queueFrame k [{ btype := btype, src := s.chip, finfo := finfo, pay := pay }]

/-- Add a count to those that wait: up counts of one tick combine (R263, R264). -/
def addCount : List (Nat × Nat) → Nat → Nat → List (Nat × Nat)
  | [], c, w => [(c, w)]
  | (d, v) :: t, c, w =>
    if d = c ∧ v < 2 ^ 15 ∧ w < 2 ^ 15 ∧ bits v 13 13 = bits w 13 13 then
      (d, (v ||| w) / 2 ^ 13 * 2 ^ 13 + (v % 2 ^ 13 + w % 2 ^ 13) % 2 ^ 13) :: t
    else (d, v) :: addCount t c w

/-- Send a count of a fabric channel on a port. -/
def State.sendCount (s : State) (k c w : Nat) : State :=
  if s.linkUp k then (s.modPort k (fun x => { x with counts := addCount x.counts c w })).drainPort k
  else s.drop k

/-- Ports of a 6-bit mask. -/
def maskPorts (m : Nat) : List Nat := (List.range 6).filter (fun k => m.testBit k)

/-- Send a count on every port of a mask. -/
def State.sendCountAll (s : State) (m c w : Nat) : State := (maskPorts m).foldl (fun s k => s.sendCount k c w) s

/-- Ports in UP. -/
def State.upPorts (s : State) : List Nat := (List.range s.nPort).filter s.linkUp

/-- Flood a hop beat on every port in UP but one (R361, R363). -/
def State.flood (s : State) (skip : Option Nat) (btype finfo pay : Nat) : State :=
  (s.upPorts.filter (fun k => some k != skip)).foldl (fun s k => s.sendHop k btype finfo pay) s

/-! ## Routing (R261, R262, R284) -/

/-- The dimensions of the fabric with their sizes and the coordinate's place in a chip ID: (size, shift, bits). -/
def State.dims (s : State) : List (Nat × Nat × Nat) :=
  if s.isC then [(s.fld R.culFabcfg 7 0 + 1, 0, 8)]
  else [(s.fld R.culFabcfg 11 8 + 1, 0, 4), (s.fld R.culFabcfg 7 4 + 1, 4, 4), (s.fld R.culFabcfg 3 0 + 1, 8, 4)]

/-- A coordinate of a chip ID. -/
def coord (chip : Nat) (d : Nat × Nat × Nat) : Nat := chip / 2 ^ d.2.1 % 2 ^ d.2.2

/-- The chip lies in the torus. -/
def State.inTorus (s : State) (chip : Nat) : Bool :=
  s.dims.all (fun d => decide (coord chip d < d.1)) && (!s.isC || decide (chip < 256))

/-- The port toward another die from chip `me`, and whether the link wraps around. -/
def State.routeFrom (s : State) (me dst : Nat) : Option (Nat × Bool) :=
  (s.dims.zipIdx).findSome? (fun e =>
    let d := e.1
    let a := coord me d
    let b := coord dst d
    if a = b then none
    else
      let fwd := (b + d.1 - a) % d.1
      if fwd ≤ d.1 - fwd then some (2 * e.2, a + 1 == d.1) else some (2 * e.2 + 1, a == 0))

/-- Send a routed frame on its way (R255, R257, R262); `from?` is the port it came in on. -/
def State.routeFrame (s : State) (came : Option Nat) (f : List Beat) : State :=
  match f with
  | [] => s
  | b :: _ =>
    if !s.inTorus b.dst then s.drop (came.getD 0)
    else match s.routeFrom s.chip b.dst with
      | none => s
      | some (k, wrap) =>
        let low := if b.btype = 3 then 2 else 0
        let same := match came with | some c => c / 2 == k / 2 | none => false
        let vc := if wrap then low + 1 else if same then b.vc else low
        s.queueFrame k (f.map (fun b => { b with vc := vc }))

/-- Form a routed frame on this die and send it: each beat is billed to the partition it names (R381). -/
def State.formFrame (s : State) (f : List Beat) : State :=
  let s := match f with
    | b :: _ => (match beatPart b with | some p => s.usage p .cbytes (32 * f.length) | none => s)
    | [] => s
  s.routeFrame none (f.map (fun b => { b with src := s.chip }))

/-- The tray of a chip (R261, R284). -/
def State.trayOf (s : State) (chip : Nat) : Nat :=
  if s.isC then chip / 16 else chip % 16 / 4 + 4 * (chip / 16 % 16 / 4) + 16 * (chip / 256)

/-- Tray t is missing (R270). -/
def State.trayMissing (s : State) (t : Nat) : Bool := s.flag (R.culMiss (t / 32)) (t % 32)

/-- Partition p's span includes tray t. -/
def State.spans (s : State) (p t : Nat) : Bool := s.flag (R.culPspan p (t / 32)) (t % 32)

/-! ## Requests to other dies (R237, R252, R269) -/

/-- The CTRL_REQ frame of an operation for its home die (R252). -/
def ctrlReqFrame (chip : Nat) (o : BankOp) (tag : Nat) (resp : Bool) : List Beat :=
  let h := (o.header tag).toNat - (if resp then 0 else 2 ^ 120)
  let b0 : Beat := { btype := 2, dst := chip, beat := 0, last := o.opc != Op.reduceInto,
                     finfo := o.part.getD 0, pay := h + (o.a.toNat + o.b.toNat * 2 ^ 64) * 2 ^ 128 }
  if o.opc = Op.reduceInto then
    [b0, { b0 with beat := 1, last := false, pay := o.pay.toNat % 2 ^ 256 },
     { b0 with beat := 2, last := true, pay := o.pay.toNat / 2 ^ 256 }]
  else [b0]

/-- The CTRL_RSP frame that carries a response to master m of a chip (R252). -/
def ctrlRspFrame (chip m : Nat) (flit : W128) : List Beat :=
  [{ btype := 3, dst := chip, vc := 2, finfo := m * 2 ^ 23, pay := flit.toNat }]

/-- The CTRL_RSP frame of a refused FWD or FARRIVE (R268): TAG 0, no master, and the partition, where a request has it
(assumption 45). -/
def refusalFrame (chip p : Nat) (r : BankRsp) : List Beat :=
  [{ btype := 3, dst := chip, vc := 2, finfo := 0x1FFF * 2 ^ 23 + p % 32, pay := (r.flit 0).toNat }]

end Sys2Proof.Machine
end

