-- ==== Sys2Proof/Machine/Leaf.lean ====
section
/-! DEFINITION. The leaf routers and tap ports: FIFO, hold, delay store, reports, grant slots and trace (R122, R146,
R150, R152, R201, R202, R357); release lists (R89, R90); contexts as a table; and the grant entries (R198 to R200). -/

namespace Sys2Proof.Machine

/-! ## Access -/

def State.tap (s : State) (t : Nat) : TapSt := tget {} s.pipe.taps t
def State.setTap (s : State) (t : Nat) (x : TapSt) : State :=
  { s with pipe := { s.pipe with taps := tset {} s.pipe.taps t x } }
def State.modTap (s : State) (t : Nat) (f : TapSt → TapSt) : State := s.setTap t (f (s.tap t))
def State.leaf (s : State) (l : Nat) : Leaf := tget {} s.pipe.leafs l
def State.setLeaf (s : State) (l : Nat) (x : Leaf) : State :=
  { s with pipe := { s.pipe with leafs := tset {} s.pipe.leafs l x } }
def State.modLeaf (s : State) (l : Nat) (f : Leaf → Leaf) : State := s.setLeaf l (f (s.leaf l))
def State.grant (s : State) (e : Nat) : Grant := tget {} s.pipe.grants e
def State.setGrant (s : State) (e : Nat) (x : Grant) : State :=
  { s with pipe := { s.pipe with grants := tset {} s.pipe.grants e x } }
def State.findCtx (s : State) (rid : Nat) : Option Ctx := s.pipe.ctxs.find? (fun c => c.rid == rid)
def State.modCtx (s : State) (rid : Nat) (f : Ctx → Ctx) : State :=
  { s with pipe := { s.pipe with ctxs := s.pipe.ctxs.map (fun c => if c.rid = rid then f c else c) } }

/-- Router levels of the tree: the root is level 6, in Kyordol-C level 5 (R131, R158). -/
def State.depth (s : State) : Nat := if s.isC then 5 else 6
/-- The tap clock region of a leaf (R132, R158). -/
def State.regionOf (s : State) (l : Nat) : Nat := if s.isC then l / 32 else l / 128

/-- Logical tap t's fence bit is set (R153). -/
def State.fenceBit (s : State) (t : Nat) : Bool := s.flag (R.spFence (t / 32)) (t % 32)

/-- A physical tap is handled as fenced: its fence bit, or a tap reset in progress (R153, R416). -/
def State.fenced (s : State) (t : Nat) : Bool :=
  (s.tap t).reset || match s.logical t with | some l => s.fenceBit l | none => false

/-! ## Trace of a leaf (R355, R357) -/

/-- A trace event at a leaf: the record waits at the leaf for a spare report cycle. A region that is STOPPED makes no
records (R359). -/
def State.traceLeaf (s : State) (t : Nat) (tr : Trace) : State :=
  let l := t / 4
  let tr := { tr with tap := true, src := (s.logical t).getD 0, stretch := s.fld (R.obsTclk (s.regionOf l)) 31 30 == 1 }
  if s.fld (R.obsTclk (s.regionOf l)) 31 30 = 2 then s
  else match s.traceSump tr with
  | none => s
  | some i =>
    if (s.leaf l).trace.length < 4 then
      let w := s.traceWord tr + (if (s.leaf l).traceLost then 4 else 0)
      s.modLeaf l (fun x => { x with trace := x.trace ++ [(i, w)], traceLost := false })
    else s.modLeaf l (fun x => { x with traceLost := true })

/-! ## Reports (R146) -/

/-- Queue a report entry, joined to an entry of the same release and flag; `none` where the queue of 32 is full. -/
def Leaf.report (x : Leaf) (rid mask : Nat) (ack : Bool) : Option Leaf :=
  if x.reports.any (fun r => r.rid == rid && r.ack == ack) then
    some { x with reports := x.reports.map (fun r =>
      if r.rid = rid ∧ r.ack = ack then { r with mask := r.mask ||| mask } else r) }
  else if x.reports.length < 32 then some { x with reports := x.reports ++ [⟨rid, mask, ack⟩] }
  else none

/-- The acknowledgement of a token that a fenced tap drops. Where the report queue is full, a FIFO entry holds it (R146); where
the FIFO is full too, the leaf marks the loss (DESIGN CHOICE: assumption 43). -/
def State.ackDrop (s : State) (t : Nat) (k : Tok) : State :=
  match k.rid with
  | none => s
  | some rid =>
    match (s.leaf (t / 4)).report rid (2 ^ (t % 4)) true with
    | some l => s.setLeaf (t / 4) l
    | none =>
      if (s.tap t).fifo.length < 16 then s.modTap t (fun x => { x with fifo := x.fifo ++ [{ k with taken := true }] })
      else s.modLeaf (t / 4) (fun x => { x with lost := x.lost ++ [(rid, 2 ^ (t % 4))] })

/-- The undelivered report of a release at a leaf; it is lost where the queue is full (R146). -/
def State.reportUndelivered (s : State) (l rid mask part : Nat) : State :=
  let s := s.count { evt := 0x1A, part := some part }
  s.modLeaf l (fun x => (x.report rid mask false).getD { x with lost := x.lost ++ [(rid, mask)] })

/-! ## Serving a tap (R122, R152) -/

/-- The delay that an enabled entry of the tap gives a cistern (R152, R157). -/
def State.pbdDelay (s : State) (t cnum : Nat) : Option Nat :=
  match s.logical t with
  | none => none
  | some l =>
    let f := fun off => let r := s.reg off
      if r.testBit 31 && bits r 23 0 == cnum then some (bits r 30 25) else none
    (f (R.spPbd0 l)).or (f (R.spPbd1 l))

/-- What became of a release at one tap. -/
inductive Served where
  | served
  | acked
  | undelivered
  deriving DecidableEq, Repr

/-- A dropped token of a fenced tap (R122, R153). A release counts as acknowledged; during a tap reset no fault entry is
written (R416). -/
def State.fencedDrop (s : State) (t : Nat) (k : Tok) : State :=
  let s := s.bump R.spFdropCnt 1
  match k.rid with
  | some _ =>
    let quiet := (s.tap t).reset
    (if quiet then s else s.event k.part { code := Fc.fencedTarget, cnum := k.cnum, unit := 7 }).ackDrop t k
  | none => s

/-- A trace event of a token at its leaf (R355). -/
def Tok.event (k : Tok) (evt arg : Nat) : Trace :=
  { evt := evt, part := k.part, cnum := k.cnum, arg := arg, layer := k.layer, oper := k.oper }

/-- Place a release in the FIFO or the hold (R122, cases 2 to 4). -/
def State.place (s : State) (t : Nat) (k : Tok) : State × Served :=
  let x := s.tap t
  let ok := fun (s : State) => ((s.count { evt := 0x19, part := some k.part }).traceLeaf t (k.event 0x02 k.status), Served.served)
  if x.hold.isEmpty && decide (x.fifo.length < 16) && !x.fifo.any (fun e => e.cnum == k.cnum && e.opc ≤ 7) then
    ok (s.setTap t { x with fifo := x.fifo ++ [k] })
  else if x.hold.length < 4 then ok (s.setTap t { x with hold := x.hold ++ [k] })
  else (s.traceLeaf t (k.event 0x04 0), .undelivered)

/-- Serve one target tap of an arriving release (R122, R152). `delay` is false for a token that leaves the store. -/
def State.serveTap (s : State) (t : Nat) (k : Tok) (delay : Bool := true) : State × Served :=
  if s.fenced t then (s.fencedDrop t k, .acked)
  else match (if delay then s.pbdDelay t k.cnum else none) with
    | some d =>
      if (s.leaf (t / 4)).store.length < 8 then
        (s.modLeaf (t / 4) (fun x => { x with store := x.store ++ [{ tap := t, left := d, tok := k }] }), .served)
      else ((s.bump R.spPbdOvfCnt 1).traceLeaf t (k.event 0x04 0), .undelivered)
    | none => s.place t k

/-- Taps of a leaf mask. -/
def maskTaps (l m : Nat) : List Nat := ((List.range 4).filter (fun j => m.testBit j)).map (fun j => 4 * l + j)

/-- Serve the target taps of a release at one leaf: what stays undelivered is answered as a mask. -/
def State.serveLeaf (s : State) (l m : Nat) (k : Tok) : State × Nat :=
  (maskTaps l m).foldl (fun (r : State × Nat) t =>
    let a := r.1.serveTap t k
    (a.1, if a.2 = .undelivered then r.2 ||| 2 ^ (t % 4) else r.2)) (s, 0)

/-- A FENCED_NAK at one tap: dropped at a fenced tap, and where the FIFO and the hold are full (R142, R150, R153). -/
def State.serveNak (s : State) (t cnum part layer oper : Nat) : State :=
  let x := s.tap t
  let k : Tok := { opc := 0xE, cnum := cnum, status := 5, seq := 0, part := part, layer := layer, oper := oper }
  let gone := s.fenced t || (decide (16 ≤ x.fifo.length) && decide (4 ≤ x.hold.length))
  let s := s.traceLeaf t (k.event 0x06 (bit gone))
  if gone then s.bump R.spFdropCnt 1
  else if x.fifo.length < 16 ∧ (x.hold.isEmpty ∨ 4 ≤ x.hold.length) then s.setTap t { x with fifo := x.fifo ++ [k] }
  else s.setTap t { x with hold := x.hold ++ [k] }

/-! ## Release lists (R89, R90) -/

/-- The 64 bits of directory entry i. -/
def State.dirEntry (s : State) (i : Nat) : Nat :=
  (tget 0 s.cst.rl (i / 2)).toNat / (if i % 2 = 0 then 1 else 2 ^ 64) % 2 ^ 64

/-- Walk a pre-order stream of child masks: the leaf routers with their tap masks. `stack` holds the routers whose mask
is still to come, as level and number. -/
def walkList : List Nat → List (Nat × Nat) → List (Nat × Nat)
  | [], _ => []
  | _ :: _, [] => []
  | m :: t, (lvl, r) :: st =>
    if lvl ≤ 1 then (r, m) :: walkList t st
    else walkList t (((List.range 4).filter (fun j => m.testBit j)).map (fun j => (lvl - 1, 4 * r + j)) ++ st)

/-- The nibbles of a list body. -/
def State.nibbles (s : State) (start len : Nat) : List Nat :=
  (List.range len).map (fun m => (tget 0 s.cst.rl (start + m / 32)).toNat >>> (4 * (m % 32)) % 16)

/-- The targets of directory entry i: leaf routers with tap masks, in list order. -/
def State.listTargets (s : State) (i : Nat) : List (Nat × Nat) :=
  let e := s.dirEntry i
  walkList (s.nibbles (bits e 63 46) (bits e 45 35)) [(s.depth, 0)]

/-- The words of release-list memory that a list occupies. -/
def State.listWords (s : State) (i : Nat) : List Nat :=
  let e := s.dirEntry i
  (i / 2) :: (List.range ((bits e 45 35 + 31) / 32)).map (fun w => bits e 63 46 + w)

/-- The pre-order stream of a set of leaf targets below router r of a level (R90). -/
def listStream (targets : List (Nat × Nat)) : Nat → Nat → List Nat
  | 0, _ => []
  | lvl + 1, r =>
    if lvl = 0 then match targets.find? (fun e => e.1 == r) with | some e => [e.2] | none => [0]
    else
      let has := fun j => targets.any (fun e => decide (0 < e.2) && e.1 / 4 ^ (lvl - 1) == 4 * r + j)
      let js := (List.range 4).filter has
      js.foldl (fun a j => a + 2 ^ j) 0 :: js.flatMap (fun j => listStream targets lvl (4 * r + j))

/-- Targets of a set of physical taps. -/
def tapsTargets (taps : List Nat) : List (Nat × Nat) :=
  ((taps.map (· / 4)).eraseDups).map (fun l => (l, (taps.filter (fun t => t / 4 == l)).foldl (fun a t => a ||| 2 ^ (t % 4)) 0))

/-- The number of target taps. -/
def targetCount (ts : List (Nat × Nat)) : Nat := ts.foldl (fun a e => a + popcount 4 e.2) 0

/-! ## Abandoning a release (R63, R125) -/

/-- The context goes, with its undelivered entries and its held copies; copies in FIFOs stay. -/
def State.abandonCtx (s : State) (rid : Nat) : State :=
  { s with pipe := { s.pipe with
      ctxs := s.pipe.ctxs.filter (fun c => c.rid != rid),
      und := s.pipe.und.filter (fun u => u.rid != rid),
      taps := tmap {} s.pipe.taps (fun _ x => { x with hold := x.hold.filter (fun k => k.rid != some rid) }) } }

/-- FENCE abandons every pending delivery of a cistern of a partition: its notices and its contexts (R63). -/
def State.abandonCnum (s : State) (p cnum : Nat) : State :=
  let s := { s with pipe := { s.pipe with notices := s.pipe.notices.filter (fun n => !(n.cnum == cnum && n.part == p)) } }
  (s.pipe.ctxs.filter (fun c => c.note.cnum == cnum && c.note.part == p)).foldl (fun s c => s.abandonCtx c.rid) s

/-! ## Grant entries (R198 to R200) -/

/-- The grant entry that CREDIT cistern c of p owns, if it lies in the window. -/
def State.grantIdx (s : State) (p c : Nat) : Option Nat :=
  let first := s.reg (R.hgPcredFirst p) % 2 ^ 24
  let u := s.reg (R.hgPcredUnits p)
  if first ≤ c ∧ c < first + 64 * bits u 23 16 then some (64 * bits u 6 0 + (c - first)) else none

/-- Purge a grant slot: N is 0 and the slot is free; grants in the delay store stay there (R200, R201). -/
def State.purgeSlot (s : State) (t g : Nat) : State :=
  s.modTap t (fun x => { x with slots := tmod {} x.slots g (fun y => { y with used := false, n := 0 }) })

/-- The entry no longer grants: OWED 0 and the slot free (R200, R208). -/
def State.grantStop (s : State) (e : Nat) : State :=
  let g := s.grant e
  let s := if g.state = 1 then s.purgeSlot g.tap g.gslot else s
  s.setGrant e { g with owed := 0 }

/-- A CREDIT cistern leaves ARMED (R200). -/
def State.grantLeave (s : State) (p c : Nat) : State :=
  match s.grantIdx p c with
  | none => s
  | some e => if (s.grant e).state = 2 then s.grantStop e else (s.grantStop e).setGrant e {}

/-- Entries of p in the BOUND state (R216). -/
def State.grantBound (s : State) (p : Nat) : Nat :=
  let u := s.reg (R.hgPcredUnits p)
  s.pipe.grants.countP (fun e => e.2.state == 2 && within (64 * bits u 6 0) e.1 (64 * bits u 6 0 + 64 * bits u 23 16))

end Sys2Proof.Machine
end

