-- ==== Sys2Proof/Machine/Words.lean ====
section
/-! DEFINITION. The words of the banks: reading them through the symbol code (R97, R420), and writing them with the
copy that a snapshot takes of an uncopied block first (R276, R277). -/

namespace Sys2Proof.Machine

/-! ## The area of a snapshot (R277) -/

/-- Round up to 4 KiB. -/
def pageUp (n : Nat) : Nat := (n + 4095) / 4096 * 4096

def State.nBasinUnit (s : State) (p : Nat) : Nat := s.fld (R.pfmPbasin p) 26 16
def State.nResUnit (s : State) (p : Nat) : Nat := s.fld (R.pfmPcstRes p) 25 16
def State.nDirUnit (s : State) (p : Nat) : Nat := s.fld (R.pfmPrldir p) 26 16
def State.nBodyUnit (s : State) (p : Nat) : Nat := s.fld (R.pfmPrlbody p) 27 16

/-- Offset of section k (1 to 8), and with k = 9 the end of the area. -/
def State.snapOff (s : State) (p k : Nat) : Nat :=
  [65536 * s.nResUnit p, 4096 * s.nBasinUnit p, 512 * s.nBasinUnit p, 512 * s.nDirUnit p, 1024 * s.nBodyUnit p,
    4 * s.nFrames p, 2 * s.nBasinUnit p, 16 * s.spillNum p].take (k - 1) |>.foldl (fun a n => a + pageUp n) 4096

/-- First address of area A (0) or B (1). -/
def State.areaBase (s : State) (p area : Nat) : Nat :=
  s.pair (R.culPsnapAddr p) + area * s.fld (R.culPsnapSize p) 15 0 * 2 ^ 20

/-- The 8 bytes of a lane state (R277). -/
def LaneState.word (l : LaneState) : Nat :=
  bit l.e * 2 ^ 33 + bit l.v * 2 ^ 32 + l.stamp.toNat * 2 ^ 16 + l.fill.toNat

/-- The block key of a word of p: section × 2^20 + block (R276). -/
def State.blockKey (s : State) (p cls idx : Nat) : Nat :=
  let rows := fun base => (idx / 64 - base / 64) / 4 * 64 + idx % 64
  if cls = 0 then 2 ^ 20 + rows (s.resBase p)
  else if cls = 1 then 2 * 2 ^ 20 + (idx - s.basinBase p)
  else if idx < 32768 then 4 * 2 ^ 20 + rows (s.dirBase p / 2)
  else 5 * 2 ^ 20 + rows (s.bodyBase p)

/-- Indices of the words of a block of section 1, 4 or 5 that lie in p's range of words. -/
def blockWords (lo hi blk : Nat) : List Nat :=
  ((List.range 4).map (fun j => (lo / 64 + blk / 64 * 4 + j) * 64 + blk % 64)).filter (fun w => within lo w hi)

/-- The writes of a block: offset in the area, length, data (R277). -/
def State.blockWrites (s : State) (p key : Nat) : List (Nat × Nat × Nat) :=
  let blk := key % 2 ^ 20
  let rl := fun k lo hi => (blockWords lo hi blk).map (fun w => (s.snapOff p k + 16 * (w - lo), 16, (tget 0 s.cst.rl w).toNat))
  if key / 2 ^ 20 = 1 then
    (blockWords (s.resBase p) (s.resEnd p) blk).map (fun n =>
      (s.snapOff p 1 + 16 * (n - s.resBase p), 16, (tget {} s.cst.ent n).pack.toNat))
  else if key / 2 ^ 20 = 2 then
    let b := s.basinBase p + blk
    [(s.snapOff p 2 + 64 * blk, 64, (tget 0 s.cst.basins b).toNat),
     (s.snapOff p 3 + 8 * blk, 8, (tget {} s.cst.lanes b).word)]
  else if key / 2 ^ 20 = 4 then rl 4 (s.dirBase p / 2) (s.dirEnd p / 2)
  else rl 5 (s.bodyBase p) (s.bodyEnd p)

/-- The next block that is not copied, and what is left after it. -/
def nextKey (cow : Tab Bool) : Nat → List (Nat × Nat) → Option (Nat × List (Nat × Nat))
  | 0, _ => none
  | _, [] => none
  | n + 1, (lo, hi) :: t =>
    if hi ≤ lo then nextKey cow n t
    else if tget false cow lo then nextKey cow n ((lo + 1, hi) :: t)
    else some (lo, (lo + 1, hi) :: t)

/-- The next block of a snapshot. -/
def Snap.next (n : Snap) : Option (Nat × List (Nat × Nat)) := nextKey n.cow (n.cow.length + n.todo.length + 1) n.todo

/-- One write of the snapshot to the area, through the snapshot channel (R276). Its bytes are charged here, unless the read that
brought them was (R340). -/
def State.snapSend (s : State) (p area : Nat) (w : Nat × Nat × Nat) (charge : Bool := true) : State :=
  let s := s.memWr (.snapshot p) (s.areaBase p area + w.1) w.2.1 w.2.2 none
  let s := s.modChan s.snapChan (fun x => { x with
    work := x.work ++ [.snap p w.2.1], credit := if charge then x.credit - (w.2.1 : Nat) else x.credit })
  s.modPrt p (fun x => { x with snap := x.snap.map (fun n => { n with sent := n.sent + 1 }) })

/-- The block of a snapshot is not copied yet. -/
def Snap.uncopied (n : Snap) (key : Nat) : Bool :=
  n.todo.any (fun r => within r.1 key r.2) && !tget false n.cow key

/-- Before a write to a word of an uncopied block, the block goes to the bank's snapshot buffer: its 3 other words are read (R276). The write of an
operation that finds 8 blocks there waits at its bank (`State.tryBank`). -/
def State.cow (s : State) (p cls idx : Nat) : State :=
  match (s.prt p).snap with
  | none => s
  | some n =>
    let key := s.blockKey p cls idx
    if !n.uncopied key then s
    else
      (s.cycles 3).modPrt p (fun x => { x with snap := some { n with
        cow := tset false n.cow key true, buf := n.buf ++ [(idx % 64, key, s.blockWrites p key)] } })

/-! ## Words through the symbol code (R97, R420) -/

def errKey (cls idx : Nat) : Nat := cls * 2 ^ 24 + idx

/-- The bank of a word: classes 0 slot, 1 basin word, 2 release-list word, 3 word of two wells (512 × array + word). -/
def wordBank (cls idx : Nat) : Nat :=
  if cls = 1 then idx / 4 % 64 else if cls = 3 then idx / 512 else idx % 64

/-- Wells start free and clean (R218). -/
def freeWell : W64 := 0xFFFFFF8000000000#64

/-- The well in half h of word idx of the arrays (R220). -/
def wellOf (idx h : Nat) : Nat := idx % 512 * 128 + h * 64 + idx / 512

/-- XOR a pattern into a stored word: what a decoder that lands on another codeword writes back. -/
def State.xorWord (s : State) (cls idx d : Nat) : State :=
  let c := s.cst
  let w128 := BitVec.ofNat 128 d
  let ent := tmod {} c.ent idx (fun e => Cistern.unpack (e.pack ^^^ w128))
  let bas := tmod 0 c.basins (idx / 4) (fun b => b ^^^ BitVec.ofNat 512 (d % 2 ^ 128 * 2 ^ (128 * (idx % 4))))
  let lo := tmod freeWell s.wel.w (wellOf idx 0) (fun w => w ^^^ BitVec.ofNat 64 d)
  let both := tmod freeWell lo (wellOf idx 1) (fun w => w ^^^ BitVec.ofNat 64 (d / 2 ^ 64))
  if cls = 0 then { s with cst := { c with ent := ent } }
  else if cls = 1 then { s with cst := { c with basins := bas } }
  else if cls = 2 then { s with cst := { c with rl := tmod 0 c.rl idx (fun w => w ^^^ w128) } }
  else { s with wel := { s.wel with w := both } }

/-- A correction at a unit: bank, or 64 + port. -/
def State.corrected (s : State) (unit : Nat) : State :=
  let s := s.bump R.obsAoCorr 1
  { s with obs := { s.obs with corr := tmod 0 s.obs.corr unit (· + 1) } }

/-- Forget a word's errors: it was rewritten. -/
def State.clearErr (s : State) (cls idx : Nat) : State :=
  { s with cst := { s.cst with err := tset 0 s.cst.err (errKey cls idx) 0 } }

/-- Read a word through the code: corrected and written back, or uncorrectable (`false`), which is recorded in the
always-on set (R97, R354). -/
def State.codeRead (s : State) (cls idx : Nat) : State × Bool :=
  let e := tget 0 s.cst.err (errKey cls idx)
  if e = 0 then (s, true)
  else match rsDecode e.toNat with
    | some r => (((s.xorWord cls idx (r % 2 ^ 128)).corrected (wordBank cls idx)).clearErr cls idx, true)
    | none => ((s.bump R.obsAoUncorr 1).ao
        { type := 0x03, unit := if cls = 3 then 4 else 3, code := Fc.codeUncorrectable, aux := wordBank cls idx, info := idx }, false)

/-- The entry of a slot as stored. -/
def State.entry (s : State) (slot : Nat) : Cistern := tget {} s.cst.ent slot

/-- Write the entry of a slot. -/
def State.setEntry (s : State) (slot : Nat) (e : Cistern) : State :=
  let s := match s.ownerRes slot with | some p => s.cow p 0 slot | none => s
  { s with cst := { s.cst with ent := tset {} s.cst.ent slot e } }

/-- A basin and its lane state. -/
def State.basin (s : State) (b : Nat) : Payload := tget 0 s.cst.basins b
def State.lanes (s : State) (b : Nat) : LaneState := tget {} s.cst.lanes b

/-- Write a basin with its lane state. -/
def State.setBasin (s : State) (b : Nat) (v : Payload) (l : LaneState) : State :=
  let s := match s.ownerBasin b with | some p => s.cow p 1 b | none => s
  { s with cst := { s.cst with basins := tset 0 s.cst.basins b v, lanes := tset {} s.cst.lanes b l } }

/-- Write a word of release-list memory. -/
def State.setRl (s : State) (w : Nat) (v : W128) : State :=
  let s := match s.ownerRl w with | some p => s.cow p 2 w | none => s
  { s with cst := { s.cst with rl := tset 0 s.cst.rl w v } }

/-- A basin is poisoned, with one fault entry to the unit's owner (R97). -/
def State.poisonBasin (s : State) (b : Nat) : State :=
  let s := { s with cst := { s.cst with badBasin := tset false s.cst.badBasin b true } }
  match s.ownerBasin b with
  | some p => s.fault p { code := Fc.codeUncorrectable, unit := 3 }
  | none => s

/-- A basin's lane state is read: a parity error there is recorded, the state is void, and the basin is handled as one with an
uncorrectable word (R168). -/
def State.readLanes (s : State) (b : Nat) : State × Bool :=
  let l := s.lanes b
  if l.bad then
    (({ s with cst := { s.cst with lanes := tset {} s.cst.lanes b { l with v := false, bad := false } } } : State).setFlag
      R.spRedStatus 0 true, false)
  else (s, true)

/-- Read a basin's four words through the code, and its lane state; an uncorrectable one poisons the basin (R97, R168). -/
def State.readBasin (s : State) (b : Nat) : State × Bool :=
  if tget false s.cst.badBasin b then (s, false)
  else
    let r := (List.range 4).foldl (fun (r : State × Bool) j =>
      let a := r.1.codeRead 1 (4 * b + j)
      (a.1, r.2 && a.2)) (s, true)
    let l := r.1.readLanes b
    if r.2 && l.2 then (l.1, true) else (l.1.poisonBasin b, false)

/-- Read the words of a release list through the code (R97, assumption 44). -/
def State.readList (s : State) (i : Nat) : State × Bool :=
  (s.listWords i).foldl (fun (r : State × Bool) w =>
    let a := (r.1.cycles 1).codeRead 2 w
    if a.2 then (a.1, r.2)
    else (match a.1.ownerRl w with
      | some p => a.1.fault p { code := Fc.codeUncorrectable, unit := 5 }
      | none => a.1, false)) (s, true)

/-! ## Arming a grant entry (R199) -/

/-- The producer tap of a release list and a free slot at it, and whether the list is an error (R199). -/
def State.grantTarget (s : State) (rlist : Nat) : Option (Nat × Nat) × Bool :=
  match s.listTargets rlist with
  | [] => (none, false)
  | [(l, m)] =>
    match maskTaps l m with
    | [t] =>
      (match (List.range 4).find? (fun g => !(tget {} (s.tap t).slots g).used) with
        | some g => (some (t, g), false)
        | none => (none, true))
    | _ => (none, true)
  | _ => (none, true)

/-- Read the release list, take the slot and set the entry by the table of R199: ACTIVE with `owed`, or COUNT_ONLY, as for a
list that cannot be read (DESIGN CHOICE: assumption 44). -/
def State.grantSet (s : State) (p c e gen rlist owed : Nat) : State :=
  let r := s.readList rlist
  let s := r.1
  match (if r.2 then s.grantTarget rlist else (none, false)) with
  | (some (t, g), _) =>
    let s := s.modTap t (fun x => { x with slots := tset {} x.slots g { used := true, cnum := c, seq := gen % 256 } })
    s.setGrant e { state := 1, gen := gen, tap := t, gslot := g, owed := BitVec.ofNat 20 owed }
  | (none, err) =>
    let s := s.setGrant e { state := 3, gen := gen }
    if err then s.fault p { code := Fc.descFormat, cnum := c, unit := 5 } else s

/-- A CREDIT cistern in the window enters ARMED (R199). -/
def State.grantArm (s : State) (p c gen rlist target : Nat) : State :=
  match s.grantIdx p c with
  | none => s
  | some e =>
    let g := s.grant e
    if g.state = 2 then s.setGrant e { g with gen := gen }
    else s.grantSet p c e gen rlist target

/-! ## Cistern entries through the code -/

/-- A cistern is poisoned: STATUS goes to FAULT, no release, one fault entry to the unit's owner (R97). -/
def State.poison (s : State) (slot cnum : Nat) : State :=
  let s := s.setEntry slot { s.entry slot with status := stFault }
  let s := s.clearErr 0 slot
  let s := { s with cst := { s.cst with bad := tset false s.cst.bad slot true } }
  match s.ownerRes slot with
  | some p => (s.grantLeave p cnum).fault p { code := Fc.codeUncorrectable, cnum := cnum, unit := 3 }
  | none => s

/-- The checks of R60 on an entry of owner p. -/
def Cistern.sound (e : Cistern) (p : Nat) : Bool :=
  e.part.toNat == p && decide (1 ≤ e.kind.toNat ∧ e.kind.toNat ≤ 5) && decide (e.status.toNat ≤ 5)

/-- Read the entry of a slot of p through the code and R60; a bad one is poisoned. -/
def State.readEntry (s : State) (p slot cnum : Nat) : State × Bool :=
  if tget false s.cst.bad slot then (s, false)
  else
    let r := s.codeRead 0 slot
    if r.2 && (r.1.entry slot).sound p then r
    else (r.1.poison slot cnum, false)

end Sys2Proof.Machine
end

