-- ==== Sys2Proof/Machine/Pump.lean ====
section
/-! DEFINITION. The Pump (chapter 10): channels, descriptors, bursts, the rate limiter, aborts and the Pump-wide stop;
and channel 63's draining of the sumps (R350). -/

namespace Sys2Proof.Machine

/-! ## Owners and windows (R289, R324) -/

/-- The bytes lie wholly in p's device-memory window (R289, R290). -/
def State.inWindow (s : State) (p addr len : Nat) : Bool :=
  let base := s.pair (R.pfmPdmemBase p)
  let lim := s.pair (R.pfmPdmemLim p)
  decide (base ≤ lim ∧ base ≤ addr ∧ addr + len ≤ lim + 4096)

/-- PMP_CSTATUS.STATE (R332): 0 DISABLED, 1 IDLE, 2 ACTIVE, 3 ABORTING, 4 STOPPED, 5 ERROR, 6 DRAINING. -/
def State.cstate (s : State) (c : Nat) : Nat := s.fld (R.pmpCstatus c) 31 29
def State.setCstate (s : State) (c v : Nat) : State := s.setFld (R.pmpCstatus c) 31 29 v
def State.ccnt (s : State) (c : Nat) : Nat := s.fld (R.pmpCcnt c) 15 0

/-- A channel is quiet: nothing of it is outstanding at the memory port or the CNP (R332). -/
def Chan.quiet (x : Chan) : Bool :=
  !x.bursts.any (fun b => !b.okay && !b.failed) && !x.reading && x.wb.isNone && !x.opOut && x.work.isEmpty

/-- A Pump-wide stop is in force (R341). -/
def State.pumpStopped (s : State) : Bool := s.flag R.pmpStatus 1

/-- A global STOP holds channel c at its burst boundary (R365): not the two reserved channels. -/
def State.chanHeld (s : State) (c : Nat) : Bool := s.stop.inForce && decide (c < s.snapChan)

/-! ## Descriptors (R328 to R331) -/

def PDesc.src (d : PDesc) : Nat := d.data.toNat % 2 ^ 64
def PDesc.dst (d : PDesc) : Nat := bits d.data.toNat 127 64
def PDesc.next (d : PDesc) : Nat := bits d.data.toNat 175 128
def PDesc.flags (d : PDesc) : Nat := bits d.data.toNat 191 176
def PDesc.len (d : PDesc) : Nat := bits d.data.toNat 223 192
def PDesc.last (d : PDesc) : Bool := d.flags.testBit 0
def PDesc.swap (d : PDesc) : Nat := bits d.flags 2 1
def PDesc.isOp (d : PDesc) : Bool := d.flags.testBit 3
def PDesc.wb (d : PDesc) : Bool := d.flags.testBit 4
def PDesc.shost (d : PDesc) : Bool := d.flags.testBit 5
def PDesc.dhost (d : PDesc) : Bool := d.flags.testBit 6
def PDesc.nhost (d : PDesc) : Bool := d.flags.testBit 7
/-- The operation word's fields (R331). -/
def PDesc.opc (d : PDesc) : Nat := bits d.src 4 0
def PDesc.space (d : PDesc) : Nat := bits d.src 9 8
def PDesc.index (d : PDesc) : Nat := bits d.src 39 16
def PDesc.gen (d : PDesc) : Nat := bits d.src 63 48

/-- The operation word keeps R331: reserved bits 0 and an allowed operation on its space. -/
def PDesc.opOk (d : PDesc) : Bool :=
  bits d.src 7 5 == 0 && bits d.src 15 10 == 0 && bits d.src 47 40 == 0 &&
    (if d.space = 0 then [Op.arrive, Op.arriveN, Op.postCount, Op.creditReturn].contains d.opc
     else if d.space = 1 then [Op.semAdd, Op.swap, Op.incSat, Op.maxInto, Op.minInto].contains d.opc
     else d.space == 2 && [Op.semAdd, Op.swap].contains d.opc)

/-- A descriptor is malformed (R330). -/
def PDesc.malformed (d : PDesc) : Bool :=
  d.swap == 3
    || (d.swap != 0 && (d.len % (2 * d.swap) != 0 || d.src % (2 * d.swap) != 0 || d.dst % (2 * d.swap) != 0))
    || d.next % 32 != 0
    || (d.isOp && (d.len != 0 || d.shost || d.dhost || d.swap != 0 || !d.opOk))

/-- A descriptor of an owned channel names device memory outside the window (R324, R330). -/
def State.descOutside (s : State) (c : Nat) (d : PDesc) : Bool :=
  match s.chanPart c with
  | none => false
  | some p => !d.isOp && ((!d.shost && !s.inWindow p d.src d.len) || (!d.dhost && !s.inWindow p d.dst d.len))

/-- What a descriptor completes with at once: 5 FORMAT, 6 RIGHTS, 0 neither (R330). -/
def State.descBad (s : State) (c : Nat) (d : PDesc) : Nat :=
  if d.malformed then 5 else if s.descOutside c d then 6 else 0

/-- The next burst of a descriptor (R336): its length from byte `cut`. -/
def PDesc.burst (d : PDesc) : Nat :=
  min (min 4096 (d.len - d.cut)) (min (4096 - (d.src + d.cut) % 4096) (4096 - (d.dst + d.cut) % 4096))

/-- Exchange the bytes of each halfword (R337). -/
def swapHalf : List Byte → List Byte
  | a :: b :: t => b :: a :: swapHalf t
  | t => t

/-- Reverse the bytes of each word (R337). -/
def swapWord : List Byte → List Byte
  | a :: b :: c :: d :: t => d :: c :: b :: a :: swapWord t
  | t => t

/-- The data between read and write (R337). -/
def PDesc.swapped (d : PDesc) (l : List Byte) : List Byte :=
  if d.swap = 1 then swapHalf l else if d.swap = 2 then swapWord l else l

/-- The context of a channel's host transactions (R327). -/
def State.chanHost (s : State) (c : Nat) (host : Bool) : Option Nat :=
  if host then some (s.fld (R.pmpCcfg c) 23 16) else none

/-! ## Completion of descriptors (R333 to R335) -/

/-- CNT reached 0: CZ, and the event of R335; a reserved channel raises none. -/
def State.cntZero (s : State) (c : Nat) : State :=
  let s := s.setFlag (R.pmpCstatus c) 27 true
  if c < s.snapChan then s.irqEvent (s.fld (R.pmpCcfg c) 23 16) (s.fld (R.pmpCcfg c) 4 0) else s

/-- Drop what a channel holds of its list. -/
def Chan.clear (x : Chan) : Chan :=
  { x with descs := [], base := x.base + x.descs.length, bursts := [], wb := none, opRsp := none,
           noProg := false, endDis := false, reset := false }

/-- The oldest descriptor completes with a STATUS (R333, R334): counted, CUR moves to its NEXT, CNT goes down, and an
ACTIVE channel whose CNT reaches 0 is IDLE. -/
def State.descFinish (s : State) (c : Nat) (d : PDesc) (status : Nat) : State :=
  let s := (s.bump (R.pmpCdoneCnt c) 1).count { evt := 0x2A, part := s.chanPart c }
  let s := s.setFld (R.pmpCstatus c) 19 16 status
  let s := s.modChan c (fun x => { x with descs := x.descs.tail, base := x.base + 1,
                                          bursts := x.bursts.filter (fun b => b.desc != x.base) })
  let s := s.setPair (R.pmpCcur c) (d.next + bit d.nhost)
  let n := if d.last then 0 else s.ccnt c - 1
  let s := s.setFld (R.pmpCcnt c) 15 0 n
  let s := if d.last then s.modChan c (fun x => { x with nextAddr := d.next, nextHost := d.nhost }) else s
  if n = 0 then
    let s := s.cntZero c
    if s.cstate c = 2 then s.setCstate c 1 else s
  else s

/-- A descriptor completes with FORMAT or RIGHTS (R332, R333): ERROR, CNT 0, CUR on its NEXT, the event, and a fault entry to the
partition. The NEXT of one that was not read is not known: CUR stays (DESIGN CHOICE: assumption 51). -/
def State.descError (s : State) (c : Nat) (d : PDesc) : State :=
  let status := d.bad
  let s := (s.bump (R.pmpCdoneCnt c) 1).count { evt := 0x2A, part := s.chanPart c }
  let s := (s.setFld (R.pmpCstatus c) 19 16 status).setFld (R.pmpCcnt c) 15 0 0
  let s := if d.got then s.setPair (R.pmpCcur c) (d.next / 32 * 32 + bit d.nhost) else s
  let s := (s.modChan c Chan.clear).cntZero c
  let s := s.setCstate c 5
  match s.chanPart c with
  | some p => s.fault p { code := if status = 5 then Fc.descFormat else Fc.rights, master := 0x1100 + c, unit := 10 }
  | none => s

/-- The write-back of the oldest descriptor (R334): bytes 0x10 to 0x1F with STATUS, RESULT and RESIDUE set. -/
def State.descWb (s : State) (c : Nat) (d : PDesc) (status result residue : Nat) : State :=
  let fl := d.flags % 256 + status % 16 * 256 + result % 16 * 4096
  let data := d.next + fl * 2 ^ 48 + d.len * 2 ^ 64 + residue % 2 ^ 32 * 2 ^ 96
  let s := s.memWr (.chan c) (d.addr + 16) 16 data (s.chanHost c d.host)
  s.modChan c (fun x => { x with wb := some status })

/-- The bursts of the oldest descriptor are all cut, and none is unanswered or failed. -/
def Chan.copied (x : Chan) (d : PDesc) : Bool :=
  d.cut == d.len && !x.bursts.any (fun b => b.desc == x.base && !b.okay)

/-- The length of the longest prefix of the oldest descriptor's bursts that was answered OKAY (R338). -/
def prefixDone : List Burst → Nat → Nat
  | [], w => w
  | b :: t, w => if b.okay && b.off == w then prefixDone t (w + b.len) else w

def Chan.prefix (x : Chan) (d : PDesc) : Nat := prefixDone (x.bursts.filter (fun b => b.desc == x.base)) d.done

/-- Complete what can complete, oldest first (R333, R334): a malformed descriptor, a COPY whose writes are all
answered, or an OP whose response was taken. A write-back halts it until its answer. `fuel` bounds the open
descriptors. -/
def State.chanAdvance (s : State) (c : Nat) : Nat → State
  | 0 => s
  | n + 1 =>
    let x := s.chan c
    if x.wb.isSome then s
    else match x.descs with
      | [] => s
      | d :: _ =>
        if d.bad ≠ 0 then (if s.cstate c = 2 then s.descError c d else s)
        else if d.isOp || d.erred || !x.copied d then s
        else if d.wb then s.descWb c d 1 0 0
        else (s.descFinish c d 1).chanAdvance c n

/-! ## Bus errors (R341, R342) -/

/-- A snapshot in progress is abandoned (R342): SKIP is set, BUSY clears, and the commands that wait end ABORTED. -/
def State.snapAbandon (s : State) (p : Nat) : State :=
  match (s.prt p).snap with
  | none => s
  | some sn =>
    let s := (s.setFlag (R.culPsnapStatus p) 31 false).setFlag (R.culPsnapStatus p) 28 true
    let s := s.modPrt p (fun x => { x with snap := none })
    sn.cmds.foldl (fun s q => match (s.fn q.1).findFlight q.2 with
      | some i => s.complete q.1 i.cmd { cstat := 3 }
      | none => s) s

/-- Free a dump entry and complete its command (R372). -/
def State.dumpEnd (s : State) (d : Nat) (r : CplRec) : State :=
  match tget none s.obs.dumps d with
  | none => s
  | some x =>
    let s := { s with obs := { s.obs with dumps := tset none s.obs.dumps d none } }
    match (s.fn x.func).findFlight x.cidx with
    | some i => s.complete x.func i.cmd r
    | none => s

/-- A dump that is copying ends with BUS_FAULT (R372). -/
def State.dumpBusError (s : State) (d : Nat) : State :=
  match tget none s.obs.dumps d with
  | some x => if x.armed then s else s.dumpEnd d { cstat := 1, fcode := Fc.busFault }
  | none => s

/-- The fault entries of a stop to the partitions beside the one named (R342): each that had a channel ACTIVE or
ABORTING, with N1 its own channel. -/
def State.stopEntries (s : State) (named : Option Nat) : State :=
  (List.range s.nPart).foldl (fun s p =>
    if named = some p then s
    else match (List.range s.snapChan).find? (fun c =>
        (s.pair (R.pfmPpump p)).testBit c && (s.cstate c == 2 || s.cstate c == 3)) with
      | some c => s.fault p { code := Fc.busFault, n1 := c, unit := 10 }
      | none => s) s

/-- An error response (R341, R342). `chan` is 0xFF for the system queue. The first error of a stop is captured and
starts it; a later one only counts. -/
def State.pumpError (s : State) (addr : Nat) (host write desc : Bool) (resp chan : Nat) : State :=
  let s := s.bump R.pmpErrCnt 1
  if s.pumpStopped then s.setFlag R.pmpStatus 0 true
  else
    let s := (s.setPair R.pmpErrAddr addr).setReg R.pmpErrInfo
      (2 ^ 31 + bit desc * 2 ^ 30 + bit write * 2 ^ 29 + bit host * 2 ^ 28 + resp % 4 * 2 ^ 26 + chan % 256)
    let own := if chan < s.snapChan then s.chanPart chan else none
    let s := if chan = 0xFF then s
      else match own with
        | some p => (s.fault p { code := Fc.busFault, n1 := chan, info := addr, unit := 10 })
        | none => s.ao { type := 0x0B, unit := 10, aux := chan, info := addr }
    let s := if chan = 0xFF then s else s.stopEntries own
    let s := s.setFlag R.pmpStatus 1 true
    let s := (List.range s.nPart).foldl State.snapAbandon s
    (List.range 16).foldl State.dumpBusError s

/-- An error response to a transaction of the system queue (R323): it starts the stop. -/
def State.sysError (s : State) (addr : Nat) (host write : Bool) (resp : BitVec 2) : State :=
  s.pumpError addr host write false resp.toNat 0xFF

/-- An error response to the oldest write of a requester that is not answered. -/
def State.writeError (s : State) (who : MemWho) (resp chan : Nat) : State :=
  match s.pump.writes.find? (fun t => t.who == who) with
  | some t => s.pumpError t.addr t.host.isSome true false resp chan
  | none => s

/-! ## Commands of a channel (R332) -/

def State.cmdErr (s : State) (c : Nat) : State := s.setFlag (R.pmpCstatus c) 26 true

/-- A write of 1 to EN (R332, R339, R341). -/
def State.chanEnable (s : State) (c : Nat) : State :=
  if s.cstate c = 6 then s.cmdErr c
  else if s.cstate c = 0 then
    if s.pumpStopped then s.cmdErr c
    else
      let s := (s.setFlag (R.pmpCcfg c) 31 true).setFld (R.pmpCcnt c) 15 0 0
      let h := s.pair (R.pmpChead c)
      let s := (s.setPair (R.pmpCcur c) h).setCstate c 1
      s.modChan c (fun x => { x.clear with nextAddr := h / 32 * 32, nextHost := h.testBit 0 })
  else s.setFlag (R.pmpCcfg c) 31 true

/-- The channel leaves for DISABLED with CNT 0. -/
def State.chanOff (s : State) (c : Nat) : State :=
  ((s.setFld (R.pmpCcnt c) 15 0 0).modChan c Chan.clear).setCstate c 0

/-- CNT and CUR take free values: undefined until EN is next written 1 (R339, assumption 4). -/
def State.chanUndefined (s : State) (c : Nat) : State :=
  let s := (s.setReg (R.pmpCcnt c) (s.free % 65536)).nextFree
  (s.setPair (R.pmpCcur c) (s.free % 2 ^ 48 / 32 * 32 + s.free / 2 ^ 48 % 2)).nextFree

/-- A write of 0 to EN (R332, R338, R339); the reserved channels ignore it (R325). -/
def State.chanDisable (s : State) (c : Nat) : State :=
  let st := s.cstate c
  if s.snapChan ≤ c then s
  else
    let s := s.setFlag (R.pmpCcfg c) 31 false
    if s.isC then
      if st = 1 ∨ st = 2 ∨ st = 5 then
        (s.chanUndefined c).setCstate c 6
      else if st = 4 then s.chanOff c
      else s
    else if st = 2 then (s.modChan c (fun x => { x with endDis := true })).setCstate c 3
    else if st = 3 then s.modChan c (fun x => { x with endDis := true })
    else if st = 1 ∨ st = 5 ∨ st = 4 then s.chanOff c
    else s

/-- A HEAD write that is complete (R332): the pair is stored by the caller's value `h`. -/
def State.headWrite (s : State) (c h : Nat) : State :=
  let st := s.cstate c
  if s.snapChan ≤ c then s
  else if st = 0 then s.setPair (R.pmpChead c) h
  else if st = 1 ∨ st = 5 then
    let s := ((s.setPair (R.pmpChead c) h).setPair (R.pmpCcur c) h).setCstate c 1
    s.modChan c (fun x => { x.clear with nextAddr := h / 32 * 32, nextHost := h.testBit 0 })
  else s.cmdErr c

/-- FUNC of the channel may start work (R327): function 0, or an enabled function of the channel's partition. -/
def State.chanFuncOk (s : State) (c : Nat) : Bool :=
  let f := s.fld (R.pmpCcfg c) 23 16
  f == 0 || (s.fEn f && s.chanPart c == some (s.fPart f))

/-- CMD ADD n (R332, R327). -/
def State.chanAdd (s : State) (c n : Nat) : State :=
  let st := s.cstate c
  if s.snapChan ≤ c then s
  else if !s.chanFuncOk c || !((st == 1 && n != 0) || st == 2) then s.cmdErr c
  else if 65535 < s.ccnt c + n then s.setFlag (R.pmpCstatus c) 25 true
  else (s.setFld (R.pmpCcnt c) 15 0 (s.ccnt c + n)).setCstate c 2

/-- CMD ABORT (R332, R338, R339, R342). -/
def State.chanAbort (s : State) (c : Nat) : State :=
  let st := s.cstate c
  if s.snapChan ≤ c then s
  else if s.isC || s.pumpStopped then s.cmdErr c
  else if st = 2 then s.setCstate c 3
  else if st = 1 then s
  else s.cmdErr c

/-- A write of PMP_CCMD (R332, R345): OP 1 ADD, 2 ABORT, 0 none; the table lists OP 3 for no state. -/
def State.chanCmd (s : State) (c v : Nat) : State :=
  if bits v 31 30 = 1 then s.chanAdd c (v % 65536)
  else if bits v 31 30 = 2 then s.chanAbort c
  else if bits v 31 30 = 3 ∧ c < s.snapChan then s.cmdErr c
  else s

/-! ## Arbitration (R339, R340) -/

/-- Choose among the channels that may go: the highest PRIO, round robin after the channel served last there. -/
def State.arbitrate (s : State) (ok : Nat → Bool) : Option Nat :=
  let can := (List.range s.nChan).filter ok
  let top := can.foldl (fun m c => max m (s.fld (R.pmpCcfg c) 30 28)) 0
  let lvl := can.filter (fun c => s.fld (R.pmpCcfg c) 30 28 == top)
  let last := tget 64 s.pump.last top
  match lvl.find? (fun c => decide (last < c ∧ last < 64)) with
  | some c => some c
  | none => lvl.head?

/-- Channel c was served. -/
def State.served (s : State) (c : Nat) : State :=
  { s with pump := { s.pump with last := tset 64 s.pump.last (s.fld (R.pmpCcfg c) 30 28) c } }

/-- The descriptor whose burst comes next, with its place: the first not wholly cut, if every one before it is a COPY
that is wholly cut (R333). -/
def nextCut : List PDesc → Nat → Option (Nat × PDesc)
  | [], _ => none
  | d :: t, i =>
    if d.isOp || d.bad != 0 then none
    else if d.cut < d.len then some (i, d)
    else nextCut t (i + 1)

/-- The bytes of a piece of a reserved channel's work. -/
def IntWork.len : IntWork → Nat
  | .sump _ _ n => n
  | .dumpRead _ _ n _ => n
  | .dumpWrite _ _ n => n
  | .snap _ n => n
  | .snapRead _ _ n => n

/-- Bytes that the Pump's buffer holds for a channel (R336). -/
def Chan.held (x : Chan) : Nat :=
  (x.bursts.filter (fun b => !b.okay && !b.failed)).foldl (fun n b => n + b.len) 0 + (x.work.map IntWork.len).sum

def Chan.openBursts (x : Chan) : Nat := (x.bursts.filter (fun b => !b.okay && !b.failed)).length

/-- The 256 KiB buffer can take `n` more bytes. -/
def State.bufRoom (s : State) (n : Nat) : Bool :=
  decide (s.pump.chans.foldl (fun m e => m + e.2.held) 0 + n ≤ 262144)

/-- An ordinary channel may issue a burst read (R336, R340). -/
def State.canBurst (s : State) (c : Nat) : Bool :=
  let x := s.chan c
  decide (c < s.snapChan) && s.cstate c == 2 && !s.pumpStopped && !s.chanHeld c && decide (0 < x.credit)
    && decide (x.openBursts < 16)
    && (match nextCut x.descs 0 with
        | none => false
        | some (_, d) => s.bufRoom d.burst
            && !s.memBusy ⟨.chan c, d.src + d.cut, d.burst, s.hostCtx (s.chanHost c d.shost), false, 0⟩)

/-! ## Channel 63: sumps and dumps (R350, R357) -/

/-- Records of sump i that the next write may take (R350): in the buffer, room in the ring, one 4 KiB page, up to the
ring's end; for a TRACE sump only against the trace credit. -/
def State.sumpReady (s : State) (i : Nat) : Nat :=
  let x := tget {} s.obs.sumps i
  let n := s.fld (R.obsSrsize i) 4 0
  let b := recBytes (s.fld (R.obsScfg i) 30 29)
  let prod := s.reg (R.obsSprod i)
  let used := (prod + 2 ^ 32 - s.reg (R.obsScons i)) % 2 ^ 32
  let slot := prod % 2 ^ n
  let a := s.pair (R.obsSring i) + slot * b
  if n = 0 ∨ x.sent ≠ 0 ∨ (b = 16 ∧ s.pump.traceCredit ≤ 0) then 0
  else min (min x.recs.length (2 ^ n - used)) (min ((4096 - a % 4096) / b) (2 ^ n - slot))

/-- The bytes of a number of records, the first at the lowest address. -/
def packRecs (b : Nat) : List Nat → Nat
  | [] => 0
  | r :: t => r % 2 ^ (8 * b) + packRecs b t * 2 ^ (8 * b)

/-- The sump that channel 63 serves before any dump: sump 0 whenever it can be written. -/
def State.sumpTurnOf (s : State) : Option Nat :=
  let can := (List.range 15).map (· + 1) |>.filter (fun i => s.flag (R.obsScfg i) 31 && decide (0 < s.sumpReady i))
  match can.find? (fun i => decide (s.pump.sumpTurn < i)) with
  | some i => some i
  | none => can.head?

/-- Write the ready records of sump i to its ring. -/
def State.sumpDrain (s : State) (c i : Nat) : State :=
  let n := s.sumpReady i
  let b := recBytes (s.fld (R.obsScfg i) 30 29)
  let x := tget {} s.obs.sumps i
  let a := s.pair (R.obsSring i) + s.reg (R.obsSprod i) % 2 ^ s.fld (R.obsSrsize i) 4 0 * b
  let s := s.memWr (.sump i) a (n * b) (packRecs b (x.recs.take n)) none
  let s := s.setSump i { x with sent := n }
  let s := s.modChan c (fun y => { y with work := y.work ++ [.sump i n (n * b)], credit := y.credit - (n * b : Nat) })
  { s with pump := { s.pump with
      traceCredit := if b = 16 then s.pump.traceCredit - (n * b : Nat) else s.pump.traceCredit,
      sumpTurn := if i = 0 then s.pump.sumpTurn else i } }

/-- The operands of a dump (R369). -/
def Dump.f (d : Dump) (i n : Nat) : Nat := (d.cmd.toNat >>> (8 * i)) % 2 ^ (8 * n)
def Dump.d0 (d : Dump) : Nat := d.f 0x20 4
def Dump.total (d : Dump) : Nat := d.d0 * d.f 0x24 2 * d.f 0x26 2
def Dump.dst (d : Dump) : Nat := d.f 0x18 8
def Dump.host (d : Dump) : Option Nat := if (d.f 0x38 1).testBit 0 then some d.func else none
def Dump.hold (d : Dump) : Bool := (d.f 0x38 1).testBit 1
/-- The source address of data byte `pos`: run after run (R371). -/
def Dump.srcAt (d : Dump) (pos : Nat) : Nat :=
  let run := pos / d.d0
  d.f 0x10 8 + run / d.f 0x24 2 * d.f 0x2C 4 + run % d.f 0x24 2 * d.f 0x28 4 + pos % d.d0
/-- The next burst of the copy (R336, R371). -/
def Dump.burst (d : Dump) : Nat :=
  min (min 4096 (d.d0 - d.read % d.d0))
    (min (4096 - d.srcAt d.read % 4096) (4096 - (d.dst + 64 + d.read) % 4096))

/-- The triggered dump that reads next: the first in entry order whose next read need not wait for a write (R321). -/
def State.dumpTurn (s : State) : Option (Nat × Dump) :=
  (List.range 16).findSome? (fun d => match tget none s.obs.dumps d with
    | some x => if !x.armed && decide (x.read < x.total) && s.bufRoom x.burst
        && !s.memBusy ⟨.dump d, x.srcAt x.read, x.burst, none, false, 0⟩ then some (d, x) else none
    | none => none)

/-- The 64-byte header of a dump (R371). -/
def Dump.header (x : Dump) : Nat :=
  1 + x.part % 256 * 2 ^ 8 + x.f 6 2 * 2 ^ 16 + x.f 8 2 * 2 ^ 32 + x.f 0x36 2 * 2 ^ 48 + x.tick % 2 ^ 48 * 2 ^ 64
    + x.tb % 2 ^ 64 * 2 ^ 128 + x.cnum % 2 ^ 24 * 2 ^ 192 + x.gen % 2 ^ 16 * 2 ^ 224 + x.status % 256 * 2 ^ 240
    + x.f 0x20 16 * 2 ^ 256

/-- Write a dump's header: the first thing its copy does (R371). -/
def State.dumpHead (s : State) (c d : Nat) (x : Dump) : State :=
  (s.memWr (.dump d) x.dst 64 x.header x.host).modChan c (fun y =>
    { y with work := y.work ++ [.dumpWrite d x.part 64], credit := y.credit - 64 })

/-- Issue the next read of a dump's copy. -/
def State.dumpRead (s : State) (c d : Nat) (x : Dump) : State :=
  let b := x.burst
  let s := if x.read = 0 then s.dumpHead c d x else s
  let s := s.emit (.memRead (.dump d) (x.srcAt x.read) b none (s.qosOf (.dump d)))
  let s := { s with obs := { s.obs with dumps := tset none s.obs.dumps d (some { x with read := x.read + b }) } }
  s.modChan c (fun y => { y with work := y.work ++ [.dumpRead d x.read b (x.srcAt x.read)], credit := y.credit - (b : Nat) })

/-- Channel 63 has work it may issue. -/
def State.canDrain (s : State) (c : Nat) : Bool :=
  c == s.sumpChan && !s.pumpStopped && decide (0 < (s.chan c).credit) && decide ((s.chan c).work.length < 16)
    && (decide (0 < s.sumpReady 0) || s.dumpTurn.isSome || s.sumpTurnOf.isSome)

/-- The next read of spill images: 256 of them, or what is left. -/
def State.imageRead (s : State) (p : Nat) (n : Snap) : MemTxn :=
  ⟨.snapshot p, s.pair (R.pfmPspillAddr p) + 16 * n.images, 16 * min 256 (s.spillNum p - n.images), none, false, 0⟩

/-- Every section of a snapshot is written and answered (R277). -/
def State.snapWritten (s : State) (p : Nat) (n : Snap) : Bool :=
  n.buf.isEmpty && decide (s.spillNum p ≤ n.images) && n.head.isEmpty && n.next.isNone && n.answered == n.sent
    && !(s.chan s.snapChan).work.any (fun w => match w with | .snapRead q _ _ => q == p | _ => false)

/-- The copier has something of p's snapshot to issue: a block that a bank holds, else spill images, then the header, tags and modes,
the blocks that are not copied, and COMPLETE at the end (R276, R277). -/
def State.snapDue (s : State) (p : Nat) (n : Snap) : Bool :=
  !n.finishing && (!n.buf.isEmpty ||
    (if n.images < s.spillNum p then s.bufRoom (s.imageRead p n).len && !s.memBusy (s.imageRead p n)
     else !n.head.isEmpty || n.next.isSome || s.snapWritten p n))

/-- Channel 62 has something of a snapshot that it may send (R276, R339, R340, R341). -/
def State.canSnap (s : State) (c : Nat) : Bool :=
  c == s.snapChan && !s.pumpStopped && decide (0 < (s.chan c).credit) && decide ((s.chan c).work.length + 4 ≤ 16)
    && s.parts.any (fun e => match e.2.snap with
      | some n => s.snapDue e.1 n
      | none => false)

/-- Channel 63's order of work (R350): sump 0, the copy of a triggered dump, sumps 1 to 15 round robin. -/
def State.drain (s : State) (c : Nat) : State :=
  if 0 < s.sumpReady 0 then s.sumpDrain c 0
  else match s.dumpTurn with
    | some (d, x) => s.dumpRead c d x
    | none => match s.sumpTurnOf with
      | some i => s.sumpDrain c i
      | none => s

/-! ## Reading descriptors and issuing bursts (R333, R336, R339) -/

/-- The 64-byte line that holds a channel's next descriptor, as a read in the channel's context (R341). -/
def State.descLine (s : State) (c : Nat) : MemTxn :=
  let x := s.chan c
  ⟨.chan c, x.nextAddr / 64 * 64, 64, s.hostCtx (s.chanHost c x.nextHost), false, 0⟩

/-- Channel c may read a descriptor (R333). -/
def State.canReadDesc (s : State) (c : Nat) : Bool :=
  let x := s.chan c
  decide (c < s.snapChan) && s.cstate c == 2 && !s.pumpStopped && !s.chanHeld c && !x.reading
    && decide (x.descs.length < s.ccnt c) && decide (x.descs.length < 3)
    && !x.descs.any (fun d => d.last || d.bad != 0)
    && !s.memBusy (s.descLine c)

/-- The channel that may issue now, whatever it has to issue: one burst read, one descriptor read or one piece of a reserved
channel's work (R339). -/
def State.chosen (s : State) : Option Nat :=
  s.arbitrate (fun c => s.canReadDesc c || s.canBurst c || s.canDrain c || s.canSnap c)

/-- Another channel has the line of channel c's descriptor fetched, and the line serves both (R341). -/
def State.lineFetched (s : State) (c : Nat) : Bool :=
  s.pump.chans.any (fun e => e.1 != c && e.2.reading
    && (s.descLine e.1).addr == (s.descLine c).addr && (s.descLine e.1).host == (s.descLine c).host)

/-- Read the next descriptor of channel c: its line is fetched, or awaited where it is under way. -/
def State.descRead (s : State) (c : Nat) : State :=
  let t := s.descLine c
  (if s.lineFetched c then s else s.emit (.memRead t.who t.addr t.len t.host (s.qosOf t.who))).modChan c (fun x => { x with reading := true })

/-- DESCRIPTOR_READ (R333, R339). A descriptor whose own address lies outside the window completes with RIGHTS unread
(R324, R330). -/
def execDescriptorRead (s : State) : Host.Outcome State Fault Refusal :=
  match s.chosen with
  | none => .next s
  | some c =>
    if !s.canReadDesc c then .next s
    else
      let x := s.chan c
      let s := s.served c
      match s.chanPart c with
      | some p =>
        if !x.nextHost && !s.inWindow p x.nextAddr 32 then
          .next ((s.modChan c (fun x => { x with
            descs := x.descs ++ [{ addr := x.nextAddr, host := x.nextHost, data := 0, bad := 6, got := false }] })).chanAdvance c 4)
        else .next (s.descRead c)
      | none => .next (s.descRead c)

/-- DESCRIPTOR_READ_DONE (R330, R341). An error response is that of the line: no channel that it would serve gets its
descriptor. -/
def execDescriptorReadDone (c : BitVec 6) (desc : BitVec 256) (resp : BitVec 2) (s : State) :
    Host.Outcome State Fault Refusal :=
  let c := c.toNat
  let x := s.chan c
  if !x.reading then .next s
  else
    let t := s.descLine c
    let line := (List.range s.snapChan).filter (fun k => (s.chan k).reading && (s.descLine k).addr == t.addr
      && (s.descLine k).host == t.host)
    if 2 ≤ resp.toNat then
      .next ((line.foldl (fun s k => s.modChan k (fun x => { x with reading := false })) s).pumpError t.addr x.nextHost false true
        resp.toNat c)
    else
    let s := s.modChan c (fun x => { x with reading := false })
    if s.cstate c = 6 ∨ x.noProg then .next s
    else
      let d : PDesc := { addr := x.nextAddr, host := x.nextHost, data := desc }
      let d := { d with bad := s.descBad c d }
      let s := s.modChan c (fun x => { x with descs := x.descs ++ [d], nextAddr := d.next, nextHost := d.nhost })
      .next (s.chanAdvance c 4)

/-! ## Bursts (R336) -/

/-- BURST_READ_ISSUE (R336, R339, R340): the channel that is chosen issues a burst read; channel 63 its next work. -/
def execBurstReadIssue (s : State) : Host.Outcome State Fault Refusal :=
  match s.chosen with
  | none => .next s
  | some c =>
    if c = s.sumpChan then .next ((s.drain c).served c)
    else if !s.canBurst c then .next s
    else match nextCut (s.chan c).descs 0 with
      | none => .next s
      | some (i, d) =>
        let b := d.burst
        let s := (s.served c).emit
          (.memRead (.chan c) (d.src + d.cut) b (s.hostCtx (s.chanHost c d.shost)) (s.qosOf (.chan c)))
        .next (s.modChan c (fun x => { x with
          descs := x.descs.set i { d with cut := d.cut + b },
          bursts := x.bursts ++ [{ desc := x.base + i, off := d.cut, len := b }],
          credit := x.credit - (b : Nat) }))

/-- Change the first burst that satisfies `q`. -/
def updFirst (q : Burst → Bool) (f : Burst → Burst) : List Burst → List Burst
  | [] => []
  | b :: t => if q b then f b :: t else b :: updFirst q f t

/-- The descriptor of a burst. -/
def Chan.descOf (x : Chan) (b : Burst) : Option PDesc := x.descs[b.desc - x.base]?

/-- Mark the descriptor of a burst as the one whose transaction received an error (R341). -/
def Chan.mark (x : Chan) (b : Burst) : Chan :=
  { x with descs := x.descs.modify (b.desc - x.base) (fun d => { d with erred := true }) }

/-- A dump's read data comes back: its write is issued (R371). -/
def State.dumpData (s : State) (c d off len : Nat) (data : List Byte) : State :=
  match tget none s.obs.dumps d with
  | none => s
  | some x =>
    let s := s.memWr (.dump d) (x.dst + 64 + off) len (ofBytes (data.take len)) x.host
    let s := { s with obs := { s.obs with dumps := tset none s.obs.dumps d (some { x with written := x.written + len }) } }
    s.modChan c (fun y => { y with work := y.work ++ [.dumpWrite d x.part len] })

/-- Read data for channel 63. -/
def State.drainRead (s : State) (c : Nat) (data : List Byte) (resp : Nat) : State :=
  match (s.chan c).work.find? (fun w => match w with | .dumpRead .. => true | _ => false) with
  | some (.dumpRead d off len a) =>
    let s := s.modChan c (fun y => { y with work := y.work.erase (.dumpRead d off len a) })
    if 2 ≤ resp then s.pumpError a false false false resp c else s.dumpData c d off len data
  | _ => s

/-- Read data for the snapshot copier: spill images, which go on to the area (R276). -/
def State.snapRead (s : State) (c : Nat) (data : List Byte) (resp : Nat) : State :=
  match (s.chan c).work.find? (fun w => match w with | .snapRead .. => true | _ => false) with
  | some (.snapRead p off len) =>
    let s := s.modChan c (fun y => { y with work := y.work.erase (.snapRead p off len) })
    if 2 ≤ resp then
      s.pumpError (s.pair (R.pfmPspillAddr p) + off) false false false resp c
    else match (s.prt p).snap with
      | none => s
      | some n => s.snapSend p n.area (s.snapOff p 8 + off, len, ofBytes (data.take len)) false
  | _ => s

/-- BURST_READ_DONE (R336, R337, R339, R341): the oldest burst whose data is outstanding. -/
def execBurstReadDone (c : BitVec 6) (data : List Byte) (resp : BitVec 2) (s : State) :
    Host.Outcome State Fault Refusal :=
  let c := c.toNat
  let x := s.chan c
  let q := fun (b : Burst) => !b.written && !b.failed
  if c = s.sumpChan then .next (s.drainRead c data resp.toNat)
  else if c = s.snapChan then .next (s.snapRead c data resp.toNat)
  else match x.bursts.find? q with
    | none => .next s
    | some b =>
      match x.descOf b with
        | none => .next s
        | some d =>
          if s.cstate c = 6 then
            let s := s.modChan c (fun x => { x with bursts := x.bursts.erase b })
            .next (if 2 ≤ resp.toNat then s.pumpError (d.src + b.off) d.shost false false resp.toNat c else s)
          else if 2 ≤ resp.toNat then
            let s := s.modChan c (fun x => { (x.mark b) with bursts := updFirst q (fun b => { b with failed := true }) x.bursts })
            .next (s.pumpError (d.src + b.off) d.shost false false resp.toNat c)
          else
            let s := s.modChan c (fun x => { x with bursts := updFirst q (fun b => { b with written := true }) x.bursts })
            .next (s.memWr (.chan c) (d.dst + b.off) b.len (ofBytes (d.swapped (data.take b.len)))
              (s.chanHost c d.dhost))

/-- PBYTES of partition `p` and the byte counter of channel c for a write answered OKAY (R352, R381). -/
def State.countBytes (s : State) (c : Nat) (p : Option Nat) (n : Nat) : State :=
  let s := s.count { evt := 0x29, n := n, part := s.chanPart c }
  match p with
  | some p => s.usage p .pbytes n
  | none => s

/-- An internal descriptor of a reserved channel is complete, one for each write (R325, assumption 51). -/
def State.intDone (s : State) (c : Nat) : State :=
  let s := ((s.bump (R.pmpCdoneCnt c) 1).count { evt := 0x2A }).setFld (R.pmpCstatus c) 19 16 1
  if (s.chan c).work.isEmpty then s.cntZero c else s

/-- A write of channel 63 is answered: PROD advances over the records, or they stay (R350); a dump's bytes count. A write that a
reset of the channel stopped names no record any more (R418). -/
def State.drainWrite (s : State) (c resp : Nat) : State :=
  match (s.chan c).work.find? (fun w => match w with | .dumpRead .. => false | _ => true) with
  | some (.sump i n len) =>
    let s := s.modChan c (fun y => { y with work := y.work.erase (.sump i n len) })
    let x := tget {} s.obs.sumps i
    if n = 0 then (if 2 ≤ resp then s.writeError (.sump i) resp c else s).memAck (.sump i)
    else if 2 ≤ resp then ((s.setSump i { x with sent := 0 }).writeError (.sump i) resp c).memAck (.sump i)
    else
      let s := ((s.memAck (.sump i)).setSump i { x with sent := 0, recs := x.recs.drop n }).bump (R.obsSprod i) n
      (s.countBytes c (if s.flag (R.obsScfg i) 28 then some (s.fld (R.obsScfg i) 27 23) else none) len).intDone c
  | some (.dumpWrite d p len) =>
    let s := s.modChan c (fun y => { y with work := y.work.erase (.dumpWrite d p len) })
    if 2 ≤ resp then (s.writeError (.dump d) resp c).memAck (.dump d)
    else
      let s := (((s.memAck (.dump d)).countBytes c (some p) len).intDone c)
      match tget none s.obs.dumps d with
      | none => s
      | some x =>
        { s with obs := { s.obs with dumps := tset none s.obs.dumps d (some { x with answered := x.answered + len }) } }
  | _ => s

/-- A snapshot is complete: COMPLETE is written (R277, R307). -/
def State.snapEnd (s : State) (p : Nat) (n : Snap) : State :=
  let s := (s.setFlag (R.culPsnapStatus p) 31 false).setFlag (R.culPsnapStatus p) 30 (n.area == 1)
  let s := (s.setPair (R.culPsnapTick p) n.tick.toNat).modPrt p (fun x => { x with snap := none })
  n.cmds.foldl (fun s q => match (s.fn q.1).findFlight q.2 with
    | some i => s.complete q.1 i.cmd { data := n.tick.toNat }
    | none => s) s

/-- A write of the snapshot copier is answered (R276, R277); the answer to COMPLETE ends the snapshot. -/
def State.snapWrite (s : State) (c resp : Nat) : State :=
  match (s.chan c).work.find? (fun w => match w with | .snap .. => true | _ => false) with
  | some (.snap p len) =>
    let s := s.modChan c (fun y => { y with work := y.work.erase (.snap p len) })
    if 2 ≤ resp then (s.writeError (.snapshot p) resp c).memAck (.snapshot p)
    else
      let s := ((s.memAck (.snapshot p)).countBytes c (some p) len).intDone c
      match (s.prt p).snap with
      | none => s
      | some n =>
        let n := { n with answered := n.answered + 1 }
        if n.finishing ∧ n.answered = n.sent then s.snapEnd p n else s.modPrt p (fun x => { x with snap := some n })
  | _ => s

/-- Drop the answered prefix of the oldest descriptor's bursts into its count. -/
def Chan.prune (x : Chan) : Chan :=
  match x.descs, x.bursts with
  | d :: t, b :: u =>
    if b.okay && b.desc == x.base && b.off == d.done then
      { x with descs := { d with done := d.done + b.len } :: t, bursts := u }
    else x
  | _, _ => x

/-- BURST_WRITE_DONE (R334, R341): the oldest write of the channel. -/
def execBurstWriteDone (c : BitVec 6) (resp : BitVec 2) (s : State) : Host.Outcome State Fault Refusal :=
  let c := c.toNat
  let x := s.chan c
  let q := fun (b : Burst) => b.written && !b.okay && !b.failed
  if c = s.sumpChan then .next (s.drainWrite c resp.toNat)
  else if c = s.snapChan then .next (s.snapWrite c resp.toNat)
  else match x.bursts.find? q with
    | none => .next s
    | some b =>
      match x.descOf b with
        | none => .next (s.memAck (.chan c))
        | some d =>
          let s := s.memAckAt (.chan c) (d.dst + b.off) b.len
          if s.cstate c = 6 then
            let s := s.modChan c (fun x => { x with bursts := x.bursts.erase b })
            .next (if 2 ≤ resp.toNat then s.pumpError (d.dst + b.off) d.dhost true false resp.toNat c else s)
          else if 2 ≤ resp.toNat then
            let s := s.modChan c (fun x => { (x.mark b) with bursts := updFirst q (fun b => { b with failed := true }) x.bursts })
            .next (s.pumpError (d.dst + b.off) d.dhost true false resp.toNat c)
          else
            let s := s.modChan c (fun x => { x with bursts := updFirst q (fun b => { b with okay := true }) x.bursts }.prune)
            let s := s.countBytes c (s.chanPart c) b.len
            .next (s.chanAdvance c 4)

/-- The channel ends an abort or a stop (R338, R341): CNT 0, the event, IDLE, DISABLED or STOPPED. -/
def State.chanEnd (s : State) (c : Nat) : State :=
  let dis := (s.chan c).endDis
  let rst := (s.chan c).reset
  let n := s.ccnt c
  let s := (s.setFld (R.pmpCcnt c) 15 0 0).modChan c Chan.clear
  let s := if n = 0 then s else s.cntZero c
  let h := s.pair (R.pmpCcur c)
  let s := s.modChan c (fun x => { x with nextAddr := h / 32 * 32, nextHost := h.testBit 0 })
  if rst then (s.setPair (R.pmpCcur c) (s.pair (R.pmpChead c))).setCstate c 0
  else if s.pumpStopped then s.setCstate c 4
  else if dis then s.setCstate c 0 else s.setCstate c 1

/-- DESCRIPTOR_WRITE_BACK_DONE (R334, R338, R341, R342): a write-back that receives an error is lost, and its descriptor is
complete as after any answer. -/
def execDescriptorWriteBackDone (c : BitVec 6) (resp : BitVec 2) (s : State) : Host.Outcome State Fault Refusal :=
  let c := c.toNat
  let x := s.chan c
  match x.wb, x.descs with
  | some st, d :: _ =>
    let s := (s.memAckAt (.chan c) (d.addr + 16) 16).modChan c (fun x => { x with wb := none })
    let s := if 2 ≤ resp.toNat then s.pumpError (d.addr + 16) d.host true false resp.toNat c
      else s.countBytes c (s.chanPart c) 16
    if s.cstate c = 6 then .next s
    else if st = 1 then .next ((s.descFinish c d 1).chanAdvance c 4)
    else .next ((s.setFld (R.pmpCstatus c) 19 16 st).chanEnd c)
  | _, _ => .next s

/-- The write-back that ends an abort or a stop (R338, R341). -/
def State.chanResidue (s : State) (c : Nat) (d : PDesc) : State :=
  let status := if !s.pumpStopped then 2 else if d.erred then 3 else 4
  s.descWb c d status 0 (d.len - (s.chan c).prefix d)

/-- CHANNEL_QUIET (R338, R339, R341): a channel that is ABORTING, stopping or DRAINING and has nothing outstanding. A descriptor
that is malformed or names an address outside the window causes no write-back (R330). -/
def execChannelQuiet (c : BitVec 6) (s : State) : Host.Outcome State Fault Refusal :=
  let c := c.toNat
  let st := s.cstate c
  if !(s.chan c).quiet then .next s
  else if st = 6 then
    let rst := (s.chan c).reset
    let s := (s.modChan c Chan.clear).setCstate c 0
    .next (if rst then (s.setFld (R.pmpCcnt c) 15 0 0).setPair (R.pmpCcur c) (s.pair (R.pmpChead c)) else s)
  else if (s.chan c).opRsp.isSome then .next s
  else if s.pumpStopped && (st == 1 || st == 5) then .next (s.setCstate c 4)
  else if st = 3 ∨ (s.pumpStopped ∧ st = 2) then
    let s := s.chanAdvance c 4
    let x := s.chan c
    if x.wb.isSome || !(s.cstate c == 3 || s.cstate c == 2) then .next s
    else match x.descs with
      | [] => .next (s.chanEnd c)
      | d :: _ => .next (if d.bad ≠ 0 then s.chanEnd c else s.chanResidue c d)
  else .next s

/-- RATE_WINDOW_START (R340, R357). -/
def execRateWindowStart (s : State) : Host.Outcome State Fault Refusal :=
  let s := (List.range s.nChan).foldl (fun s c => s.modChan c (fun x =>
    { x with credit := min x.credit 0 + (s.fld (R.pmpCshare c) 8 0 * 256 : Nat) })) s
  .next { s with pump := { s.pump with traceCredit := min s.pump.traceCredit 0 + 1966 } }

/-- Every channel is quiet, and none is still on its way to STOPPED (R343). -/
def State.pumpQuiet (s : State) : Bool :=
  s.pump.chans.all (fun e => e.2.quiet && e.2.opRsp.isNone)
    && (List.range s.nChan).all (fun c => s.cstate c == 0 || s.cstate c == 4 || !s.pumpStopped)

/-- PUMP_RESUME_EFFECT (R343). -/
def execPumpResumeEffect (s : State) : Host.Outcome State Fault Refusal :=
  if s.flag R.pmpCtrl 0 && s.pumpQuiet then
    let s := (List.range s.nChan).foldl (fun s c =>
      if s.cstate c = 4 then
        let h := s.pair (R.pmpCcur c)
        (s.setCstate c 1).modChan c (fun x => { x with nextAddr := h / 32 * 32, nextHost := h.testBit 0 })
      else s) s
    .next (((s.setFlag R.pmpStatus 1 false).setFlag R.pmpCtrl 0 false).setFlag R.pmpErrInfo 31 false)
  else .next s

end Sys2Proof.Machine
end

