-- ==== Sys2Proof/Machine/Reduce.lean ====
section
/-! DEFINITION. The arithmetic of reductions (chapter 5): lanes and masks (R159 to R161), reduction modes (R162, R163),
widening (R167), the combining operation (R170, R171), the order of a router's children (R169), rounding (R174) and
identities (R175). -/

namespace Sys2Proof.Machine

/-! ## Floating-point values -/

/-- A floating-point value: NaN, an infinity, or a signed multiple `n` of 2^-149 (every value of every format of R163
is one of these). -/
inductive FVal where
  | nan
  | inf (neg : Bool)
  | fin (neg : Bool) (n : Nat)
  deriving DecidableEq, Repr

/-- A binary format: fraction bits, exponent bits, the exponent of its least quantum, and whether it has infinities
(FP8 E4M3 has none, R167). -/
structure FFmt where
  m : Nat
  e : Nat
  q : Int
  hasInf : Bool
  deriving DecidableEq, Repr

def fp32 : FFmt := ⟨23, 8, -149, true⟩
def bf16 : FFmt := ⟨7, 8, -133, true⟩
def fp16 : FFmt := ⟨10, 5, -24, true⟩
def e4m3 : FFmt := ⟨3, 4, -9, false⟩
def e5m2 : FFmt := ⟨2, 5, -16, true⟩

/-- The format of an IFMT code (R162); 5 and 6 are the integer formats. -/
def ffmt (ifmt : Nat) : FFmt :=
  if ifmt = 1 then bf16 else if ifmt = 2 then fp16 else if ifmt = 3 then e4m3 else if ifmt = 4 then e5m2 else fp32

/-- The width of a value. -/
def FFmt.width (f : FFmt) : Nat := f.m + f.e + 1

/-- The exponent field and fraction of the greatest magnitude pattern that is not finite: infinity, or E4M3's NaN. -/
def FFmt.top (f : FFmt) : Nat := if f.hasInf then (2 ^ f.e - 1) * 2 ^ f.m else 2 ^ (f.m + f.e) - 1

/-- The value that a pattern holds. Bits above the format's width are ignored (R160). -/
def FFmt.unpack (f : FFmt) (w : Nat) : FVal :=
  let neg := w.testBit (f.m + f.e)
  let mag := w % 2 ^ (f.m + f.e)
  let ex := mag / 2 ^ f.m
  let fr := mag % 2 ^ f.m
  if f.top < mag then .nan
  else if mag = f.top then (if f.hasInf then .inf neg else .nan)
  else if ex = 0 then .fin neg (fr * 2 ^ (f.q + 149).toNat)
  else .fin neg ((2 ^ f.m + fr) * 2 ^ ((f.q + 149).toNat + ex - 1))

/-- `n` divided by 2^k, rounded to nearest even. -/
def rne (n k : Nat) : Nat :=
  let q := n / 2 ^ k
  let r := n % 2 ^ k
  let h := 2 ^ k
  if 2 * r < h then q else if h < 2 * r then q + 1 else q + q % 2

/-- The magnitude pattern of `n` × 2^-149, rounded to nearest even. The result may reach or pass `top`. -/
def FFmt.round (f : FFmt) (n : Nat) : Nat :=
  let qmin := (f.q + 149).toNat
  let k := max qmin (n.log2 - f.m)
  (k - qmin) * 2 ^ f.m + rne n k

/-- The canonical NaN of a format (R174). -/
def FFmt.nan (f : FFmt) : Nat := if f.hasInf then f.top + 2 ^ (f.m - 1) else f.top

/-- The pattern of a value (R174): overflow gives an infinity, or for E4M3 the NaN 0x7F, whose sign is not kept. -/
def FFmt.pack (f : FFmt) : FVal → Nat
  | .nan => f.nan
  | .inf neg => if f.hasInf then f.top + bit neg * 2 ^ (f.m + f.e) else f.nan
  | .fin neg n =>
    let r := f.round n
    if f.top ≤ r then (if f.hasInf then f.top + bit neg * 2 ^ (f.m + f.e) else f.nan)
    else r + bit neg * 2 ^ (f.m + f.e)

/-- IEEE 754 binary32 addition, round to nearest even (R170, R171). -/
def fadd (x y : Nat) : Nat :=
  match fp32.unpack x, fp32.unpack y with
  | .nan, _ => fp32.nan
  | _, .nan => fp32.nan
  | .inf a, .inf b => if a = b then x else fp32.nan
  | .inf _, .fin _ _ => x
  | .fin _ _, .inf _ => y
  | .fin a m, .fin b n =>
    if a = b then fp32.pack (.fin a (m + n))
    else if m = n then 0
    else if n < m then fp32.pack (.fin a (m - n)) else fp32.pack (.fin b (n - m))

/-- The order of binary32 patterns that are not NaN: −0 below +0 (R170). -/
def fkey (x : Nat) : Int := if x.testBit 31 then -((x % 2 ^ 31 : Nat) : Int) - 1 else ((x % 2 ^ 31 : Nat) : Int)

def isNan (x : Nat) : Bool := fp32.unpack x == .nan

/-- IEEE 754 maximum and minimum (R170). -/
def fmaxi (x y : Nat) : Nat := if isNan x || isNan y then fp32.nan else if fkey x < fkey y then y else x
def fmini (x y : Nat) : Nat := if isNan x || isNan y then fp32.nan else if fkey y < fkey x then y else x

/-! ## Reduction modes (R162, R163) -/

def rmIfmt (rm : Nat) : Nat := bits rm 7 5
def rmOp (rm : Nat) : Nat := bits rm 4 2
def rmOfmt (rm : Nat) : Nat := bits rm 1 0
/-- IFMT is a floating-point format. -/
def rmFloat (rm : Nat) : Bool := decide (rmIfmt rm ≤ 4)

/-- A reserved RMODE (R163). -/
def rmReserved (rm : Nat) : Bool :=
  rmIfmt rm == 7 || rmOp rm == 7 || (decide (4 ≤ rmOp rm ∧ rmOp rm ≤ 6) && rmFloat rm)
    || (!rmFloat rm && rmOfmt rm != 0)

/-- The delivered format (R174): OFMT 0 delivers in IFMT. -/
def rmDeliver (rm : Nat) : FFmt :=
  if rmOfmt rm = 1 then fp32 else if rmOfmt rm = 2 then bf16 else if rmOfmt rm = 3 then fp16 else ffmt (rmIfmt rm)

/-! ## Lanes -/

/-- Lane `i` of a payload (R159). -/
def lane (p : Payload) (i : Nat) : Nat := (p.toNat >>> (32 * i)) % 2 ^ 32

/-- A payload from its lanes, lane 0 first. -/
def ofLanes (f : Nat → Nat) : Payload :=
  BitVec.ofNat 512 ((List.range 16).foldl (fun a i => a + f i % 2 ^ 32 * 2 ^ (32 * i)) 0)

/-- Lane i is an index lane (R167). -/
def idxLane (rm i : Nat) : Bool := rmOp rm == 3 && i % 2 == 1

/-- The mask that governs: in MAX_WITH_INDEX the bit of lane 2i governs the pair (R167). -/
def effMask (rm mask : Nat) : Nat :=
  if rmOp rm = 3 then (List.range 8).foldl (fun a i => if mask.testBit (2 * i) then a + 3 * 4 ^ i else a) 0
  else mask % 2 ^ 16

/-- A lane brought to its accumulator form (R167). -/
def widenLane (rm i v : Nat) : Nat :=
  if !rmFloat rm || idxLane rm i then v else fp32.pack ((ffmt (rmIfmt rm)).unpack v)

/-- A contribution in accumulator form: masked lanes take 0 (R167). -/
def widen (rm mask : Nat) (p : Payload) : Payload :=
  ofLanes (fun i => if mask.testBit i then widenLane rm i (lane p i) else 0)

/-- A 32-bit pattern as a signed integer. -/
def sint (x : Nat) : Int := if x < 2 ^ 31 then (x : Int) else (x : Int) - 2 ^ 32

/-- A signed integer, saturated, as a pattern (R170). -/
def satS (v : Int) : Nat :=
  if 2 ^ 31 ≤ v then 2 ^ 31 - 1 else if v < -(2 ^ 31) then 2 ^ 31 else (v % 2 ^ 32).toNat

/-- ⊕ on single lanes (R170), all operations but MAX_WITH_INDEX. -/
def lop (rm x y : Nat) : Nat :=
  let op := rmOp rm
  if rmFloat rm then
    if op = 0 then fadd x y else if op = 1 then fmaxi x y else fmini x y
  else if op = 4 then x &&& y
  else if op = 5 then x ||| y
  else if op = 6 then x ^^^ y
  else if rmIfmt rm = 5 then
    if op = 0 then satS (sint x + sint y)
    else if op = 1 then (if sint x < sint y then y else x)
    else (if sint y < sint x then y else x)
  else
    if op = 0 then min (x + y) (2 ^ 32 - 1) else if op = 1 then max x y else min x y

/-- The rank of a value of MAX_WITH_INDEX (R170): NaN above +∞, +0 above −0, two NaNs equal. -/
def mwiKey (rm x : Nat) : Int :=
  if rmFloat rm then (if isNan x then 2 ^ 32 else fkey x)
  else if rmIfmt rm = 5 then sint x else (x : Int)

/-- The second pair of MAX_WITH_INDEX wins over the first (R170). -/
def mwiTakes (rm x xi y yi : Nat) : Bool :=
  decide (mwiKey rm x < mwiKey rm y ∨ (mwiKey rm x = mwiKey rm y ∧ yi < xi))

/-- ⊕ on whole payloads where both lanes are present; a lane that only one side has is that side's (R168, R169). -/
def combine (rm ma : Nat) (a : Payload) (mb : Nat) (b : Payload) : Nat × Payload :=
  (ma ||| mb, ofLanes (fun i =>
    if ma.testBit i && mb.testBit i then
      if rmOp rm = 3 then
        let v := i / 2 * 2
        if mwiTakes rm (lane a v) (lane a (v + 1)) (lane b v) (lane b (v + 1)) then lane b i else lane a i
      else lop rm (lane a i) (lane b i)
    else if mb.testBit i then lane b i
    else if ma.testBit i then lane a i else 0))

/-- The fixed order of children of R169: (x0 ⊕ x1) ⊕ (x2 ⊕ x3), an absent child having mask 0. -/
def combine4 (rm : Nat) (x : Nat → Nat × Payload) : Nat × Payload :=
  let u := combine rm (x 0).1 (x 0).2 (x 1).1 (x 1).2
  let v := combine rm (x 2).1 (x 2).2 (x 3).1 (x 3).2
  combine rm u.1 u.2 v.1 v.2

/-- A contribution into a basin (R168, steps 2 to 4): `fill` is the basin's FILL, lanes without a fill bit take the
value, lanes that the mask leaves out keep what is stored. -/
def accumulate (rm fill : Nat) (old : Payload) (mask : Nat) (x : Payload) : Nat × Payload :=
  let c := (combine rm fill old mask x).2
  (fill ||| mask, ofLanes (fun i => if mask.testBit i then lane c i else lane old i))

/-! ## Delivery (R173 to R175) -/

/-- A lane rounded to the delivered form (R174). -/
def roundLane (rm i v : Nat) : Nat :=
  if !rmFloat rm || idxLane rm i then v else (rmDeliver rm).pack (fp32.unpack v)

/-- The identity of a lane in the delivered format (R175). -/
def identLane (rm i : Nat) : Nat :=
  let op := rmOp rm
  let f := rmDeliver rm
  let top := f.top
  let sgn := 2 ^ (f.m + f.e)
  if idxLane rm i then 0xFFFFFFFF
  else if rmFloat rm then
    if op = 1 ∨ op = 3 then top + sgn else if op = 2 then top else 0
  else if op = 4 then 0xFFFFFFFF
  else if op = 1 ∨ op = 3 then (if rmIfmt rm = 5 then 0x80000000 else 0)
  else if op = 2 then (if rmIfmt rm = 5 then 0x7FFFFFFF else 0xFFFFFFFF)
  else 0

/-- The mode whose delivered form a delivery uses: with ACC 1, OFMT is taken as FP32 (R176). -/
def accMode (rm : Nat) (acc : Bool) : Nat := if acc && rmFloat rm then rm / 4 * 4 + 1 else rm

/-- The delivery pass on one chain basin (R173). `keep` is keep mode: CTRL class with MASKMODE 1. -/
def deliver (rm : Nat) (acc keep empty : Bool) (fill : Nat) (old : Payload) : Payload :=
  let r := accMode rm acc
  ofLanes (fun i =>
    if empty then (if keep then lane old i else identLane r i)
    else if fill.testBit i then roundLane r i (lane old i)
    else if keep then lane old i else 0)

end Sys2Proof.Machine
end

