-- ==== Sys2Proof/Machine/Complete.lean ====
section
/-! DEFINITION. The boundaries of the grid (R29, R30, R37, R42), scoreboard records (R126), reduction modes (R164), the
delivery pass (R172), what every completion of a cistern does (R67, R267, R371), and when the work of a tick is
complete (R39). -/

namespace Sys2Proof.Machine

/-! ## The grid (R29, R30) -/

/-- Slots of a tick. -/
def State.nSlot (s : State) : Nat := s.fld R.hgSlots 15 0 + 1

/-- Boundary of tick n in units of 1/256 ns (R29). -/
def State.gridT (s : State) (n : Nat) : Nat :=
  256 * s.pair R.hgEpoch + n * (s.pair R.hgTickLen % 2 ^ 40) + n * s.fld R.hgTickFrac 15 0 / s.fld R.hgTickFrac 31 16

/-- Boundary of grid slot index g = n × N + k (R30, R32). -/
def State.gridB (s : State) (g : Nat) : Nat :=
  let n := g / s.nSlot
  s.gridT n + g % s.nSlot * (s.gridT (n + 1) - s.gridT n) / s.nSlot

/-- The index of the current grid slot (R32). -/
def State.gridIdx (s : State) : Nat := s.grid.tick * s.nSlot + s.grid.slot

/-! ## Partition ticks (R37, R42) -/

def State.shift (s : State) (p : Nat) : Nat := s.fld (R.hgPshift p) 15 0
def State.stretchPolicy (s : State) (p : Nat) : Bool := s.flag (R.hgPovrCfg p) 31
def State.stretchMax (s : State) (p : Nat) : Nat := s.fld (R.hgPovrCfg p) 15 0
def State.closeReg (s : State) (p : Nat) : Nat := s.fld (R.hgPclose p) 15 0
def State.tail (s : State) (p : Nat) : Nat := s.fld (R.hgPclose p) 31 16
/-- The payback of a tick that begins now (R42). -/
def State.paybackOf (s : State) (p : Nat) : Nat := if s.stretchPolicy p then min (s.shift p) (s.tail p) else 0
/-- The nominal length of p's tick (R42). -/
def State.nominal (s : State) (p : Nat) : Nat := s.nSlot - (s.prt p).payback
/-- The close point of p's tick (R42). -/
def State.closePoint (s : State) (p : Nat) : Nat := s.nominal p - s.closeReg p
/-- p's tick as a tick of the grid: its number is taken modulo 2^48 (R31), and it never began after the grid's own. -/
def State.partTick (s : State) (p : Nat) : Nat :=
  s.grid.tick - (s.grid.tick + 2 ^ 48 - (s.prt p).tick.toNat) % 2 ^ 48
/-- The grid slot index at which slot k of p's tick lies (R37). -/
def State.partPos (s : State) (p k : Nat) : Nat := s.partTick p * s.nSlot + s.shift p + k
/-- The longest stretch of p's tick (R47). -/
def State.capOf (s : State) (p : Nat) : Nat := s.stretchMax p - (s.shift p - (s.prt p).payback)
/-- p's tick is being stretched: its nominal end has passed. -/
def State.stretching (s : State) (p : Nat) : Bool := (s.prt p).begun && decide (s.nominal p ≤ (s.prt p).slot)

/-! ## Scoreboard records (R126) -/

structure SbRec where
  type : Nat
  slot : Nat := 0
  cnum : Nat := 0
  layer : Nat := 0
  oper : Nat := 0
  expect : Nat := 0
  actual : Nat := 0
  gen : Nat := 0
  status : Nat := 0
  result : Nat := 0
  leaf : Nat := 0
  tmask : Nat := 0
  more : Nat := 0
  deriving DecidableEq, Repr

/-- The record of a cistern's entry. -/
def SbRec.of (type cnum : Nat) (e : Cistern) : SbRec :=
  { type := type, cnum := cnum, layer := e.layer.toNat, oper := e.oper.toNat, expect := e.target.toNat,
    actual := e.count.toNat, gen := e.gen.toNat, status := e.status.toNat }

/-- The 256 bits of a record of partition p. -/
def State.sbWord (s : State) (p : Nat) (r : SbRec) : Nat :=
  let x := s.prt p
  x.tick.toNat * 2 ^ 208 + x.slot % 2 ^ 16 * 2 ^ 192 + r.cnum % 2 ^ 24 * 2 ^ 168 + r.type % 256 * 2 ^ 160
    + r.layer % 2 ^ 12 * 2 ^ 148 + r.oper % 2 ^ 12 * 2 ^ 136 + r.expect % 2 ^ 20 * 2 ^ 116 + r.actual % 2 ^ 20 * 2 ^ 96
    + r.gen % 2 ^ 16 * 2 ^ 80 + r.status % 16 * 2 ^ 76 + r.result % 16 * 2 ^ 72 + r.leaf % 2 ^ 10 * 2 ^ 62
    + r.tmask % 16 * 2 ^ 58 + bit (s.smeared p || x.halted) * 2 ^ 57 + bit (s.stretching p) * 2 ^ 56
    + r.more % 2 ^ 16 * 2 ^ 40

/-- Issue the write of the oldest record that waits (R323). -/
def State.sbIssue (s : State) (p : Nat) : State :=
  match (s.prt p).sbQ with
  | [] => s
  | w :: _ =>
    s.memWr (.scoreboard p)
      (s.pair (R.hgPsbAddr p) + 32 * (s.fld (R.hgPsbProd p) 19 0 % 2 ^ s.fld (R.hgPsbSize p) 4 0)) 32 w none

/-- Write one scoreboard record of p, through the Pump's system queue. -/
def State.sb (s : State) (p : Nat) (r : SbRec) : State :=
  let n := s.fld (R.hgPsbSize p) 4 0
  let used := (s.fld (R.hgPsbProd p) 19 0 + 2 ^ 20 - s.fld (R.hgPsbCons p) 19 0) % 2 ^ 20
  if n ≠ 0 ∧ used + (s.prt p).sbQ.length < ringCap 20 n then
    let first := (s.prt p).sbQ.isEmpty
    let s := s.modPrt p (fun x => { x with sbQ := x.sbQ ++ [s.sbWord p r] })
    if first then s.sbIssue p else s
  else s.bump (R.hgPsbDrop p) 1

/-! ## Reduction modes (R164, R190) -/

structure Mode where
  rm : Nat
  len : Nat
  acc : Bool
  deriving DecidableEq, Repr

/-- The mode entry that governs a cistern with this BASIN. -/
def State.mode (s : State) (basin : Nat) : Mode :=
  let w := s.reg (R.spBmode (basin / 128))
  let h := if basin / 64 % 2 = 1 then w / 2 ^ 16 else w % 2 ^ 16
  { rm := h % 256, len := bits h 13 8 + 1, acc := h.testBit 15 }

/-- The chain basins of a cistern of p that lie in p's allocation (R87). -/
def State.chain (s : State) (p basin len : Nat) : List Nat :=
  ((List.range len).map (fun i => basin + 64 * i)).filter (s.holdsBasin p)

/-! ## The delivery pass (R172, R173) -/

/-- The fill of a basin for a generation. -/
def LaneState.fillOf (l : LaneState) (gen : BitVec 16) : Nat := if l.v && l.stamp == gen then l.fill.toNat else 0

/-- One basin of the pass, which has been read. -/
def State.deliverBasin (s : State) (m : Mode) (e : Cistern) (empty : Bool) (b : Nat) : State :=
  let l := s.lanes b
  let keep := !e.dclass && e.maskmode
  s.setBasin b (deliver m.rm m.acc keep empty (l.fillOf e.gen) (s.basin b))
    { l with v := false, e := if b = e.basin.toNat then empty else l.e }

/-- The pass over every chain basin, 4 cycles of the bank for each, and whether the generation is empty. -/
def State.deliveryPass (s : State) (p : Nat) (e : Cistern) : State × Bool :=
  let m := s.mode e.basin.toNat
  let bs := s.chain p e.basin.toNat m.len
  let s := bs.foldl (fun s b => (s.readBasin b).1) (s.cycles (4 * bs.length))
  let empty := bs.all (fun b => (s.lanes b).fillOf e.gen == 0)
  (bs.foldl (fun s b => s.deliverBasin m e empty b) s, empty)

/-! ## Remote releases (R267) -/

/-- The valid remote release entries of a source: destination and chip, in entry order. -/
def State.remotes (s : State) (p cnum : Nat) : List (Nat × Nat) :=
  (s.regs.filter (fun r => decide (0x78000 ≤ r.1 ∧ r.1 < 0x7C000) && r.1 % 16 == 0 && r.2.getLsbD 31
    && bits r.2.toNat 30 26 == p && bits r.2.toNat 23 0 == cnum)).map (fun r =>
      (s.fld (r.1 + 4) 23 0, s.fld (r.1 + 8) 11 0))

/-- The FWD frame of one chain basin (R184, R252). -/
def State.fwdFrame (s : State) (p chip dst i : Nat) (m : Mode) (e : Cistern) (b : Nat) : List Beat :=
  let l := s.lanes b
  let mask := if l.stamp = e.gen then l.fill.toNat else 0
  let v := (s.basin b).toNat
  let b0 : Beat := { btype := 4, dst := chip, beat := 0, last := false,
                     finfo := dst * 2 ^ 12 + i * 2 ^ 6 + bit m.acc * 2 ^ 5 + p, pay := v % 2 ^ 256 }
  [b0, { b0 with beat := 1, last := true, finfo := mask * 2 ^ 20 + m.rm * 2 ^ 12, pay := v / 2 ^ 256 }]

/-- Send one remote release. -/
def State.sendRemote (s : State) (p : Nat) (e : Cistern) (d : Nat × Nat) : State :=
  if e.kind = kReduce then
    let m := s.mode e.basin.toNat
    ((s.chain p e.basin.toNat m.len).zipIdx).foldl (fun s b => s.formFrame (s.fwdFrame p d.2 d.1 b.2 m e b.1)) s
  else s.formFrame [{ btype := 5, dst := d.2, finfo := d.1 * 2 ^ 12 + p }]

/-! ## Dumps (R371) -/

/-- The armed dump that a release of p triggers: the one armed first. -/
def State.dumpMatch (s : State) (p layer oper : Nat) : Option (Nat × Dump) :=
  let ok := fun (e : Nat × Option Dump) => match e.2 with
    | some x => if x.armed && x.part == p && x.f 6 2 == layer && x.f 8 2 == oper
          && (x.f 0x30 6 == 2 ^ 48 - 1 || x.f 0x30 6 == (s.prt p).tick.toNat) then some (e.1, x) else none
    | none => none
  (s.obs.dumps.filterMap ok).foldl (fun a d => match a with
    | some b => if d.2.order < b.2.order then some d else some b
    | none => some d) none

/-- Trigger it, and say whether the release waits for its reads (HOLD). -/
def State.dumpTrigger (s : State) (p cnum : Nat) (e : Cistern) : State × Option Nat :=
  match s.dumpMatch p e.layer.toNat e.oper.toNat with
  | none => (s, none)
  | some (d, x) =>
    let x := { x with armed := false, tick := (s.prt p).tick.toNat, tb := s.now, cnum := cnum, gen := e.gen.toNat,
                      status := e.status.toNat }
    ({ s with obs := { s.obs with dumps := tset none s.obs.dumps d (some x) } }, if x.hold then some d else none)

/-! ## Completion (R63, R67) -/

/-- The notice of a release, with its dump. Root completions that wait for a context wait in the same queue of 1,024 notices, and NQ
counts them: R121 does not say (DESIGN CHOICE: assumption 78). -/
def State.notify (s : State) (p cnum : Nat) (e : Cistern) (empty : Bool)
    (root : Option (List (Nat × Nat)) := none) (payload : Payload := 0) (tag : Nat × Nat := (0, 0)) : State :=
  let d := s.dumpTrigger p cnum e
  let n : Notice := { cnum := cnum, gen := e.gen.toNat, part := p, rlist := e.rlist.toNat, status := e.status.toNat,
                      reduce := e.kind == kReduce, basin := e.basin.toNat, empty := empty, payload := payload,
                      root := root, layer := tag.1, oper := tag.2, dump := d.2 }
  { d.1 with pipe := { d.1.pipe with notices := d.1.pipe.notices ++ [n] } }

/-- What DONE sends to other dies: remote releases, and the contribution to a fabric channel, which `settle` makes. -/
def State.doneAbroad (s : State) (p cnum : Nat) (e : Cistern) : State :=
  let s := (s.remotes p cnum).foldl (fun s d => s.sendRemote p e d) s
  { s with cul := { s.cul with done := s.cul.done ++ [(p, cnum)] } }

/-- A cistern enters DONE, LATE or FAULT with a release: the entry `e` is written with its new status, a REDUCE cistern
runs its delivery pass, a CREDIT cistern stops granting, and the notice follows. -/
def State.enter (s : State) (p slot cnum : Nat) (e : Cistern) (status : BitVec 4)
    (root : Option (List (Nat × Nat)) := none) (payload : Payload := 0) (tag : Nat × Nat := (0, 0)) : State :=
  let e := { e with status := status }
  let s := s.setEntry slot e
  let s := if e.kind = kCredit then s.grantLeave p cnum else s
  let s := s.trace { evt := 0x09, part := p, cnum := cnum, layer := e.layer.toNat, oper := e.oper.toNat,
                     arg := status.toNat }
  let d := if e.kind = kReduce then s.deliveryPass p e else (s, false)
  let s := d.1.notify p cnum e d.2 root payload tag
  if status = stDone then s.doneAbroad p cnum e else s

/-- The completion condition of R61 and R69. -/
def Cistern.met (e : Cistern) : Bool :=
  if e.kind = kCount then e.basin == 0 && e.count == e.target
  else if e.kind = kCredit then false
  else decide (e.target.toNat ≤ e.count.toNat)

/-! ## The work of a tick (R39) -/

/-- A cistern of p is still ARMED in the generation named. -/
def State.stillArmed (s : State) (p cnum gen : Nat) : Bool :=
  match s.slotOf p cnum with
  | some n => let e := s.entry n; e.status == stArmed && e.gen.toNat == gen && e.part.toNat == p
  | none => false

/-- Rows of tick program i. -/
def Table.rowsOf (t : Table) (i : Nat) : Nat := (t.index.getD i (0, 0)).2

/-- A schedule row of the current tick remains: staged, being read, or not reached by the staging cursor. -/
def State.rowsLeft (s : State) (p : Nat) : Bool :=
  let x := s.prt p
  let n := x.tick.toNat
  match x.tbl with
  | none => false
  | some (t, n0) =>
    x.staged.any (fun r => r.tick == n) || x.reads.any (fun r => r.1 == n) || decide (x.stTick < n)
      || (x.stTick == n && decide (x.stIdx < t.rowsOf ((n - n0) % t.ntick)))

/-- The work of p's tick is complete on this die. -/
def State.workDone (s : State) (p : Nat) : Bool :=
  let x := s.prt p
  x.dl.all (fun c => !s.stillArmed p c.1 c.2)
    && !s.pipe.notices.any (fun n => n.part == p && x.dl.contains (n.cnum, n.gen))
    && !s.pipe.ctxs.any (fun c => c.note.part == p && x.dl.contains (c.note.cnum, c.note.gen))
    && !s.rowsLeft p

end Sys2Proof.Machine
end

