-- ==== Sys2Proof/Machine/Root.lean ====
section
/-! DEFINITION. The root of the Standpipe: bindings in force, bind samples (R115, R181), side counts (R116), root
completions (R117, R142, R183), the residual write and the end of a binding (R118, R141), and a fence (R142). -/

namespace Sys2Proof.Machine

/-! ## Banks and the work that waits for them (R57, R77, R121, R276) -/

/-- The bank of a cistern of p (R57): a spilled one lies in the bank of its frame (R93). -/
def State.cisternBank (s : State) (p cnum : Nat) : Nat :=
  if cnum < 0x200000 then cnum % 64 else (cnum + 64 - s.spillFirst p % 64) % 64

/-- The bank of an operation (R57). -/
def State.opBank (s : State) (o : BankOp) : Nat :=
  if o.space = 0 then s.cisternBank (o.part.getD 0) o.index
  else if o.space = 1 then o.basin % 64
  else o.well % 64

/-- The bank that work is for. -/
def State.workBank (s : State) : BankWork → Nat
  | .op o => s.opBank o
  | .root b => s.cisternBank b.part b.cnum
  | .residual b => s.cisternBank b.part b.cnum
  | .mark p c _ _ => s.cisternBank p c
  | .released p c _ _ => s.cisternBank p c
  | .pay b _ => s.cisternBank b.part b.cnum
  | .sample _ p c => s.cisternBank p c
  | .polls c l => match l with
    | o :: _ => s.opBank o
    | [] => c % 64

/-- Work waits at bank k, and the bank issues nothing else (R121). -/
def State.bankHeld (s : State) (k : Nat) : Bool := s.cst.hold.any (fun w => s.workBank w == k)

/-- Blocks in the snapshot buffers of bank k (R276). -/
def State.bufBlocks (s : State) (k : Nat) : Nat :=
  (s.parts.map (fun e => match e.2.snap with
    | some n => n.buf.countP (fun b => b.1 == k)
    | none => 0)).sum

/-- Work that takes the block from `s` to `t` does not fit: it puts a notice into a full queue (R121), or a block into a full
snapshot buffer of its bank (R276). -/
def State.bankOver (s t : State) (k : Nat) : Bool :=
  (decide (1024 < t.pipe.notices.length) && decide (s.pipe.notices.length < t.pipe.notices.length))
    || (decide (8 < t.bufBlocks k) && decide (0 < s.bufBlocks k) && decide (s.bufBlocks k < t.bufBlocks k))

/-- The issue cycles of work at its bank that no answer counts (R78, R182). -/
def workCycles : BankWork → Nat
  | .op _ => 0
  | .polls .. => 0
  | .root _ => 1
  | .residual _ => 1
  | .mark .. => 1
  | .released .. => 1
  | .pay .. => 4
  | .sample .. => 1

/-- Do work `w`, which is `f`, or hold it at its bank until it fits, in the order of issue (R77, R121, R276). -/
def State.tryBank (s : State) (w : BankWork) (f : State → State) : State :=
  let k := s.workBank w
  let held := { s with cst := { s.cst with hold := s.cst.hold ++ [w] } }
  if s.bankHeld k then held
  else
    let t := f (s.cycles (workCycles w))
    if s.bankOver t k then held else t

/-! ## Bindings in force -/

def State.act (s : State) (ch : Nat) : Option Bind := tget none s.pipe.act ch
def State.setAct (s : State) (ch : Nat) (b : Option Bind) : State :=
  { s with pipe := { s.pipe with act := tset none s.pipe.act ch b } }
def State.modAct (s : State) (ch : Nat) (f : Bind → Bind) : State :=
  match s.act ch with
  | some b => s.setAct ch (some (f b))
  | none => s

/-- The binding in force that holds a cistern with its bound tag set (R115, R116). -/
def State.tagged (s : State) (p cnum : Nat) : Option Nat :=
  (List.range 18).find? (fun ch => match s.act ch with
    | some b => b.part == p && b.cnum == cnum && b.tag
    | none => false)

/-- COUNT never wraps (R454). -/
def sat20 (n : Nat) : BitVec 20 := BitVec.ofNat 20 (min n 1048575)

def Cistern.add (e : Cistern) (n : Nat) : Cistern := { e with count := sat20 (e.count.toNat + n) }

/-- A cistern of COUNT kind has a surplus (R70). -/
def Cistern.surplus (e : Cistern) : Bool := e.kind == kCount && e.basin == 0 && decide (e.target.toNat < e.count.toNat)

/-- A cistern goes to FAULT with a fault entry DESC_FORMAT and its release (R70). -/
def State.descFault (s : State) (p slot cnum : Nat) (e : Cistern) : State :=
  (s.fault p { code := Fc.descFormat, cnum := cnum, layer := e.layer.toNat, oper := e.oper.toNat, unit := 3 }).enter
    p slot cnum e stFault

/-! ## Root completion (R117, R183) -/

/-- The channel delivers in zero mode (R183): MASKMODE has no effect in DATA class. -/
def Bind.zeroMode (b : Bind) : Bool := !b.maskmode || rmFloat b.rmode

/-- The root releases down its own masks (R117, R119, R183). -/
def Bind.rootReleases (b : Bind) : Bool :=
  match b.sample with
  | none => false
  | some m => m.rlist == b.plist && !b.partialDrop
      && (decide (b.chan < 16) || (m.count == 0 && b.side == 0 && b.zeroMode))

/-- The payload of the root's release: the combined token of CHAIN 0 in delivered form (R183). -/
def State.rootPayload (s : State) (b : Bind) (basin : Nat) : Payload :=
  if b.chan < 16 then 0
  else
    let t := b.tok0.getD (0, 0)
    deliver b.rmode (s.mode basin).acc false b.allNull t.1 t.2

/-- The root's own release without a change of the cistern, which had left ARMED (R117). -/
def State.rootOnly (s : State) (b : Bind) (e : Cistern) : State :=
  if b.rootReleases then
    s.notify b.part b.cnum { e with status := stDone, gen := BitVec.ofNat 16 b.gen } b.allNull (some b.leaves)
      (s.rootPayload b e.basin.toNat) (b.layer, b.oper)
  else s

/-! ## Marking (R41, R44, R273) -/

/-- A cistern of the generation that is still ARMED takes a status with its release. -/
def State.markWrite (s : State) (p cnum gen : Nat) (status : BitVec 4) : State :=
  if s.stillArmed p cnum gen then
    match s.slotOf p cnum with
    | some n =>
      let q := s.readEntry p n cnum
      if q.2 then q.1.enter p n cnum (q.1.entry n) status else q.1
    | none => s
  else s

/-- The same, at the cistern's bank. -/
def State.mark (s : State) (p cnum gen : Nat) (status : BitVec 4) : State :=
  s.tryBank (.mark p cnum gen status) (fun s => s.markWrite p cnum gen status)

/-- A cistern that is DONE with the generation released takes a status without a release: IDLE once every target has
acknowledged (R124), LATE where its release is late (R125). -/
def State.releasedWrite (s : State) (p cnum gen : Nat) (status : BitVec 4) : State :=
  match s.slotOf p cnum with
  | none => s
  | some n =>
    let q := s.readEntry p n cnum
    let e := q.1.entry n
    if q.2 && e.status == stDone && e.gen.toNat == gen then q.1.setEntry n { e with status := status } else q.1

/-- The same, at the cistern's bank. -/
def State.released (s : State) (p cnum gen : Nat) (status : BitVec 4) : State :=
  s.tryBank (.released p cnum gen status) (fun s => s.releasedWrite p cnum gen status)

/-- The cistern's entry is poisoned. -/
def State.poisoned (s : State) (p cnum : Nat) : Bool :=
  match s.slotOf p cnum with
  | some n => tget false s.cst.bad n
  | none => false

/-- One cistern of an outcome goes LATE where it is still ARMED, and counts (R44). -/
def State.lateStep (s : State) (p : Nat) (c : Nat × Nat) : State × Nat :=
  if s.stillArmed p c.1 c.2 then
    let t := s.mark p c.1 c.2 stLate
    (t, if t.poisoned p c.1 then 0 else 1)
  else (s, 0)

/-- Something of p happens in the tick `t` (R37), and p's own tick stands again afterwards. -/
def State.inTick (s : State) (p : Nat) (t : BitVec 48) (f : State → State) : State :=
  let own := (s.prt p).tick
  (f (s.modPrt p (fun x => { x with tick := t }))).modPrt p (fun x => { x with tick := own })

/-- Work that follows a boundary reaches a cistern that the outcome of the boundary waits for: the outcome comes first
(R41). -/
def State.closeOne (s : State) (p cnum : Nat) : State :=
  match (s.prt p).closing with
  | none => s
  | some c =>
    match c.dl.find? (fun e => e.1 == cnum) with
    | none => s
    | some e =>
      let n := (s.lateStep p e).2
      let s := s.modPrt p (fun x => { x with
        closing := some { c with dl := c.dl.filter (fun e => e.1 != cnum), late := c.late + n } })
      s.inTick p c.tick (fun s => (s.lateStep p e).1)

/-- The outcome that waits for the kclk cycle after its boundary is applied: its cisterns go LATE, and TICK_OVERRUN gives their
number (R41, R44). -/
def State.closeFlush (s : State) (p : Nat) : State :=
  match (s.prt p).closing with
  | none => s
  | some c =>
    (s.modPrt p (fun x => { x with closing := none })).inTick p c.tick (fun s =>
      let r := c.dl.foldl (fun (r : State × Nat) e =>
        let t := r.1.lateStep p e
        (t.1, r.2 + t.2)) (s, c.late)
      r.1.fault p { code := Fc.tickOverrun, n1 := r.2, unit := 5 })

/-! ## The writes of the root (R117, R118) -/

/-- The bank write of a root completion (R117), with the release of the root. -/
def State.rootWrite (s : State) (b : Bind) : State :=
  let s := s.closeOne b.part b.cnum
  match s.slotOf b.part b.cnum with
  | none => s
  | some n =>
    let r := s.readEntry b.part n b.cnum
    let e := r.1.entry n
    if !r.2 then r.1.rootOnly b e
    else if e.status = stArmed ∧ e.gen.toNat = b.gen then
      if b.rootReleases then
        r.1.enter b.part n b.cnum (e.add b.static) stDone (some b.leaves) (r.1.rootPayload b e.basin.toNat)
          (b.layer, b.oper)
      else r.1.enter b.part n b.cnum (e.add b.static) stDone
    else
      let s := if e.status = stLate ∨ e.status = stFault then r.1.setEntry n (e.add b.static) else r.1
      s.rootOnly b e

/-- A root completion (R117): the static count is written, and from then on the channel counts beyond completion. -/
def State.rootComplete (s : State) (b : Bind) : State :=
  (s.setAct b.chan (some { b with mode := .excess, static := 0, side := 0, tag := false })).tryBank (.root b)
    (fun s => s.rootWrite b)

/-- The completion test of a channel in normal mode (R142). -/
def State.rootTest (s : State) (ch : Nat) : State :=
  match s.act ch with
  | none => s
  | some b => if b.mode = .normal ∧ b.target ≤ b.static + b.side then s.rootComplete b else s

/-- A side count reaches the root (R116). -/
def State.sideCount (s : State) (ch n : Nat) : State :=
  (s.modAct ch (fun b => { b with side := b.side + n })).rootTest ch

/-- The operation that a tap's arrival or a token brings to the root: its count, in the channel's mode (R115). -/
def State.rootCount (s : State) (ch n : Nat) : State :=
  (s.modAct ch (fun b => if b.mode = .void then { b with dropped := b.dropped + n }
                         else { b with static := b.static + n })).rootTest ch

/-! ## Bind samples (R115, R181) -/

/-- The RMODE, CLEN_M1 or MASKMODE of a payload binding's sample differs from what the shadow load carried (R181). -/
def Bind.modeMiss (b : Bind) (m : Sample) : Bool :=
  decide (16 ≤ b.chan) && m.ok && m.kind == 5
    && !(m.rmode == b.rmode && m.clen == b.clen && m.maskmode == b.maskmode)

/-- The mode that the table of R115 gives, with the record type of a void channel; a channel whose mode has changed is void
whatever the STATUS (R181). -/
def Bind.judge (b : Bind) (m : Sample) : RootMode × Option Nat :=
  if !m.ok then (.void, some 0x05)
  else if b.modeMiss m then (.void, some 0x06)
  else if m.status = 1 then
    if 16 ≤ b.chan then (if m.kind = 5 then (.normal, none) else (.void, some 0x06))
    else if m.kind = 1 ∨ m.kind = 4 then (.normal, none) else (.void, some 0x06)
  else if m.status = 3 ∨ m.status = 4 then (.countOnly, none)
  else if m.status = 2 then (.excess, none)
  else (.void, some 0x05)

/-- What a bind sample reads in an entry (R115, R181). -/
def State.sampleOf (s : State) (ok : Bool) (e : Cistern) : Sample :=
  let m := s.mode e.basin.toNat
  { ok := ok, status := e.status.toNat, kind := e.kind.toNat, count := e.count.toNat, target := e.target.toNat,
    gen := e.gen.toNat, rlist := e.rlist.toNat, rmode := m.rm, clen := m.len, maskmode := e.maskmode }

/-- The bind sample of a channel at its bank (R115, R181): from here on the bound tag is set. -/
def State.bindSample (s : State) (ch p cnum : Nat) : State :=
  let s := s.closeOne p cnum
  match s.act ch, s.slotOf p cnum with
  | some b, some n =>
    if b.part = p ∧ b.cnum = cnum ∧ b.sample.isNone then
      let r := s.readEntry p n cnum
      r.1.setAct ch (some { b with tag := true, sample := some (r.1.sampleOf r.2 (r.1.entry n)) })
    else s
  | _, _ => s

/-- A bind sample returns to the root. -/
def State.sampleReturn (s : State) (ch : Nat) : State :=
  match s.act ch with
  | none => s
  | some b =>
    match b.mode, b.sample with
    | .wait, some m =>
      let j := b.judge m
      let s := if b.modeMiss m then s.bump R.spRmodeMissCnt 1 else s
      let b := { b with mode := j.1, record := j.2, target := m.target - m.count, gen := m.gen }
      let b := if j.1 = .void then { b with dropped := b.dropped + b.static, static := 0 } else b
      (s.setAct ch (some b)).rootTest ch
    | _, _ => s

/-! ## The end of a binding (R118, R141) -/

/-- The completion test that the residual write runs, and the surplus of R70. -/
def State.residualTest (s : State) (p n cnum : Nat) (e : Cistern) : State :=
  if e.surplus then s.descFault p n cnum e
  else if e.met then s.enter p n cnum e stDone
  else s.setEntry n e

/-- The residual write at the bank (R118). A sample that never reached the bank is read with it. -/
def State.residualWrite (s : State) (b : Bind) : State :=
  let s := s.closeOne b.part b.cnum
  match s.slotOf b.part b.cnum with
  | none => s
  | some n =>
    let r := s.readEntry b.part n b.cnum
    let e := r.1.entry n
    let b := if b.sample.isNone then { b with mode := (b.judge (r.1.sampleOf r.2 e)).1, gen := e.gen.toNat } else b
    if !r.2 then r.1
    else if e.status = stArmed then
      r.1.residualTest b.part n b.cnum (if b.mode = .normal ∧ e.gen.toNat = b.gen then e.add b.static else e)
    else if e.status = stLate ∨ e.status = stFault then r.1.setEntry n (e.add b.static)
    else if e.status = stDone ∧ b.mode = .excess ∧ e.gen.toNat = b.gen ∧ e.kind ≠ kEvent ∧ e.kind ≠ kCount then
      r.1.setEntry n (e.add b.static)
    else r.1

/-- The root's residual count goes to the bank (R118). -/
def State.residual (s : State) (b : Bind) : State := s.tryBank (.residual b) (fun s => s.residualWrite b)

/-- Held tokens of a payload channel are discarded, counted and recorded (R141). -/
def State.discardTokens (s : State) (ch : Nat) : State :=
  let n := (s.pipe.tokens.filter (fun t => t.chan == ch)).foldl (fun a t => a + t.ncont) 0
  if n = 0 then s
  else (({ s with pipe := { s.pipe with tokens := s.pipe.tokens.filter (fun t => t.chan != ch) } } : State).bump
      R.spPdiscCnt n).ao { type := 0x08, unit := 7, info := n }

/-- The record of a void channel at unbind (R115). -/
def State.voidRecord (s : State) (b : Bind) : State :=
  match b.record, b.sample with
  | some t, some m =>
    s.sb b.part { type := t, cnum := b.cnum, layer := b.layer, oper := b.oper, expect := m.target, actual := b.dropped,
                  gen := m.gen, status := if m.ok then m.status else 4 }
  | _, _ => s

/-- A binding ends: its sample returns if it has not, its counts are written, and its tokens are discarded. -/
def State.unbind (s : State) (ch : Nat) (write : Bool := true) : State :=
  let s := s.sampleReturn ch
  match s.act ch with
  | none => s
  | some b =>
    let s := (s.setAct ch none).discardTokens ch
    if write then (s.residual b).voidRecord b else s

/-- A FENCE of a bound cistern reaches the root (R142): void, one FENCED_NAK down the masks, F set in its leaves. -/
def State.sideFence (s : State) (ch : Nat) : State :=
  match s.act ch with
  | none => s
  | some b =>
    let s := s.setAct ch (some { b with
      mode := .void, dropped := b.dropped + b.static, static := 0, side := 0, fset := b.leaves.map (·.1) })
    b.leaves.foldl (fun s l => (maskTaps l.1 l.2).foldl (fun s t => s.serveNak t b.cnum b.part b.layer b.oper) s) s

end Sys2Proof.Machine
end

