-- ==== Sys2Proof/Machine/Bank.lean ====
section
/-! DEFINITION. The Bank Atomic Units on cisterns and basins (R61 to R88), the accounting and delivery of answers
(R82, R305, R352, R381), and the credit effects of arrivals and returns (R195, R196, R200, R208). -/

namespace Sys2Proof.Machine

/-! ## Requesters -/

/-- A refusal under RIGHTS is an event of the requester's partition (R75, R223). -/
def State.rightsEvent (s : State) (part : Option Nat) (master index unit : Nat) : State :=
  match part with
  | some p => s.event p { code := Fc.rights, master := master, unit := unit, info := index }
  | none => s

/-- The 25-bit OWNER that names a master of a chip (R218, R219). -/
def ownerOf (chip master : Nat) : Nat := chip % 4096 * 2 ^ 13 + master % 2 ^ 13

/-- OWNER of a well word (R218). -/
def wellOwner (w : W64) : Nat := w.toNat / 2 ^ 39
/-- The OWNER that means no owner. -/
def ownerFree : Nat := 0x1FFFFFF
/-- ABANDONED of a well word. -/
def wellAband (w : W64) : Bool := w.getLsbD 38
/-- A well word from its fields; bits [37:32] are 0. -/
def wellWord (owner : Nat) (aband : Bool) (count : Nat) : W64 :=
  BitVec.ofNat 64 (owner % 2 ^ 25 * 2 ^ 39 + bit aband * 2 ^ 38 + count % 2 ^ 32)

/-! ## Accounting (R352, R355, R381) -/

/-- The event of R352 that an operation counts; 0 for none. -/
def BankOp.evt (o : BankOp) : Nat :=
  if o.space = 0 then
    if o.opc = Op.arrive ∨ o.opc = Op.arriveN then 0x08
    else if o.opc = Op.postCount then 0x09
    else if o.opc = Op.reduceInto then 0x0A
    else if o.opc = Op.creditReturn then 0x1D
    else if o.opc = Op.arm then 0x10 else 0
  else if o.opc = Op.semAdd then 0x0D
  else if o.space = 2 ∧ o.opc ≠ Op.read then 0x0E
  else 0x0F

/-- The lane mask of a REDUCE_INTO (R72). -/
def BankOp.mask (o : BankOp) : Nat := bits o.a.toNat 23 8

/-- What the trace calls the object: cistern, basin or well (R355). -/
def BankOp.object (o : BankOp) : Nat := if o.space = 0 then o.index else bits o.index 23 8

/-- The issue cycles of an operation at its bank (R78). -/
def State.bankCycle (s : State) (o : BankOp) : State :=
  s.count { evt := 0x33, n := if o.space == 0 && o.opc == Op.reduceInto then 5 else 1 }

/-- What an operation adds to counters, usage and trace once the bank has answered it. -/
def State.bill (s : State) (o : BankOp) (r : BankRsp) (applied : Bool) (e : Cistern := {}) (rm : Nat := 0) : State :=
  let issued := !(r.result == Res.rights || r.result == Res.badOp || r.result == Res.spillTimeout)
  let reduce := o.space == 0 && o.opc == Op.reduceInto
  let s := if o.evt ≠ 0 ∧ (applied || (issued && 0x0D ≤ o.evt && o.evt ≤ 0x10)) then
      s.count { evt := o.evt, part := o.part, fmt := rmIfmt rm, lanes := popcount 16 o.mask } else s
  let s := if r.result == Res.ok || r.result == Res.completed || r.result == Res.late || r.result == Res.failed then s
    else s.count { evt := 0x11, part := o.part }
  match o.part with
  | none => s
  | some p =>
    let s := if issued then s.usage p .ops 1 else s
    let s := if (issued || r.result == Res.rights) && reduce then s.usage p .lanes (popcount 16 o.mask) else s
    if applied then
      s.trace { evt := 0x08, part := p, cnum := o.object, layer := e.layer.toNat, oper := e.oper.toNat,
                src := o.master, arg := r.result }
    else s

/-! ## Delivery of answers (R82, R268, R305, R331) -/

/-- An operation on a well that the DQU issues for function f (R305). -/
def State.dquWell (s : State) (f : Nat) (c : Cmd) (opc : Nat) (a b : W64) : BankOp :=
  { opc := opc, space := 2, index := c.well * 256, gen := 0, a := a, b := b, pay := 0, part := some (s.cmdPart f c),
    master := 0x1000 + f, origin := .dqu f c.cidx, func0 := f == 0 }

/-- Change the phase of a command in flight. -/
def State.setPhase (s : State) (f : Nat) (c : Cmd) (ph : Phase) : State :=
  s.modFn f (fun x => { x with flight := x.flight.map (fun i => if i.cmd = c then { i with phase := ph } else i) })

/-- The second operation of a LOCK after its READ (R305): it follows in the same step. -/
def State.lockCasNext (s : State) (f : Nat) (c : Cmd) (old new : W64) : State :=
  let s := s.setPhase f c (.lockCas old)
  { s with cst := { s.cst with next := s.cst.next ++ [s.dquWell f c Op.cas old new] } }

/-- The DQU refuses a RELEASE or CLRAB by a function that does not own the well (R305). -/
def State.lockRefuse (s : State) (f : Nat) (c : Cmd) (r : BankRsp) : State :=
  (s.rightsEvent (some (s.cmdPart f c)) (0x1000 + f) (c.well * 256) 1).complete f c
    { cstat := 1, fcode := Fc.rights, result := Res.rights, data := r.data.toNat }

/-- The READ of a CLAIM, RELEASE or CLRAB is answered (R305). -/
def State.lockRead (s : State) (f : Nat) (c : Cmd) (r : BankRsp) : State :=
  let me := ownerOf s.chip (0x1000 + f)
  let w := r.data
  let cnt := w.toNat % 2 ^ 32
  if r.result ≠ Res.ok then s.complete f c r.cpl
  else if c.sub = 2 then
    if wellOwner w = ownerFree then s.lockCasNext f c w (wellWord me (wellAband w) cnt) else s.complete f c r.cpl
  else if wellOwner w ≠ me then s.lockRefuse f c r
  else if c.sub = 3 then s.lockCasNext f c w (wellWord ownerFree false cnt)
  else s.lockCasNext f c w (wellWord me false cnt)

/-- An answer to the DQU (R303 to R306, R310). -/
def State.dquReply (s : State) (f cidx : Nat) (r : BankRsp) : State :=
  match (s.fn f).findFlight cidx with
  | some i =>
    (match i.phase with
      | .lockRead => s.lockRead f i.cmd r
      | .lockCas _ => s.complete f i.cmd { r.cpl with held := i.cmd.sub == 2 && r.result == Res.ok }
      | _ => s.complete f i.cmd r.cpl)
  | none => s.dquAnswer f cidx r

/-- A forward or remote arrival was refused: the RESULT goes back with TAG 0 (R268). -/
def fwdRefused (r : BankRsp) : Bool := !(r.result == Res.ok || r.result == Res.completed || r.result == Res.late)

/-- The answer goes to who asked. -/
def State.deliver (s : State) (o : BankOp) (r : BankRsp) : State :=
  match o.origin with
  | .none => s
  | .cnp a t d resp => if resp then s.emit (.cnp a d (r.flit t)) else s
  | .dqu f cidx => s.dquReply f cidx r
  | .pump c => s.modChan c (fun x => { x with opRsp := some r, opOut := false })
  | .cul chip tag resp => if resp then s.formFrame (ctrlRspFrame chip o.master (r.flit tag)) else s
  | .fwd chip => if fwdRefused r then s.formFrame (refusalFrame chip (o.part.getD 0) r) else s
  | .fabric => s

/-- An operation is refused before it comes to a bank (R352). -/
def State.refuseOp (s : State) (o : BankOp) (r : BankRsp) : State := (s.bill o r false).deliver o r

/-- The bank answers an operation. -/
def State.answer (s : State) (o : BankOp) (r : BankRsp) (applied : Bool) (e : Cistern := {}) (rm : Nat := 0) : State :=
  ((s.bankCycle o).bill o r applied e rm).deliver o r

/-- The answer of an operation on the entry `e`. -/
def Cistern.rsp (e : Cistern) (result : Nat) (data : W64 := 0) (empty : Bool := false) : BankRsp :=
  { result := result, status := e.status.toNat, gen := e.gen.toNat, count := e.count.toNat, empty := empty, data := data }

/-! ## The state outcomes (R61 to R71) -/

/-- What an operation on an entry gives: the state, the answer, and whether it was applied. -/
structure Ans where
  s : State
  r : BankRsp
  applied : Bool := false

/-- A kind accepts an arrival operation (R61). -/
def kindTakes (k : BitVec 4) (opc : Nat) : Bool :=
  if opc = Op.arrive ∨ opc = Op.arriveN then k != kReduce
  else if opc = Op.postCount then k == kCount
  else if opc = Op.creditReturn then k == kCredit
  else k == kReduce

/-- How many arrivals an operation brings (R72). -/
def BankOp.n (o : BankOp) : Nat :=
  if o.opc = Op.arrive ∨ o.opc = Op.reduceInto then 1 else bits o.a.toNat 19 0

/-- Write an ARMED entry after an operation that added `n`, run the completion test, or send a side count while the
bound tag is set (R66, R69, R70, R116). On a surplus COUNT and TARGET keep what they held before the operation: R70 says so, and
its worked example shows otherwise (DESIGN CHOICE: R70, assumption 67). The surplus of a bound cistern is tested with its
completion, at the residual write (DESIGN CHOICE: R116 names the completion test alone, assumption 67). -/
def State.applied (s : State) (p slot cnum : Nat) (tag : Option Nat) (e0 e : Cistern) (n : Nat) : Ans :=
  match tag with
  | some ch =>
    let s := s.setEntry slot e
    ⟨if n = 0 then s else s.sideCount ch n, e.rsp Res.ok, true⟩
  | none =>
    if e.surplus then
      let s := s.descFault p slot cnum { e with count := e0.count, target := e0.target }
      ⟨s, (s.entry slot).rsp Res.ok, true⟩
    else if e.met then
      let s := s.enter p slot cnum e stDone
      ⟨s, (s.entry slot).rsp Res.completed, true⟩
    else ⟨s.setEntry slot e, e.rsp Res.ok, true⟩

/-- A CREDIT edge exceeds its bound (R195, R208). -/
def State.creditBound (s : State) (p cnum : Nat) (e : Cistern) : State :=
  let rec0 : FaultRec := { code := Fc.creditBound, cnum := cnum, layer := e.layer.toNat, oper := e.oper.toNat,
                           n1 := e.count.toNat, n2 := e.target.toNat, unit := 5 }
  match s.grantIdx p cnum with
  | none => s.event p rec0
  | some g =>
    if (s.grant g).state = 2 then s
    else
      let s := s.grantStop g
      (s.setGrant g { s.grant g with state := 2 }).fault p rec0

/-- ARRIVE or ARRIVE_N on an ARMED cistern. -/
def State.arriveArmed (s : State) (p slot cnum : Nat) (tag : Option Nat) (e : Cistern) (n : Nat) : Ans :=
  let c := e.count.toNat + n
  if e.kind = kCredit then
    if 1048575 < c then ⟨s.creditBound p cnum e, e.rsp Res.excess, false⟩
    else
      let e' := e.add n
      let s := s.setEntry slot e'
      if e.target.toNat < c then ⟨s.creditBound p cnum e', e'.rsp Res.excess, true⟩ else ⟨s, e'.rsp Res.ok, true⟩
  else if e.kind = kCount ∧ 1048575 < c then
    let s := s.descFault p slot cnum e
    ⟨s, (s.entry slot).rsp Res.ok, true⟩
  else s.applied p slot cnum tag e (e.add n) n

/-- POST_COUNT on a cistern that is ARMED, LATE or FAULT (R66, R69 to R71). -/
def State.postCount (s : State) (p slot cnum : Nat) (tag : Option Nat) (e : Cistern) (n : Nat) : Ans :=
  let late := e.status != stArmed
  if e.basin = 0 then ⟨s, e.rsp Res.excess, false⟩
  else
    let big := decide (1048575 < e.target.toNat + n)
    let e' := { e with basin := e.basin - 1, target := if big then e.target else e.target + BitVec.ofNat 20 n }
    if late then ⟨s.setEntry slot e', e'.rsp Res.late, true⟩
    else if big then
      let s := s.descFault p slot cnum e'
      ⟨s, (s.entry slot).rsp Res.ok, true⟩
    else s.applied p slot cnum tag e e' 0

/-- Credits come back to a grant entry (R200). What OWED becomes above 20 bits is not given: a free value (DESIGN CHOICE:
assumption 52). -/
def State.owe (s : State) (g n : Nat) : State :=
  let o := (s.grant g).owed.toNat + n
  if o < 2 ^ 20 then s.setGrant g { s.grant g with owed := BitVec.ofNat 20 o }
  else s.nextFree.setGrant g { s.grant g with owed := BitVec.ofNat 20 s.free }

/-- CREDIT_RETURN (R62, R196, R200). -/
def State.creditReturn (s : State) (p slot cnum : Nat) (e : Cistern) (n : Nat) : Ans :=
  if e.count.toNat < n then ⟨s.bump (R.hgPcredRxsCnt p) 1, e.rsp Res.excess, false⟩
  else
    let e' := { e with count := e.count - BitVec.ofNat 20 n }
    let s := s.setEntry slot e'
    let s := match s.grantIdx p cnum with
      | some g => if e.status = stArmed ∧ (s.grant g).state = 1 then s.owe g n else s
      | none => s
    ⟨s, e'.rsp (if e.status = stLate ∨ e.status = stFault then Res.late else Res.ok), true⟩

/-! ## REDUCE_INTO (R166 to R168, R177, R184) -/

/-- The operation is a forward (R184). -/
def BankOp.fwd (o : BankOp) : Bool := match o.origin with | .fwd _ => true | _ => false
/-- The forward carries accumulator form. -/
def BankOp.accForm (o : BankOp) : Bool := o.fwd && o.b.getLsbD 0
/-- The RMODE that a REDUCE_INTO carries. -/
def BankOp.rm (o : BankOp) : Nat := bits o.a.toNat 31 24

/-- The RMODE carried agrees with the governing one. -/
def BankOp.modeOk (o : BankOp) (m : Mode) : Bool :=
  if o.accForm then rmOp o.rm == rmOp m.rm && rmFloat o.rm == rmFloat m.rm else o.rm == m.rm

/-- The refusal of a REDUCE_INTO by its own checks: KIND or RANGE. -/
def State.reduceCheck (s : State) (p : Nat) (e : Cistern) (o : BankOp) : Option Nat :=
  let m := s.mode e.basin.toNat
  let i := bits o.a.toNat 5 0
  if e.basin = 0xFFFF then some Res.kind
  else if !o.modeOk m then some Res.kind
  else if m.len ≤ i ∨ !s.holdsBasin p (e.basin.toNat + 64 * i) then some Res.range
  else none

/-- A contribution in accumulator form enters a basin (R168). -/
def State.contribute (s : State) (rm : Nat) (gen : BitVec 16) (b mask : Nat) (x : Payload) : State :=
  let l := s.lanes b
  let fresh := !l.v || l.stamp != gen
  let r := accumulate rm (if fresh then 0 else l.fill.toNat) (s.basin b) mask x
  s.setBasin b r.2 { fill := BitVec.ofNat 16 r.1, stamp := gen, v := true, e := l.e && !fresh, bad := l.bad }

/-- REDUCE_INTO on an ARMED cistern. -/
def State.reduceArmed (s : State) (p slot cnum : Nat) (tag : Option Nat) (e : Cistern) (o : BankOp) : Ans :=
  let m := s.mode e.basin.toNat
  let b := e.basin.toNat + 64 * bits o.a.toNat 5 0
  let r := s.readBasin b
  if !r.2 then ⟨r.1, e.rsp Res.uncorrectable, false⟩
  else
    let mask := effMask m.rm o.mask
    let x := if o.accForm then o.pay else widen m.rm mask o.pay
    (r.1.contribute m.rm e.gen b mask x).applied p slot cnum tag e (e.add 1) 1

/-- The bank write of a combined token (R168, R177, R182). -/
def State.payWrite (s : State) (b : Bind) (k : Token) : State :=
  let s := s.closeOne b.part b.cnum
  match s.slotOf b.part b.cnum with
  | none => s
  | some n =>
    let r := s.readEntry b.part n b.cnum
    let e := r.1.entry n
    if !r.2 then r.1
    else if e.kind = kReduce ∧ (e.status = stLate ∨ e.status = stFault) then r.1.bump R.spRlateDiscCnt 1
    else if b.mode = .normal ∧ e.status = stArmed ∧ e.gen.toNat = b.gen then
      let bas := e.basin.toNat + 64 * k.chain
      let q := r.1.readBasin bas
      (if q.2 then q.1.contribute b.rmode e.gen bas k.mask k.data else q.1).count
        { evt := 0x0A, part := some b.part, fmt := rmIfmt b.rmode, lanes := popcount 16 k.mask }
    else r.1

/-! ## Arrival operations (R65, R66) -/

/-- The checks of R75, step 5, for an arrival operation. -/
def State.arrivalCheck (s : State) (p : Nat) (e : Cistern) (o : BankOp) : Option Nat :=
  let noGen := match o.origin with | .fwd _ => true | .fabric => true | _ => false
  if e.status = stFenced then some Res.fenced
  else if !noGen && o.gen % 65536 != e.gen.toNat then some Res.genMismatch
  else if !kindTakes e.kind o.opc then some Res.kind
  else if o.opc = Op.reduceInto then s.reduceCheck p e o
  else none

/-- Beyond completion (R61): the cistern is DONE. -/
def State.beyond (s : State) (slot : Nat) (e : Cistern) (o : BankOp) : Ans :=
  let e' := e.add o.n
  if e.kind = kBarrier ∨ e.kind = kReduce then ⟨s.setEntry slot e', e'.rsp Res.excess, true⟩
  else if e.kind = kCredit then
    ⟨s.setEntry slot e', e'.rsp (if e.target.toNat < e'.count.toNat then Res.excess else Res.ok), true⟩
  else if e.kind = kEvent then ⟨s, e.rsp Res.ok, true⟩
  else ⟨s, e.rsp Res.excess, false⟩

/-- A refusal that moves a counter. -/
def State.arrivalRefused (s : State) (o : BankOp) (cnum : Nat) (e : Cistern) (res : Nat) : State :=
  if res = Res.genMismatch then
    let s := s.count { evt := 0x12, part := o.part }
    match o.part with
    | some q => s.event q { code := Fc.genMismatch, cnum := cnum, master := o.master, unit := 3 }
    | none => s
  else if res = Res.kind ∧ o.opc = Op.reduceInto ∧ e.kind = kReduce ∧ e.basin ≠ 0xFFFF then s.bump R.spRmodeMissCnt 1
  else s

/-- An arrival operation on an entry. -/
def State.arrival (s : State) (p slot cnum : Nat) (e : Cistern) (o : BankOp) : Ans :=
  match s.arrivalCheck p e o with
  | some res => ⟨s.arrivalRefused o cnum e res, e.rsp res, false⟩
  | none =>
    let tag := s.tagged p cnum
    if e.status = stIdle then ⟨s, e.rsp Res.notArmed, false⟩
    else if o.opc = Op.creditReturn then s.creditReturn p slot cnum e o.n
    else if e.status = stDone then s.beyond slot e o
    else if o.opc = Op.postCount then s.postCount p slot cnum tag e o.n
    else if e.status = stArmed then
      if o.opc = Op.reduceInto then s.reduceArmed p slot cnum tag e o
      else s.arriveArmed p slot cnum tag e o.n
    else
      let e' := e.add o.n
      let s := if o.opc = Op.reduceInto then s.bump R.spRlateDiscCnt 1 else s
      ⟨s.setEntry slot e', e'.rsp Res.late, true⟩

/-! ## ARM, CLEAR, FENCE, UNFENCE, POLL (R63, R64, R73, R74, R97) -/

/-- The definition in force after an ARM (R73). -/
def ArmDef.inForce (d : ArmDef) (e : Cistern) : Cistern :=
  if d.keep then { e with target := d.target, basin := if e.kind = kCount then d.basin else e.basin }
  else { e with kind := d.kind, dclass := d.dclass, maskmode := d.maskmode, target := d.target, rlist := d.rlist,
                basin := d.basin, layer := d.layer, oper := d.oper }

/-- The refusal of an ARM by R74 and R165. -/
def State.armCheck (s : State) (p slot : Nat) (d : ArmDef) (x : Cistern) : Option Nat :=
  let b := x.basin.toNat
  let m := s.mode b
  if d.kind.toNat = 0 ∨ 5 < d.kind.toNat ∨ d.rsv ≠ 0 ∨ d.rsvB ≠ 0 ∨ !s.holdsDir p x.rlist.toNat then some Res.range
  else if x.kind ≠ kCount ∧ x.basin ≠ 0xFFFF ∧ (!s.holdsBasin p b || b % 64 != slot % 64) then some Res.range
  else if x.kind = kReduce ∧ x.basin = 0xFFFF then some Res.kind
  else if x.kind = kReduce ∧ x.dclass ≠ rmFloat m.rm then some Res.kind
  else none

/-- The close of the current or the next tick becomes the deadline of an arming (R40, R68, R294). -/
def State.setDeadline (s : State) (p cnum gen : Nat) : State :=
  if s.pstate p = 3 then s
  else s.modPrt p (fun x =>
    if s.closePoint p ≤ x.slot then { x with dlNext := x.dlNext ++ [(cnum, gen)] }
    else { x with dl := x.dl ++ [(cnum, gen)] })

/-- An ARM that names a basin ends the basin's poison (R97). -/
def State.healBasins (s : State) (p : Nat) (x : Cistern) : State :=
  if x.kind = kCount ∨ x.basin = 0xFFFF then s
  else
    let bs := if x.kind = kReduce then s.chain p x.basin.toNat (s.mode x.basin.toNat).len else [x.basin.toNat]
    bs.foldl (fun s b =>
      if tget false s.cst.badBasin b then
        let s := (List.range 4).foldl (fun s j => s.clearErr 1 (4 * b + j)) s
        { s with cst := { s.cst with badBasin := tset false s.cst.badBasin b false } }
      else s) s

/-- ARM (R63): the state and the RESULT. `bad` says that the cistern is poisoned, `dyn` that the operation is dynamic: it runs no
completion test while the bound tag is set (R116). -/
def State.arm (s : State) (p slot cnum : Nat) (bad dyn : Bool) (a b : W64) : State × Nat :=
  let e := s.entry slot
  let d := ArmDef.of a b
  let x := d.inForce e
  if bad ∧ d.keep then (s, Res.uncorrectable)
  else match s.armCheck p slot d x with
    | some res => (s, res)
    | none =>
      if !bad && e.status == stFenced then (s, Res.fenced)
      else if !bad && (e.status == stArmed || e.status == stDone) then (s, Res.busy)
      else
        let x := { x with gen := e.gen + 1, count := 0, status := stArmed, part := BitVec.ofNat 5 p }
        let s := if bad then { s with cst := { s.cst with bad := tset false s.cst.bad slot false } } else s
        let s := (s.healBasins p x).setEntry slot x
        let s := if d.deadline then s.setDeadline p cnum x.gen.toNat else s
        let s := if x.kind = kCredit then s.grantArm p cnum x.gen.toNat x.rlist.toNat x.target.toNat else s
        if x.met && (!dyn || (s.tagged p cnum).isNone) then (s.enter p slot cnum x stDone, Res.completed) else (s, Res.ok)

/-- A CREDIT cistern that was ARMED stops granting (R200). -/
def State.leaveArmed (s : State) (p cnum : Nat) (e : Cistern) : State :=
  if e.kind = kCredit ∧ e.status = stArmed then s.grantLeave p cnum else s

/-- CLEAR (R63, R64). R63 has no row for an IDLE cistern: DESIGN CHOICE, it stays IDLE and the answer is OK (assumption 63). -/
def State.clear (s : State) (p slot cnum : Nat) (e : Cistern) : State × Nat :=
  if e.status = stDone then (s, Res.busy)
  else if e.status = stFenced then (s, Res.fenced)
  else ((s.leaveArmed p cnum e).setEntry slot { e with status := stIdle }, Res.ok)

/-- FENCE (R63, R142). R63 has no row for a FENCED cistern: DESIGN CHOICE, it stays FENCED and the answer is OK
(assumption 63). -/
def State.fence (s : State) (p slot cnum : Nat) (e : Cistern) : State × Nat :=
  if e.status = stFenced then (s, Res.ok)
  else
    let s := ((s.leaveArmed p cnum e).setEntry slot { e with status := stFenced }).abandonCnum p cnum
    (match s.tagged p cnum with | some ch => s.sideFence ch | none => s, Res.ok)

/-- UNFENCE (R63). R63 has no row for a cistern that is not FENCED: DESIGN CHOICE, nothing changes and the answer is OK
(assumption 63). -/
def State.unfence (s : State) (slot : Nat) (e : Cistern) : State × Nat :=
  if e.status = stFenced then (s.setEntry slot { e with status := stIdle }, Res.ok) else (s, Res.ok)

/-- The answer of POLL (R82). -/
def State.pollRsp (s : State) (e : Cistern) : BankRsp :=
  e.rsp Res.ok (BitVec.ofNat 64 (e.target.toNat * 2 ^ 32 + e.basin.toNat * 2 ^ 16))
    (e.kind == kReduce && (e.status == stDone || e.status == stLate || e.status == stFault) && (s.lanes e.basin.toNat).e)

/-- A cistern operation on a slot that is there, after the first three checks of R75. -/
def State.cisternOp (s : State) (p slot : Nat) (o : BankOp) : State :=
  let c := o.index
  let bad := tget false s.cst.bad slot
  let e0 := s.entry slot
  let s := if o.origin = .fabric ∧ e0.status ≠ stArmed then s.bump R.culFrelMissCnt 1 else s
  let r := if bad then (s, false) else s.readEntry p slot c
  if !r.2 && !(bad && o.opc == Op.arm) then r.1.answer o ((r.1.entry slot).rsp Res.uncorrectable) false
  else
    let s := r.1
    let e := s.entry slot
    let s := if o.opc = Op.poll then s.count { evt := 0x0C, part := some p } else s
    let a : Ans :=
      if opArrival o.opc then s.arrival p slot c e o
      else
        let t := if o.opc = Op.arm then s.arm p slot c bad true o.a o.b
          else if o.opc = Op.clear then s.clear p slot c e
          else if o.opc = Op.fence then s.fence p slot c e
          else if o.opc = Op.unfence then s.unfence slot e
          else (s, Res.ok)
        if o.opc = Op.poll then ⟨s, s.pollRsp e, true⟩
        else ⟨t.1, (t.1.entry slot).rsp t.2, t.2 == Res.ok || t.2 == Res.completed⟩
    a.s.answer o a.r a.applied e (if o.opc = Op.reduceInto then (s.mode e.basin.toNat).rm else 0)

/-! ## The Spillway's queues (R94, R95) -/

/-- Ask for a fill; operations for one cistern share it (R95). A partition with LOG2F 0 has no frame, and the spec does not say
what a miss does there: DESIGN CHOICE, no fill is asked for, and what waits is answered at the timeout (assumption 64). -/
def State.requestFill (s : State) (p cnum : Nat) : State :=
  match s.frameSlot p cnum with
  | none => s
  | some f =>
    if s.cst.fills.any (fun x => x.cnum == cnum && x.part == p) then
      { s with cst := { s.cst with fills := s.cst.fills.map (fun x =>
          if x.cnum = cnum ∧ x.part = p then { x with failed := false } else x) } }
    else { s with cst := { s.cst with fills := s.cst.fills ++ [{ part := p, cnum := cnum, frame := f }] } }

/-- Work that waited at a bank is answered without effect: an operation, or every POLL of a window with one cycle of the
bank. -/
def State.answerWork (s : State) (w : BankWork) (r : BankRsp) : State :=
  match w with
  | .op o => s.answer o r false
  | .polls _ l => l.foldl (fun s o => (s.bill o r false).deliver o r) (s.count { evt := 0x33 })
  | _ => s

/-- Work finds its cistern absent (R95): an operation, or the one read of a window. -/
def State.miss (s : State) (p cnum : Nat) (w : BankWork) : State :=
  let s := s.count { evt := 0x24, part := some p }
  if 8 ≤ (s.cst.miss.filter (fun m => s.workBank m == s.workBank w)).length then
    s.answerWork w { result := Res.spillTimeout }
  else ({ s with cst := { s.cst with miss := s.cst.miss ++ [w] } } : State).requestFill p cnum

/-! ## The checks of R75, steps 1 to 3 -/

/-- The unit of a resource that an operation names is under initialisation (R100): for a spilled cistern, that of its
frame. -/
def State.unitBusy (s : State) (o : BankOp) : Bool :=
  if o.space ≠ 0 then s.initBusy 1 (o.basin / 64)
  else if o.index < 0x200000 then s.initBusy 0 (o.index / 4096)
  else match o.part.bind (fun p => s.frameSlot p o.index) with
    | some n => s.initBusy 0 (n / 4096)
    | none => false

/-- Step 1 of R75: the requester's partition holds the cistern or basin, and FENCE and UNFENCE come from function 0. The RESULT of
one from another requester is not given: DESIGN CHOICE, RIGHTS, at this step (assumption 65). -/
def State.inPart (s : State) (o : BankOp) : Option Nat :=
  match o.part with
  | none => none
  | some p =>
    if (if o.space = 0 then s.holdsCnum p o.index else s.holdsBasin p o.basin)
        && (o.func0 || !(o.space == 0 && (o.opc == Op.fence || o.opc == Op.unfence))) then some p else none

/-- A refusal under RIGHTS (R75). STATUS, GEN, COUNT and DATA of an answer that did not read the word are not given: DESIGN CHOICE,
they are 0 (assumption 66); so in every answer below that sets RESULT alone. -/
def State.refuseRights (s : State) (o : BankOp) (unit : Nat) : State :=
  (s.rightsEvent o.part o.master o.index unit).answer o { result := Res.rights } false

/-- An answer BUSY at step 2 shows the entry where it can be read. -/
def State.busyRsp (s : State) (p : Nat) (o : BankOp) : BankRsp :=
  if o.space ≠ 0 ∨ s.unitBusy o then { result := Res.busy }
  else match s.slotOf p o.index with
    | some n => (s.entry n).rsp Res.busy
    | none => { result := Res.busy }

/-- A cistern operation at its bank. -/
def State.runCistern (s : State) (o : BankOp) : State :=
  match s.inPart o with
  | none => (if o.origin = .fabric then s.bump R.culFrelMissCnt 1 else s).refuseRights o 3
  | some p =>
    if s.unitBusy o || !(s.active p || o.opc == Op.poll) then
      (if o.origin = .fabric then s.bump R.culFrelMissCnt 1 else s).answer o (s.busyRsp p o) false
    else match s.slotOf p o.index with
      | none => s.miss p o.index (.op o)
      | some n => s.cisternOp p n o

/-- The one read of a window answers every requester. -/
def State.pollAnswer (s : State) (p slot cnum : Nat) (l : List BankOp) : State :=
  let s := (s.count { evt := 0x33 }).count { evt := 0x0C, part := some p }
  let r := if tget false s.cst.bad slot then (s, false) else s.readEntry p slot cnum
  let e := r.1.entry slot
  let a := if r.2 then r.1.pollRsp e else e.rsp Res.uncorrectable
  l.foldl (fun s o => (s.bill o a r.2 e).deliver o a) r.1

/-- The read of a merge window (R85): what it finds is the answer to every POLL that the window holds. -/
def State.runPolls (s : State) (cnum : Nat) (l : List BankOp) : State :=
  match l with
  | [] => s
  | o :: _ =>
    match s.inPart o with
    | none => l.foldl (fun s o => s.refuseRights o 3) s
    | some p =>
      if s.unitBusy o then s.answerWork (.polls cnum l) (s.busyRsp p o)
      else match s.slotOf p cnum with
        | none => s.miss p cnum (.polls cnum l)
        | some n => s.pollAnswer p n cnum l

/-! ## Word operations (R72) -/

/-- The new value of a word, or `none` where the condition does not hold. -/
def wordOp (opc : Nat) (w a b : W64) : Option W64 :=
  if opc = Op.read then some w
  else if opc = Op.semAdd then
    let v := ((w.toNat % 2 ^ 32 : Nat) : Int) + sint (a.toNat % 2 ^ 32)
    if 0 ≤ v ∧ v < 2 ^ 32 then some (BitVec.ofNat 64 (w.toNat / 2 ^ 32 * 2 ^ 32 + v.toNat)) else none
  else if opc = Op.testAndSet then (if w = 0 then some a else none)
  else if opc = Op.cas then (if w = a then some b else none)
  else if opc = Op.swap then some a
  else if opc = Op.incSat then some (BitVec.ofNat 64 (min (w.toNat + a.toNat % 2 ^ 32) (2 ^ 64 - 1)))
  else
    let lt := if b.getLsbD 0 then w.slt a else w.ult a
    if opc = Op.maxInto then some (if lt then a else w) else some (if lt then w else a)

/-- Word `i` of a basin. -/
def basinWord (v : Payload) (i : Nat) : W64 := v.extractLsb' (64 * i) 64

/-- The basin with word `i` replaced. -/
def setBasinWord (v : Payload) (i : Nat) (w : W64) : Payload :=
  v ^^^ BitVec.ofNat 512 ((basinWord v i ^^^ w).toNat * 2 ^ (64 * i))

/-- Read one 128-bit word of a basin through the code; an uncorrectable one poisons the basin (R97). -/
def State.readWord (s : State) (b i : Nat) : State × Bool :=
  if tget false s.cst.badBasin b then (s, false)
  else
    let r := s.codeRead 1 (4 * b + i / 2)
    if r.2 then r else (r.1.poisonBasin b, false)

/-- An operation on a basin word at its bank. -/
def State.runWord (s : State) (o : BankOp) : State :=
  match s.inPart o with
  | none => s.refuseRights o 3
  | some p =>
    if s.unitBusy o || !(s.active p || o.opc == Op.read) then s.answer o { result := Res.busy } false
    else
      let r := s.readWord o.basin o.word
      if !r.2 then r.1.answer o { result := Res.uncorrectable } false
      else
        let v := r.1.basin o.basin
        let w := basinWord v o.word
        match wordOp o.opc w o.a o.b with
        | none => r.1.answer o { result := Res.failed, data := w } true
        | some w' =>
          (if w' = w then r.1 else r.1.setBasin o.basin (setBasinWord v o.word w') (r.1.lanes o.basin)).answer o { result := Res.ok, data := w } true

end Sys2Proof.Machine
end

