-- ==== Sys2Proof/Machine/Wells.lean ====
section
/-! DEFINITION. The Well Unit (chapter 7): well operations with their checks and ownership rule, forwarding to home dies,
freeing passes, reset notices, group initialisation, and timeouts of forwarded requests. -/

namespace Sys2Proof.Machine

/-! ## The wells as stored (R218, R220, R241) -/

/-- A well's word. -/
def State.well (s : State) (n : Nat) : W64 := tget freeWell s.wel.w n
def State.setWell (s : State) (n : Nat) (v : W64) : State := { s with wel := { s.wel with w := tset freeWell s.wel.w n v } }
/-- The 128-bit word of the arrays that holds a well: 512 × array + word. -/
def wellIdx (n : Nat) : Nat := 512 * (n % 64) + n / 128
/-- The well is poisoned. -/
def State.wellBad (s : State) (n : Nat) : Bool := tget false s.wel.poison n
def State.setBad (s : State) (n : Nat) (b : Bool) : State :=
  { s with wel := { s.wel with poison := tset false s.wel.poison n b } }

/-- Poison one well: its mark, and POISON of its group. -/
def State.poisonWell (s : State) (n : Nat) : State := (s.setBad n true).setFlag (R.welGstat (n / 64)) 1 true

/-- An uncorrectable word poisons both of its wells, with one fault entry to every partition in the ACQ mask of either
group (R241). -/
def State.poisonWord (s : State) (idx : Nat) : State :=
  let a := wellOf idx 0
  let b := wellOf idx 1
  let s := (s.poisonWell a).poisonWell b
  let acq := s.reg (R.welGacq (a / 64)) ||| s.reg (R.welGacq (b / 64))
  ((List.range s.nPart).filter (fun p => acq.testBit p)).foldl (fun s p =>
    s.fault p { code := Fc.codeUncorrectable, unit := 4, info := a }) s

/-- Read a well through the code. -/
def State.readWell (s : State) (n : Nat) : State × Bool :=
  if s.wellBad n then (s, false)
  else
    let r := s.codeRead 3 (wellIdx n)
    if r.2 then r else (r.1.poisonWord (wellIdx n), false)

/-- The other well of a well's word (R220). -/
def wellTwin (n : Nat) : Nat := if n / 64 % 2 = 0 then n + 64 else n - 64

/-- A pass or an initialisation reads the word that holds a well (R233, R243). -/
def State.readTwins (s : State) (n : Nat) : State :=
  if !s.wellBad n then (s.readWell n).1 else (s.readWell (wellTwin n)).1

/-! ## Operations (R222 to R224, R231) -/

/-- The code that the model gives FORCE: no request can carry it in the 5 bits of its OPC. -/
def opForce : Nat := 0x20

/-- The fields of a well request obey R222. -/
def wellFmt (o : BankOp) : Bool :=
  (o.opc == Op.read || o.opc == Op.semAdd || o.opc == Op.cas || o.opc == Op.swap || o.opc == opForce)
    && o.gen == 0 && o.index % 256 == 0

/-- The master ID that belongs to no master (R218): in a set of masters it stands for every master of its chip. -/
def anyMaster : Nat := 0x1FFF

/-- A set of masters, each with its chip, holds a master. -/
def inSet (l : List (Nat × Nat)) (chip master : Nat) : Bool := l.contains (chip, master) || l.contains (chip, anyMaster)

/-- A master's requests are answered BUSY: it is in the pending set or in the running pass (R234). -/
def State.freeing (s : State) (chip master : Nat) : Bool :=
  inSet s.wel.pend chip master || (match s.wel.pass with | some l => inSet l chip master | none => false)

/-- Whether the rights of step 4 hold, and whether the check is deferred (R223, R229, R231). -/
def State.wellRights (s : State) (o : BankOp) (g : Nat) : Bool × Bool :=
  let has := fun off => match o.part with | some p => (s.reg off).testBit p | none => false
  if o.func0 then (true, false)
  else if o.opc = opForce then (s.fld (R.welGcfg g) 7 0 == o.master - 0x1000 && decide (0x1000 ≤ o.master), false)
  else if o.opc = Op.read then (has (R.welGrd g) || has (R.welGacq g), false)
  else if has (R.welGacq g) then (true, false)
  else (o.opc == Op.cas || o.opc == Op.swap, true)

/-- The transition of a write by identity `me` (R224): allowed, and whether it is a release by the owner. -/
def ownerRule (me : Nat) (old new : W64) : Bool × Bool :=
  let o := wellOwner old
  let o' := wellOwner new
  let a := wellAband old
  let a' := wellAband new
  let release := o == me && o' == ownerFree && (!a' || a)
  let keep := o' == o && (a' == a || (o == me && !a'))
  let claim := o == ownerFree && o' == me && a' == a
  (keep || claim || release, release)

/-- A stored well word: bits [37:32] are 0 (R221). -/
def cleanWell (w : W64) : W64 := wellWord (wellOwner w) (wellAband w) (w.toNat % 2 ^ 32)

/-- The new value of a well; `none` where the condition fails. -/
def wellNew (o : BankOp) (w : W64) : Option W64 :=
  if o.opc = opForce then
    if wellOwner w = o.a.toNat % 2 ^ 25 ∧ wellOwner w ≠ ownerFree then some (wellWord ownerFree true (w.toNat % 2 ^ 32))
    else none
  else (wordOp o.opc w o.a o.b).map cleanWell

/-- A well request on the home die, from step 3 of R223; `chip` is the requester's. -/
def State.wellHome (s : State) (o : BankOp) (chip : Nat) : State :=
  let n := o.well
  let g := n / 64
  if s.freeing chip o.master then (s.bump R.welBusyCnt 1).answer o { result := Res.busy } false
  else
    let rt := s.wellRights o g
    if !rt.1 then s.refuseRights o 4
    else
      let r := s.readWell n
      if !r.2 then r.1.answer o { result := Res.uncorrectable } false
      else
        let s := r.1
        let w := s.well n
        match wellNew o w with
        | none => s.answer o { result := Res.failed, data := w } true
        | some v =>
          let me := ownerOf chip o.master
          let t := ownerRule me w v
          let plain := o.opc == opForce || o.opc == Op.read || o.opc == Op.semAdd
          if !plain && (!t.1 || (rt.2 && !t.2)) then s.refuseRights o 4
          else
            let s := if o.opc = opForce then s.bump R.welForceCnt 1 else s
            (s.setWell n v).answer o { result := Res.ok, data := w } true

/-! ## Forwarding (R237, R240, R269) -/

/-- The value of DATA in the answer to a well request that had no response (R240). -/
def noResponse : W64 := 0x3F00000000#64

/-- A forwarded well request is answered without a response: `code` is LINK_DOWN, with the port, or MEMBER_LOST. -/
def State.wellLost (s : State) (o : BankOp) (code : Nat) (port : Nat := 0) : State :=
  let s := (s.setFlag R.welStatus 0 true).bump R.welRtoCnt 1
  let s := match o.part with
    | some p => s.event p { code := code, master := o.master, unit := 4, info := port }
    | none => s
  s.deliver o { result := Res.failed, data := noResponse }

/-- The TAG that a forwarded request carries. -/
def BankOp.tag (o : BankOp) : Nat :=
  match o.origin with
  | .cnp _ t _ _ => t
  | .dqu _ c => c % 256
  | _ => 0

/-- The requester wants a response. -/
def BankOp.wants (o : BankOp) : Bool := match o.origin with | .cnp _ _ _ r => r | _ => true

/-- Send a request to its home die, to the index that it has there. -/
def State.forward (s : State) (chip index : Nat) (o : BankOp) : State :=
  let s := if o.wants then
      { s with cul := { s.cul with fwds := s.cul.fwds ++ [{ chip := chip, tag := o.tag, master := o.master, op := o }] } } else s
  s.formFrame (ctrlReqFrame chip { o with index := index } o.tag o.wants)

/-- A chip is missing (R270). -/
def State.chipMissing (s : State) (chip : Nat) : Bool := s.trayMissing (s.trayOf chip)

/-- The group of a well is a proxy group (R237). -/
def State.proxied (s : State) (n : Nat) : Bool := s.flag (R.welGcfg (n / 64)) 31

/-- The chip of a request's master: a request of another die carries its own (R219). -/
def State.opChip (s : State) (o : BankOp) : Nat :=
  match o.origin with
  | .cul chip _ _ => chip
  | _ => s.chip

/-- A request of another die, which its own die has passed on (R237). -/
def BankOp.foreign (o : BankOp) : Bool := match o.origin with | .cul .. => true | _ => false

/-- A well request: on the home die of one from another die the checks begin with step 3 of R223 (R237). -/
def State.runWell (s : State) (o : BankOp) : State :=
  let cfg := s.reg (R.welGcfg (o.well / 64))
  let home := bits cfg 29 18
  if o.foreign then s.wellHome o (s.opChip o)
  else if !wellFmt o then s.refuseOp o { result := Res.badOp }
  else if s.proxied o.well then
    if o.opc = opForce ∨ home = s.chip then s.refuseOp o { result := Res.badOp }
    else if s.chipMissing home then s.wellLost o Fc.memberLost
    else s.forward home ((64 * bits cfg 17 8 + o.well % 64) * 256) o
  else s.wellHome o s.chip

/-- The home chip and the CNUM there of a cistern in a proxy window of p, and whether a window is unusable (R269). -/
def State.proxyOf (s : State) (p cnum : Nat) : Option (Nat × Nat) × Bool :=
  match (List.range 4).find? (fun i => s.flag (R.culPx p i) 31 && s.fld (R.culPx p i) 23 12 == cnum / 4096) with
  | none => (none, false)
  | some i =>
    let lo := s.fld (R.culPx p i) 23 12 * 4096
    let ov := fun (a b : Nat) => decide (a < b ∧ a < lo + 4096 ∧ lo < b)
    if ov (s.resBase p) (s.resEnd p) || ov (s.spillFirst p) (s.spillFirst p + s.spillNum p) then (none, true)
    else (some (s.fld (R.culPx p i) 11 0, s.fld (R.culPx p i + 4) 11 0 * 4096 + cnum % 4096), false)

/-- A forwarded cistern operation is answered without a response (R269). -/
def State.cisternLost (s : State) (o : BankOp) (code : Nat) (port : Nat := 0) : State :=
  let s := match o.part with
    | some p => s.event p { code := code, cnum := o.index, master := o.master, unit := 9, info := port }
    | none => s
  s.deliver o { result := Res.busy }

/-! ## Issue -/

/-- An operation runs at its bank or Well Unit. -/
def State.run (s : State) (o : BankOp) : State :=
  if o.space = 0 then s.runCistern o else if o.space = 1 then s.runWord o else s.runWell o

/-- The Well Unit answers or forwards a request before it comes to a bank (steps 1 and 2 of R223): those of one master go out
in order (R238). -/
def State.atUnit (s : State) (o : BankOp) : Bool :=
  o.space == 2 && !o.foreign && (!wellFmt o || s.proxied o.well)

/-- Issue an operation: at its bank, in order (R77, R121, R276). -/
def State.issue (s : State) (o : BankOp) : State :=
  if s.atUnit o then s.runWell o else s.tryBank (.op o) (fun s => s.run o)

/-- Do work at its bank. -/
def State.doWork (s : State) (w : BankWork) : State :=
  match w with
  | .op o => s.run o
  | .root b => s.rootWrite b
  | .residual b => s.residualWrite b
  | .mark p c g st => s.markWrite p c g st
  | .released p c g st => s.releasedWrite p c g st
  | .pay b k => s.payWrite b k
  | .sample ch p c => s.bindSample ch p c
  | .polls c l => s.runPolls c l

/-- Issue work at its bank, in order. -/
def State.issueWork (s : State) (w : BankWork) : State := s.tryBank w (fun s => s.doWork w)

/-- The first held work that fits now, done: of each bank the oldest is tried (R121, R276). -/
def State.holdStep (s : State) : List BankWork → List Nat → Option State
  | [], _ => none
  | w :: l, tried =>
    let k := s.workBank w
    if tried.contains k then s.holdStep l tried
    else
      let u := { s with cst := { s.cst with hold := s.cst.hold.erase w } }
      let t := (u.cycles (workCycles w)).doWork w
      if u.bankOver t k then s.holdStep l (k :: tried) else some t

/-! ## Freeing passes and notices (R232 to R239) -/

/-- The home chips named by the die's proxy groups. -/
def State.homeChips (s : State) : List Nat :=
  ((List.range 1024).filterMap (fun g =>
    let c := s.reg (R.welGcfg g)
    if c.testBit 31 && bits c 29 18 != s.chip then some (bits c 29 18) else none)).eraseDups

/-- Split a list into pieces of 16. -/
def chunks16 : Nat → List Nat → List (List Nat)
  | 0, _ => []
  | _, [] => []
  | n + 1, l => l.take 16 :: chunks16 n (l.drop 16)

/-- The RNOTICE frames of a set of masters (R252). -/
def noticeFrames (chip : Nat) (ms : List Nat) : List (List Beat) :=
  (chunks16 ms.length ms).map (fun l =>
    [{ btype := 9, dst := chip, pay := l.zipIdx.foldl (fun a e => a + (2 ^ 15 + e.1 % 2 ^ 13) * 2 ^ (16 * e.2)) 0 }])

/-- The port toward a chip. -/
def State.portTo (s : State) (chip : Nat) : Option Nat := (s.routeFrom s.chip chip).map (·.1)

/-- An RNOTICE for the chip waits or is not acknowledged at port k. -/
def State.noticeOut (s : State) (k chip : Nat) : Bool :=
  (s.port k).queue.any (fun f => frameType f == 9 && f.any (fun b => b.dst == chip))
    || (s.port k).replay.any (fun f => hdr f.2 71 68 == 9 && hdr f.2 55 44 == chip)

/-- What becomes of one notice: sent where its link is up, gone once acknowledged or where either die is missing
(R239). -/
def State.noticeStep (s : State) (n : Nat × Bool × List Nat) : State :=
  let keep := fun (s : State) b => { s with wel := { s.wel with notices := s.wel.notices ++ [(n.1, b, n.2.2)] } }
  if s.chipMissing n.1 ∨ s.chipMissing s.chip then s
  else match s.portTo n.1 with
    | none => s
    | some k =>
      if !s.linkUp k then keep s false
      else if !n.2.1 then
        let s := (noticeFrames n.1 n.2.2).foldl (fun s f => s.formFrame f) s
        keep s true
      else if s.noticeOut k n.1 then keep s true else s

/-- Go over the notices. -/
def State.noticeAll (s : State) : State :=
  if s.wel.notices.isEmpty then s
  else s.wel.notices.foldl State.noticeStep { s with wel := { s.wel with notices := [] } }

/-- Masters enter the pending set (R234). -/
def State.addPend (s : State) (chip : Nat) (ms : List Nat) : State :=
  ms.foldl (fun s m => if s.wel.pend.contains (chip, m) then s
    else { s with wel := { s.wel with pend := s.wel.pend ++ [(chip, m)] } }) s

/-- A reset frees its masters here, and tells the home dies (R232, R239). -/
def State.raiseFree (s : State) (ms : List Nat) : State :=
  let s := s.addPend s.chip ms
  let s := s.homeChips.foldl (fun s c => { s with wel := { s.wel with notices := s.wel.notices ++ [(c, false, ms)] } }) s
  s.noticeAll

/-- FREEING_PASS_START (R234). -/
def execFreeingPassStart (s : State) : Host.Outcome State Fault Refusal :=
  if s.wel.pass.isNone && !s.wel.pend.isEmpty then
    .next { s with wel := { s.wel with pass := some s.wel.pend, passPos := 0, pend := [] } }
  else .next s

/-- One well of a pass (R233). -/
def State.passWell (set : List (Nat × Nat)) (s : State) (e : Nat × W64) : State :=
  let o := wellOwner e.2
  if o != ownerFree && inSet set (o / 2 ^ 13) (o % 2 ^ 13) && !s.wellBad e.1 then
    (s.setWell e.1 (wellWord ownerFree true (e.2.toNat % 2 ^ 32))).bump R.welSweepCnt 1
  else s

/-- The words of the arrays from `lo` up to `hi` are read through the code, and their wells of the set freed (R233). -/
def State.passWords (s : State) (set : List (Nat × Nat)) (lo hi : Nat) : State :=
  let s := (s.cst.err.filter (fun e => e.1 / 2 ^ 24 == 3 && within lo (e.1 % 512) hi)).foldl (fun s e =>
    s.readTwins (wellOf (e.1 % 2 ^ 24) 0)) s
  (s.wel.w.filter (fun e => within lo (e.1 / 128) hi)).foldl (State.passWell set) s

/-- One free kclk cycle of a running pass: every array reads its next word (R233; DESIGN CHOICE: words ascending, assumption 53). -/
def State.passStep (s : State) : State :=
  match s.wel.pass with
  | none => s
  | some set =>
    let k := s.wel.passPos
    if k < 512 then
      let t := s.passWords set k (k + 1)
      { t with wel := { t.wel with passPos := k + 1 } }
    else s

/-- FREEING_PASS_END (R233): the words that the pass has not read yet are read, and it ends. -/
def execFreeingPassEnd (s : State) : Host.Outcome State Fault Refusal :=
  match s.wel.pass with
  | none => .next s
  | some set =>
    let s := s.passWords set s.wel.passPos 512
    .next { s with wel := { s.wel with pass := none, passPos := 0 } }

/-- The masters that an RNOTICE names (R252). -/
def noticeMasters (pay : Nat) : List Nat :=
  (List.range 16).filterMap (fun i =>
    let h := pay / 2 ^ (16 * i) % 2 ^ 16
    if h.testBit 15 then some (h % 2 ^ 13) else none)

/-! ## Rights records and initialisation (R230, R243) -/

/-- The locked partitions that a change of a group's record meets (R230). -/
def State.groupLocks (s : State) (g acq rd : Nat) : List Nat :=
  let m := s.reg (R.welGacq g) ||| s.reg (R.welGrd g) ||| acq ||| rd
  (List.range s.nPart).filter (fun p => m.testBit p && s.wasLocked p)

/-- A write to word `w` of a group's record (R230, R242, R245). -/
def State.rightsWrite (s : State) (g w v : Nat) : State :=
  let off := R.welGacq g + 4 * w
  let acq := if w = 0 then v else s.reg (R.welGacq g)
  let rd := if w = 1 then v else s.reg (R.welGrd g)
  match s.groupLocks g acq rd with
  | [] => s.setReg off v
  | l => (l.foldl (fun s p => s.cfgLocked p 4 off) s).setFlag R.welStatus 1 true

/-- A write of 1 to WEL_GSTAT.INIT (R243). -/
def State.groupInit (s : State) (g : Nat) : State :=
  match s.groupLocks g 0 0 with
  | [] => if s.flag (R.welGcfg g) 31 then s else s.setFlag (R.welGstat g) 0 true
  | _ => s.setFlag R.welStatus 2 true

/-- One well of a group is written as free: its word is read, the twin keeps its bits and its mark, and the word takes new check
symbols (R243). -/
def State.initWell (s : State) (n : Nat) : State :=
  (((s.readTwins n).setWell n freeWell).setBad n false).clearErr 3 (wellIdx n)

/-- GROUP_INIT_DONE (R243). -/
def execGroupInitDone (g : BitVec 10) (s : State) : Host.Outcome State Fault Refusal :=
  let g := g.toNat
  if s.flag (R.welGstat g) 0 then
    .next (((List.range 64).foldl (fun s i => s.initWell (64 * g + i)) s).setFld (R.welGstat g) 1 0 0)
  else .next s

/-! ## Timeouts of forwarded requests (R240, R269) -/

/-- Take a forwarded request off the list. -/
def State.dropFwd (s : State) (x : Fwd) : State := { s with cul := { s.cul with fwds := s.cul.fwds.erase x } }

/-- WELL_FORWARD_TIMEOUT (R240): the oldest forwarded well request with this TAG. -/
def execWellForwardTimeout (tag : BitVec 8) (s : State) : Host.Outcome State Fault Refusal :=
  match s.cul.fwds.find? (fun x => x.op.space == 2 && x.tag == tag.toNat) with
  | some x => .next ((s.dropFwd x).wellLost x.op Fc.linkDown ((s.portTo x.chip).getD 0))
  | none => .next s

/-- CISTERN_FORWARD_TIMEOUT (R269): the oldest forwarded cistern operation with this TAG. -/
def execCisternForwardTimeout (tag : BitVec 8) (s : State) : Host.Outcome State Fault Refusal :=
  match s.cul.fwds.find? (fun x => x.op.space == 0 && x.tag == tag.toNat) with
  | some x =>
    let s := s.dropFwd x
    let s := match s.portTo x.chip with | some k => s.drop k | none => s
    .next (s.cisternLost x.op Fc.linkDown ((s.portTo x.chip).getD 0))
  | none => .next s

end Sys2Proof.Machine
end

