-- ==== Sys2Proof/Machine/Fabric.lean ====
section
/-! DEFINITION. Fabric count channels (R263, R264), the tick-close channel (R45, R46, R48, R265), the Spillway's fills
(R94), and `settle`: what follows within one step from what a step did. -/

namespace Sys2Proof.Machine

/-! ## Channels (R282) -/

def State.fchEn (s : State) (c : Nat) : Bool := s.flag (R.culFchCfg c) 31
def State.fchRoot (s : State) (c : Nat) : Bool := s.flag (R.culFchCfg c) 30
def State.fchTclose (s : State) (c : Nat) : Bool := s.flag (R.culFchCfg c) 29
def State.fchPart (s : State) (c : Nat) : Nat := s.fld (R.culFchCfg c) 28 24
def State.fchUp (s : State) (c : Nat) : Nat := s.fld (R.culFchCfg c) 23 21
def State.fchDown (s : State) (c : Nat) : Nat := s.fld (R.culFchCfg c) 20 15
def State.fchMembers (s : State) (c : Nat) : Nat := s.fld (R.culFchCfg c) 12 0
def State.fchFrozen (s : State) (c : Nat) : Bool := s.flag (R.culFchStat c) 31
def State.fchWait (s : State) (c : Nat) : Bool := s.flag (R.culFchStat c) 30
def State.fchPend (s : State) (c : Nat) : Bool := s.flag (R.culFchStat c) 29
def State.fchCnt (s : State) (c : Nat) : Nat := s.fld (R.culFchStat c) 28 16
def State.fab (s : State) (c : Nat) : FabSt := tget {} s.cul.fab c
def State.setFab (s : State) (c : Nat) (x : FabSt) : State := { s with cul := { s.cul with fab := tset {} s.cul.fab c x } }

/-- The enabled tick-close channel of p (R265). -/
def State.tcloseOf (s : State) (p : Nat) : Option Nat :=
  (List.range 64).find? (fun c => s.fchEn c && s.fchTclose c && s.fchPart c == p)

/-! ## Ordinary channels (R264) -/

/-- A fabric arrival to the down cistern. -/
def State.fabricArrival (s : State) (c : Nat) : State :=
  s.issue { opc := Op.arrive, space := 0, index := s.fld (R.culFchDn c) 23 0, gen := 0, a := 0, b := 0, pay := 0,
            part := some (s.fchPart c), master := 0x1FFF, origin := .fabric, func0 := false }

/-- Send RELEASE on every port of DNMASK. -/
def State.releaseDown (s : State) (c : Nat) : State := s.sendCountAll (s.fchDown c) c (2 ^ 15)

/-- A count N reaches the root: CNT, and whether it has reached MEMBERS. -/
def State.rootSum (s : State) (c n : Nat) : State × Bool :=
  let v := s.fchCnt c + n
  let m := s.fchMembers c
  let s := if m < v then s.bump R.culFexcCnt 1 else s
  if m ≤ v then (s.setFld (R.culFchStat c) 28 16 0, true) else (s.setFld (R.culFchStat c) 28 16 v, false)

/-- The local part of a release: WAIT_REL clears, a held contribution goes, and the down cistern is told; and whether that
contribution brought the root to its next release. -/
def State.releaseHere (s : State) (c : Nat) : State × Bool :=
  let held := s.fchPend c
  let s := ((s.setFlag (R.culFchStat c) 30 held).setFlag (R.culFchStat c) 29 false).fabricArrival c
  if !held then (s, false)
  else if s.fchRoot c then s.rootSum c 1
  else (s.sendCount (s.fchUp c) c 1, false)

/-- A release of the root, down the tree and here. `n` bounds the releases that a root may cause itself in one step. -/
def State.fabricRelease (s : State) (c : Nat) : Nat → State
  | 0 => s
  | n + 1 =>
    let r := (s.releaseDown c).releaseHere c
    if r.2 then r.1.fabricRelease c n else r.1

/-- A sum of up counts goes toward the root. -/
def State.fabricUp (s : State) (c n : Nat) : State :=
  if s.fchRoot c then
    let r := s.rootSum c n
    if r.2 then r.1.fabricRelease c 2 else r.1
  else s.sendCount (s.fchUp c) c n

/-- The up cistern entered DONE (R264, step 1). -/
def State.contribution (s : State) (c : Nat) : State :=
  if s.fchWait c then
    if s.fchPend c then s.bump R.culFexcCnt 1 else s.setFlag (R.culFchStat c) 29 true
  else (s.setFlag (R.culFchStat c) 30 true).fabricUp c 1

/-- A cistern of p entered DONE: it contributes to the channels whose up cistern it is. -/
def State.contributeOf (s : State) (d : Nat × Nat) : State :=
  ((List.range 64).filter (fun c => s.fchEn c && !s.fchTclose c && !s.fchFrozen c && s.fchPart c == d.1
    && s.fld (R.culFchUp c) 23 0 == d.2)).foldl State.contribution s

/-! ## The tick-close channel (R45, R46, R265) -/

/-- T of a count: bit 0 of the partition tick. -/
def State.tickBit (s : State) (p : Nat) : Nat := (s.prt p).tick.toNat % 2

/-- The stretch for a completion now, with the close window `close` (R46, R48). -/
def State.stretchNow (s : State) (p close : Nat) : Nat := (s.prt p).slot + 1 + close - s.nominal p

/-- No stretch can be fixed any more: it would end beyond the cap (R47). -/
def State.tooLate (s : State) (p close : Nat) : Bool := (s.prt p).capped || decide (s.capOf p < s.stretchNow p close)

/-- The root of a tick-close channel takes N and L. -/
def State.tcloseRoot (s : State) (c n : Nat) (l : Bool) : State :=
  let p := s.fchPart c
  let s := if l && !(s.fab c).sentLate then
      ((s.setFab c { late := true, sentLate := true }).modPrt p (fun x => { x with lateDown := true })).sendCountAll
        (s.fchDown c) c (2 ^ 15 + 2 ^ 12)
    else s
  let v := s.fchCnt c + n
  let s := s.setFld (R.culFchStat c) 28 16 v
  if n = 0 ∨ v < s.fchMembers c ∨ s.tooLate p (s.closeReg p) then s
  else if (s.fab c).sentLate then
    let x := s.stretchNow p (s.closeReg p)
    let s := s.modPrt p (fun y => { y with stretch := some x })
    (maskPorts (s.fchDown c)).foldl (fun s k => s.sendHop k 6 c x) s
  else s.releaseDown c

/-- A count of this die or of a child goes toward the root of a tick-close channel. -/
def State.tcloseUp (s : State) (c n : Nat) (l : Bool) : State :=
  if s.fchRoot c then s.tcloseRoot c n l
  else s.sendCount (s.fchUp c) c (bit l * 2 ^ 14 + s.tickBit (s.fchPart c) * 2 ^ 13 + n)

/-- The close point of a partition under STRETCH (R45, R48, R265). -/
def State.closeEval (s : State) (p : Nat) : State :=
  let ok := s.workDone p
  let s := s.modPrt p (fun x => { x with late := !ok, sent := ok })
  match s.tcloseOf p with
  | some c => if s.fchFrozen c then s else s.tcloseUp c (bit ok) (!ok)
  | none => s

/-- The work of a late tick is complete on this die: it contributes, or, where it decides alone, fixes the stretch. -/
def State.lateDone (s : State) (p : Nat) : State :=
  let s := s.modPrt p (fun x => { x with sent := true })
  let own := s.modPrt p (fun x => { x with stretch := if s.tooLate p 0 then none else some (s.stretchNow p 0) })
  if (s.prt p).alone then own
  else match s.tcloseOf p with
    | some c => if s.fchFrozen c then own else s.tcloseUp c 1 false
    | none => own

/-! ## Counts received (R263 to R265, R274) -/

/-- An EPOCH is older than the one at which p last entered RUN (R274). -/
def State.oldEpoch (s : State) (p ep : Nat) : Bool :=
  let d := (s.fld (R.culPepoch p) 15 0 + 65536 - ep) % 65536
  decide (1 ≤ d ∧ d < 32768)

def State.epDrop (s : State) : State := s.bump R.culEpdropCnt 1

/-- A count of channel c from port k is dropped (R263, R274): the channel is not enabled, frozen or of another epoch, or the
count does not come along the channel's tree. -/
def State.countDrops (s : State) (k ep c w : Nat) : Bool :=
  !s.fchEn c || s.fchFrozen c || s.oldEpoch (s.fchPart c) ep
    || (if w.testBit 15 then s.fchUp c != k else !(s.fchDown c).testBit k)

/-- A count has an effect on this die beyond its way to the root: every count down the tree, and one that reaches the root. -/
def State.countLocal (s : State) (c w : Nat) : Bool := w.testBit 15 || s.fchRoot c

/-- A count from the root goes on down the tree (R264, R265). -/
def State.countOn (s : State) (c w : Nat) : State :=
  if !w.testBit 15 then s
  else if s.fchTclose c then s.sendCountAll (s.fchDown c) c w
  else if bits w 14 12 = 0 then s.releaseDown c
  else s

/-- What a count does on this die. -/
def State.countHere (s : State) (c w : Nat) : State :=
  let p := s.fchPart c
  if w.testBit 15 then
    if s.fchTclose c then
      if bits w 14 12 = 1 ∧ !s.stretching p then s.modPrt p (fun x => { x with lateDown := true }) else s
    else if bits w 14 12 = 0 then (s.releaseHere c).1 else s
  else if s.fchTclose c then
    if bits w 13 13 = s.tickBit p then s.tcloseUp c (w % 2 ^ 13) (w.testBit 14) else s
  else s.fabricUp c (w % 2 ^ 13)

/-- The partition's tick ends: its tick-close channel forgets the tick (R265, step 4). -/
def State.tcloseClear (s : State) (p : Nat) : State :=
  match s.tcloseOf p with
  | some c => (s.setFld (R.culFchStat c) 30 16 0).setFab c {}
  | none => s

/-! ## Fills of spill frames (R94) -/

/-- The fill may act: it is not under way, and no other fill of its frame is. -/
def State.fillReady (s : State) (x : Fill) : Bool :=
  !x.reading && !x.evicting && !x.failed
    && !s.cst.fills.any (fun y => y.frame == x.frame && (y.reading || y.evicting))
    && (let t := tget 0 s.cst.tags x.frame
        t == 0 || t == x.cnum + 1 || ((s.entry x.frame).status == stIdle && (s.prt x.part).snap.isNone))

def State.setFill (s : State) (x y : Fill) : State :=
  { s with cst := { s.cst with fills := s.cst.fills.map (fun z => if z = x then y else z) } }

/-- One action of a fill: the read of the image, or the write-back of the occupant. -/
def State.fillStep (s : State) (x : Fill) : State :=
  let t := tget 0 s.cst.tags x.frame
  if t = x.cnum + 1 then { s with cst := { s.cst with fills := s.cst.fills.erase x } }
  else if t = 0 then
    (s.setFill x { x with reading := true }).memRd (.spill x.cnum) (s.imageAddr x.part x.cnum) 16 none
  else
    let r := s.readEntry x.part x.frame (t - 1)
    let e := r.1.entry x.frame
    if r.2 && e.status == stIdle then
      (r.1.setFill x { x with evicting := true }).memWr (.spill (t - 1)) (r.1.imageAddr x.part (t - 1)) 16
        ({ e with spilled := true } : Cistern).pack.toNat none
    else r.1

/-! ## Settle -/

/-- A partition whose late tick is complete and not yet reported. -/
def State.lateReady (s : State) : Option Nat :=
  (s.parts.find? (fun e => e.2.late && !e.2.sent && e.2.begun && s.workDone e.1)).map (·.1)

/-- One consequence that is due in this step, if any: contributions to fabric channels, operations that follow an answer,
work that was held at a bank, fills, and late ticks. -/
def State.settleStep (s : State) : Option State :=
  match s.cul.done with
  | d :: t => some (({ s with cul := { s.cul with done := t } } : State).contributeOf d)
  | [] => match s.cst.next with
    | o :: t => some (({ s with cst := { s.cst with next := t } } : State).issue o)
    | [] => match s.holdStep s.cst.hold [] with
      | some t => some t
      | none => match s.cst.fills.find? s.fillReady with
        | some x => some (s.fillStep x)
        | none => s.lateReady.map s.lateDone

/-- Consequences until none is due. -/
def State.settleN (s : State) : Nat → State
  | 0 => s
  | n + 1 => match s.settleStep with
    | some t => t.settleN n
    | none => s

def State.settle (s : State) : State := (s.settleN 4096).noticeAll

end Sys2Proof.Machine
end

