-- ==== Sys2Proof/Machine/Cnp.lean ====
section
/-! DEFINITION. The control network port (R80 to R84): its requests, merged polls (R85, R86), operations on cisterns of
other dies (R269), and the answers that the Spillway's queues wait for (R94 to R96). -/

namespace Sys2Proof.Machine

/-! ## Polls (R85, R86) -/

/-- A POLL reaches its bank. -/
def State.pollReq (s : State) (o : BankOp) : State :=
  let s := s.count { evt := 0x0B, part := o.part }
  match s.inPart o with
  | none => s.refuseRights o 3
  | some _ =>
    match s.cst.polls.find? (fun w => w.cnum == o.index) with
    | some w =>
      if w.reqs.length < 64 then
        { s with cst := { s.cst with polls := s.cst.polls.map (fun v =>
            if v.cnum = o.index then { v with reqs := v.reqs ++ [o] } else v) } }
      else s.issue o
    | none =>
      let bank := s.opBank o
      let same := s.cst.polls.filter (fun w => match w.reqs with | r :: _ => s.opBank r == bank | [] => false)
      if same.length < 16 then { s with cst := { s.cst with polls := s.cst.polls ++ [⟨o.index, [o]⟩] } }
      else s.issue o

/-- POLL_WINDOW_CLOSE (R85): the one read of the window, at its bank. -/
def execPollWindowClose (cnum : Cnum) (s : State) : Host.Outcome State Fault Refusal :=
  match s.cst.polls.find? (fun w => w.cnum == cnum.toNat) with
  | none => .next s
  | some w =>
    let s := { s with cst := { s.cst with polls := s.cst.polls.erase w } }
    .next (s.tryBank (.polls w.cnum w.reqs) (fun s => s.runPolls w.cnum w.reqs)).settle

/-! ## Requests -/

/-- A request of the CNP, the DQU or a Pump channel: a cistern in a proxy window goes to its home die before the checks
of R75 (R269). -/
def State.submit (s : State) (o : BankOp) : State :=
  let w := match o.part with
    | some p => if o.space = 0 then s.proxyOf p o.index else (none, false)
    | none => (none, false)
  let s := if w.2 then s.setFlag R.culMstatus 3 true else s
  match w.1 with
  | some (chip, index) =>
    if s.chipMissing chip then s.cisternLost o Fc.memberLost else s.forward chip index o
  | none => if o.space = 0 ∧ o.opc = Op.poll then s.pollReq o else s.issue o

/-- A request is malformed (R72, R80). -/
def reqBad (q : CnpReq) (opc : Nat) : Bool := headerBad q.rsv.toNat q.space.toNat opc q.index.toNat

/-- The requester's partition (R81): function 0 has none of its own, and each of its commands names one (R286). -/
def State.reqPart (s : State) (q : CnpReq) : Option Nat :=
  match q.part with
  | some p => some p.toNat
  | none => s.masterPart q.master.toNat

/-- The operation of a request. -/
def State.reqOp (s : State) (q : CnpReq) (opc : Nat) (pay : Payload) : BankOp :=
  { opc := opc, space := q.space.toNat, index := q.index.toNat, gen := q.gen.toNat, a := q.a, b := q.b, pay := pay,
    part := s.reqPart q, master := s.masterId q.master.toNat,
    origin := .cnp q.attach.toNat q.tag.toNat q.master.toNat q.resp, func0 := q.master == 0x1000 }

/-- Flits of a request: header, operands, and four of payload for REDUCE_INTO (R80). -/
def reqFlits (opc : Nat) : Nat := if opc = Op.reduceInto then 6 else 2

/-- The CNP takes a request with operation code `opc` from its buffer, and returns its credits (R431): BAD_OP first, then RIGHTS for a
master of no partition (R80, R81). -/
def State.cnp (s : State) (q : CnpReq) (opc : Nat) (pay : Payload) : State :=
  let s := s.emit (.cnCred q.attach.toNat (reqFlits opc))
  let o := s.reqOp q opc pay
  if reqBad q opc then s.refuseOp o { result := Res.badOp }
  else if o.part.isNone then s.refuseOp o { result := Res.rights }
  else s.submit o

/-- The operation code of a request: the row's, or a reserved one (R72). -/
def reqCode (q : CnpReq) (row : Nat) : Nat := match q.code with | some c => c.toNat | none => row

/-- The requests of the control network. -/
def isCnp : Instr → Bool
  | .arrive _ => true
  | .arriveN _ => true
  | .postCount _ => true
  | .reduceInto .. => true
  | .creditReturn _ => true
  | .poll _ => true
  | .arm _ => true
  | .clear _ => true
  | .fence _ => true
  | .unfence _ => true
  | .read _ => true
  | .semAdd _ => true
  | .testAndSet _ => true
  | .cas _ => true
  | .swap _ => true
  | .incSat _ => true
  | .maxInto _ => true
  | .minInto _ => true
  | _ => false

/-- Traffic that finds the die asleep waits and wakes it (R407); requests wait while cclk is lost (R400). -/
def State.asleep (s : State) : Bool := s.rst.kst != 0

/-- A command of the control network: it waits, in the order of acceptance (R197, R227), or it runs. -/
def State.cnpGate (s : State) (i : Instr) (q : CnpReq) (opc : Nat) (pay : Payload) : Host.Outcome State Fault Refusal :=
  if !s.up then .next s
  else if s.asleep then .next { s with held := s.held ++ [i], rst := { s.rst with waking := true } }
  else if s.clk.lostC || s.held.any isCnp then .next { s with held := s.held ++ [i] }
  else .next (s.cnp q (reqCode q opc) pay).settle

/-- ARRIVE (R72). -/
def execArrive (q : CnpReq) (s : State) : Host.Outcome State Fault Refusal := s.cnpGate (.arrive q) q Op.arrive 0
/-- ARRIVE_N (R72). -/
def execArriveN (q : CnpReq) (s : State) : Host.Outcome State Fault Refusal := s.cnpGate (.arriveN q) q Op.arriveN 0
/-- POST_COUNT (R69). -/
def execPostCount (q : CnpReq) (s : State) : Host.Outcome State Fault Refusal := s.cnpGate (.postCount q) q Op.postCount 0
/-- REDUCE_INTO (R168). -/
def execReduceInto (q : CnpReq) (pay : Payload) (s : State) : Host.Outcome State Fault Refusal :=
  s.cnpGate (.reduceInto q pay) q Op.reduceInto pay
/-- CREDIT_RETURN (R196). -/
def execCreditReturn (q : CnpReq) (s : State) : Host.Outcome State Fault Refusal :=
  s.cnpGate (.creditReturn q) q Op.creditReturn 0
/-- POLL (R85). -/
def execPoll (q : CnpReq) (s : State) : Host.Outcome State Fault Refusal := s.cnpGate (.poll q) q Op.poll 0
/-- ARM (R63). -/
def execArm (q : CnpReq) (s : State) : Host.Outcome State Fault Refusal := s.cnpGate (.arm q) q Op.arm 0
/-- CLEAR (R63). -/
def execClear (q : CnpReq) (s : State) : Host.Outcome State Fault Refusal := s.cnpGate (.clear q) q Op.clear 0
/-- FENCE (R63). -/
def execFence (q : CnpReq) (s : State) : Host.Outcome State Fault Refusal := s.cnpGate (.fence q) q Op.fence 0
/-- UNFENCE (R63). -/
def execUnfence (q : CnpReq) (s : State) : Host.Outcome State Fault Refusal := s.cnpGate (.unfence q) q Op.unfence 0
/-- READ (R72, R222). -/
def execRead (q : CnpReq) (s : State) : Host.Outcome State Fault Refusal := s.cnpGate (.read q) q Op.read 0
/-- SEM_ADD (R72, R225). -/
def execSemAdd (q : CnpReq) (s : State) : Host.Outcome State Fault Refusal := s.cnpGate (.semAdd q) q Op.semAdd 0
/-- TEST_AND_SET (R72). -/
def execTestAndSet (q : CnpReq) (s : State) : Host.Outcome State Fault Refusal :=
  s.cnpGate (.testAndSet q) q Op.testAndSet 0
/-- CAS (R72, R224). -/
def execCas (q : CnpReq) (s : State) : Host.Outcome State Fault Refusal := s.cnpGate (.cas q) q Op.cas 0
/-- SWAP (R72, R224). -/
def execSwap (q : CnpReq) (s : State) : Host.Outcome State Fault Refusal := s.cnpGate (.swap q) q Op.swap 0
/-- INC_SAT (R72). -/
def execIncSat (q : CnpReq) (s : State) : Host.Outcome State Fault Refusal := s.cnpGate (.incSat q) q Op.incSat 0
/-- MAX_INTO (R72). -/
def execMaxInto (q : CnpReq) (s : State) : Host.Outcome State Fault Refusal := s.cnpGate (.maxInto q) q Op.maxInto 0
/-- MIN_INTO (R72). -/
def execMinInto (q : CnpReq) (s : State) : Host.Outcome State Fault Refusal := s.cnpGate (.minInto q) q Op.minInto 0

/-! ## The Spillway (R94 to R96, R453) -/

/-- The cistern that work is for. -/
def BankWork.cnum : BankWork → Nat
  | .op o => o.index
  | .root b => b.cnum
  | .residual b => b.cnum
  | .mark _ c _ _ => c
  | .released _ c _ _ => c
  | .pay b _ => b.cnum
  | .sample _ _ c => c
  | .polls c _ => c

/-- The partition that work in a miss queue belongs to. -/
def BankWork.part : BankWork → Nat
  | .op o => o.part.getD 0
  | .root b => b.part
  | .residual b => b.part
  | .mark p _ _ _ => p
  | .released p _ _ _ => p
  | .pay b _ => b.part
  | .sample _ p _ => p
  | .polls _ l => match l with | o :: _ => o.part.getD 0 | [] => 0

/-- What waits for a cistern leaves the miss queue. -/
def State.takeMisses (s : State) (cnum : Nat) : State × List BankWork :=
  ({ s with cst := { s.cst with miss := s.cst.miss.filter (fun w => w.cnum != cnum) } },
   s.cst.miss.filter (fun w => w.cnum == cnum))

/-- All of it is refused. -/
def State.refuseMisses (s : State) (cnum result : Nat) : State :=
  let t := s.takeMisses cnum
  t.2.foldl (fun s w => s.answerWork w { result := result }) t.1

/-- A fill ends. -/
def State.dropFill (s : State) (x : Fill) : State := { s with cst := { s.cst with fills := s.cst.fills.erase x } }

/-- The fault entry of an error on a Spillway transaction (R453), and the stop that it starts (R323). -/
def State.spillError (s : State) (p cnum : Nat) (resp : BitVec 2) : State :=
  (s.fault p { code := Fc.busFault, cnum := cnum, n1 := 0xFFFFF, unit := 6, info := s.imageAddr p cnum }).sysError
    (s.imageAddr p cnum) false false resp

/-- SPILLWAY_FILL_DONE (R94, R95, R453). -/
def execSpillwayFillDone (cnum : Cnum) (image : W128) (resp : BitVec 2) (s : State) : Host.Outcome State Fault Refusal :=
  match s.cst.fills.find? (fun x => x.cnum == cnum.toNat && x.reading) with
  | none => .next s
  | some x =>
    let s := (s.memGot (.spill x.cnum)).dropFill x
    let e := Cistern.unpack image
    if badResp resp then .next ((s.refuseMisses x.cnum Res.spillTimeout).spillError x.part x.cnum resp).settle
    else if !e.sound x.part then
      .next ((s.refuseMisses x.cnum Res.uncorrectable).fault x.part
        { code := Fc.codeUncorrectable, cnum := x.cnum, unit := 6 }).settle
    else
      let s := ((s.cycles 1).setEntry x.frame { e with spilled := false }).clearErr 0 x.frame
      let s := { s with cst := { s.cst with
        bad := tset false s.cst.bad x.frame false, tags := tset 0 s.cst.tags x.frame (x.cnum + 1) } }
      let s := s.count { evt := 0x23, part := some x.part }
      let t := s.takeMisses x.cnum
      .next (t.2.foldl State.issueWork t.1).settle

/-- SPILLWAY_WRITE_BACK_DONE (R94, R453). -/
def execSpillwayWriteBackDone (frame : BitVec 21) (resp : BitVec 2) (s : State) : Host.Outcome State Fault Refusal :=
  match s.cst.fills.find? (fun x => x.frame == frame.toNat && x.evicting) with
  | none => .next s
  | some x =>
    let occ := tget 0 s.cst.tags x.frame - 1
    let s := s.memAck (.spill occ)
    if badResp resp then
      .next ((s.setFill x { x with evicting := false, failed := true }).sysError (s.imageAddr x.part occ) false true resp).settle
    else
      let s := (s.setEntry x.frame (Cistern.fresh x.part true)).setFill x { x with evicting := false }
      .next ({ s with cst := { s.cst with tags := tset 0 s.cst.tags x.frame 0 } } : State).settle

/-- SPILL_MISS_TIMEOUT (R96). -/
def execSpillMissTimeout (cnum : Cnum) (s : State) : Host.Outcome State Fault Refusal :=
  match s.cst.miss.find? (fun w => w.cnum == cnum.toNat) with
  | none => .next s
  | some w =>
    let s := (s.refuseMisses cnum.toNat Res.spillTimeout).fault w.part
      { code := Fc.spillMissTimeout, cnum := cnum.toNat, unit := 3 }
    .next ({ s with cst := { s.cst with
      fills := s.cst.fills.filter (fun x => !(x.cnum == cnum.toNat && x.failed)) } } : State).settle

end Sys2Proof.Machine
end

