-- ==== Sys2Proof/Machine/Release.lean ====
section
/-! DEFINITION. The release engine (R120 to R125, R144, R146), the tap side of the leaf routers (R122, R150, R152, R202,
R357), and grant messages (R201 to R204). -/

namespace Sys2Proof.Machine

/-! ## Contexts (R121, R124) -/

/-- Every target has acknowledged: the report goes to the bank, and the context is free (R124). -/
def State.ctxDone (s : State) (c : Ctx) : State :=
  (s.abandonCtx c.rid).released c.note.part c.note.cnum c.note.gen stIdle

/-- `k` more targets of a release have acknowledged. -/
def State.ctxAck (s : State) (rid k : Nat) : State :=
  match s.findCtx rid with
  | none => s
  | some c =>
    if c.left ≤ k then s.ctxDone c else s.modCtx rid (fun c => { c with left := c.left - k })

/-- The release token of a context (R120), with the trace tag of its binding (R355). -/
def Ctx.tok (c : Ctx) (data : Payload) : Tok :=
  let n := c.note
  { opc := if n.reduce then 7 else 6, cnum := n.cnum, status := n.status, seq := n.gen % 256, empty := n.empty,
    data := if n.reduce then data else 0, rid := some c.rid, part := n.part, layer := n.layer, oper := n.oper }

/-- The targets and the payload of a release: the root's own masks, or the list and the basin; `none` where the list
cannot be read (assumption 44). -/
def State.ctxTargets (s : State) (n : Notice) : State × Option (List (Nat × Nat)) × Payload :=
  match n.root with
  | some t => (s, some t, n.payload)
  | none =>
    let r := s.readList n.rlist
    if !r.2 then (r.1, none, 0)
    else
      let b := if n.reduce then (r.1.readBasin n.basin).1 else r.1
      (b, some (b.listTargets n.rlist), b.basin n.basin)

/-- Send a release down: it is raised now (R121, R125, R144). -/
def State.ctxIssue (s : State) (c : Ctx) : State :=
  let n := c.note
  let s := s.count { evt := 0x18, part := some n.part }
  let t := s.ctxTargets n
  let s := t.1
  let x := s.prt n.part
  let c := { c with waiting := false, judge := x.tick.toNat, slot := x.slot, kclk := s.clk.kclk }
  match t.2.1 with
  | none => s.modCtx c.rid (fun _ => { c with left := 1, lost := 1 })
  | some ts =>
    let c := { c with left := targetCount ts }
    let s := s.modCtx c.rid (fun _ => c)
    if c.left = 0 then s.ctxDone c
    else
      ts.foldl (fun s e =>
        let r := s.serveLeaf e.1 e.2 (c.tok t.2.2)
        if r.2 = 0 then r.1 else r.1.reportUndelivered e.1 c.rid r.2 n.part) s

/-- The dump that a release waits for has all its read data in its destination (R371). -/
def State.dumpReady (s : State) (n : Notice) : Bool :=
  match n.dump with
  | none => true
  | some d => match tget none s.obs.dumps d with
    | some x => x.armed || decide (x.total ≤ x.written)
    | none => true

/-- A release must wait: a halt of its partition, a STOP, or a dump that holds it (R127, R366, R371). -/
def State.ctxHeld (s : State) (n : Notice) : Bool := (s.prt n.part).halted || s.stopped || !s.dumpReady n

/-- A release context number that no context uses. -/
def State.freeRid (s : State) : Nat := s.pipe.nextRid

/-- Something goes down the Standpipe: a die that sleeps wakes first (R410). -/
def State.whenAwake (s : State) (i : Instr) (o : Host.Outcome State Fault Refusal) : Host.Outcome State Fault Refusal :=
  if s.rst.kst = 0 then o else .next { s with held := s.held ++ [i], rst := { s.rst with waking := true } }

/-- The oldest notice takes a context, and its release goes, or waits there (R121, R127, R371). -/
def State.noticeIssue (s : State) (n : Notice) : State :=
  let c : Ctx := { rid := s.freeRid, note := n, waiting := s.ctxHeld n, left := 1 }
  let s := { s with pipe := { s.pipe with
    notices := s.pipe.notices.erase n, ctxs := s.pipe.ctxs ++ [c], nextRid := s.pipe.nextRid + 1 } }
  if c.waiting then s else s.ctxIssue c

/-- RELEASE_ISSUE (R121): a waiting release that may go, else the oldest notice takes a context. The outcome of the old tick of
its partition comes first (R50). -/
def execReleaseIssue (s : State) : Host.Outcome State Fault Refusal :=
  match s.pipe.ctxs.find? (fun c => c.waiting && !s.ctxHeld c.note) with
  | some c => s.whenAwake .releaseIssue (.next ((s.closeFlush c.note.part).ctxIssue c).settle)
  | none =>
    match s.pipe.notices with
    | [] => .next s
    | n :: _ =>
      if 4096 ≤ s.pipe.ctxs.length then .next s
      else s.whenAwake .releaseIssue (.next ((s.closeFlush n.part).noticeIssue n).settle)

/-! ## Taps -/

/-- The wires of a token at a tap's release port (R147): OPC [3:0], CNUM [27:4], STATUS [31:28], SEQ [39:32],
FLAGS [43:40], payload from bit 44. -/
def Tok.wires (k : Tok) : Nat :=
  k.opc % 16 + k.cnum % 2 ^ 24 * 2 ^ 4 + k.status % 16 * 2 ^ 28 + k.seq % 256 * 2 ^ 32 + bit k.empty * 2 ^ 40
    + k.data.toNat * 2 ^ 44

/-- HOLD_TO_FIFO (R122). -/
def execHoldToFifo (tap : BitVec 12) (s : State) : Host.Outcome State Fault Refusal :=
  let t := tap.toNat
  let x := s.tap t
  match x.hold with
  | [] => .next s
  | k :: rest =>
    if x.fifo.length < 16 ∧ !(k.opc ≤ 7 && x.fifo.any (fun e => e.cnum == k.cnum && e.opc ≤ 7)) then
      .next (s.setTap t { x with fifo := x.fifo ++ [k], hold := rest })
    else .next s

/-- Queue the acknowledgement of a taken release; its FIFO entry is freed once the report is queued (R146). -/
def State.ackTaken (s : State) (t : Nat) (k : Tok) : State :=
  match k.rid with
  | none => s.modTap t (fun x => { x with fifo := x.fifo.erase k })
  | some rid =>
    match (s.leaf (t / 4)).report rid (2 ^ (t % 4)) true with
    | some l => (s.setLeaf (t / 4) l).modTap t (fun x => { x with fifo := x.fifo.erase k })
    | none => s.modTap t (fun x => { x with fifo := x.fifo.map (fun y => if y = k then { k with taken := true } else y) })

/-- RELEASE_TAKE (R150): the first token of the FIFO whose last beat is not taken. -/
def execReleaseTake (tap : BitVec 12) (s : State) : Host.Outcome State Fault Refusal :=
  let t := tap.toNat
  if !s.tapReady t then .next s
  else match (s.tap t).fifo.find? (fun k => !k.taken) with
    | none => .next s
    | some k =>
      let s := s.emit (.tapTok t k.wires)
      let s := if k.opc ≤ 7 then s.traceLeaf t (k.event 0x03 0) else s
      .next (s.ackTaken t k)

/-! ## Reports (R146) -/

/-- An undelivered report reaches the engine: stored, or dropped where the table is full (R123, R125). -/
def State.undIn (s : State) (l rid mask : Nat) : State :=
  match s.findCtx rid with
  | none => s
  | some _ =>
    if s.pipe.und.length < 2048 then { s with pipe := { s.pipe with und := s.pipe.und ++ [⟨rid, l, mask⟩] } }
    else ((s.setFlag R.hgUndStatus 31 true).bump R.hgUndOvfCnt 1).modCtx rid
      (fun c => { c with lost := c.lost + popcount 4 mask })

/-- One report entry reaches the engine. -/
def State.reportIn (s : State) (l : Nat) (r : Report) : State :=
  if r.ack then s.ctxAck r.rid (popcount 4 r.mask) else s.undIn l r.rid r.mask

/-- A marked drop reaches the engine (R146). -/
def State.lostIn (s : State) (e : Nat × Nat) : State :=
  ((s.setFlag R.hgUndStatus 31 true).bump R.hgUndOvfCnt 1).modCtx e.1
    (fun c => { c with lost := c.lost + popcount 4 e.2 })

/-- A trace record arrives at its sump: a sump that was disabled meanwhile takes none (R351, R356). -/
def State.traceIn (s : State) (i w : Nat) : State := if s.flag (R.obsScfg i) 31 then s.sumpRecord i w else s

/-- A spare report cycle: the budget grows, and one trace record may use it (R357). -/
def State.spareCycle (s : State) (l : Nat) : State :=
  let x := s.leaf l
  let b := min 300 (x.budget + 3)
  match x.trace with
  | (i, w) :: t =>
    if 100 ≤ b then (s.setLeaf l { x with budget := b - 100, trace := t }).traceIn i w
    else s.setLeaf l { x with budget := b }
  | [] => s.setLeaf l { x with budget := b }

/-- REPORT_CYCLE (R146, R357). -/
def execReportCycle (leaf : BitVec 10) (s : State) : Host.Outcome State Fault Refusal :=
  let l := leaf.toNat
  if s.nTap ≤ 4 * l then .next s
  else
    let x := s.leaf l
    if x.reports.isEmpty && x.lost.isEmpty then .next (s.spareCycle l)
    else
      let s := s.setLeaf l { x with reports := x.reports.drop 8, lost := [] }
      let s := (x.reports.take 8).foldl (fun s r => s.reportIn l r) s
      let s := x.lost.foldl State.lostIn s
      let s := (List.range 4).foldl (fun s j =>
        ((s.tap (4 * l + j)).fifo.filter (fun k => k.taken)).foldl (fun s k => s.ackTaken (4 * l + j) k) s) s
      .next s.settle

/-! ## Slot boundaries of the engine (R123, R125, R152) -/

/-- One undelivered entry as a directed release (R123). -/
def State.directed (s : State) (u : Undeliv) : State :=
  match s.findCtx u.rid with
  | none => s
  | some c =>
    let s := s.count { evt := 0x1B, part := some c.note.part }
    let s := if c.note.reduce && c.note.root.isNone then (s.readBasin c.note.basin).1 else s
    let pay := match c.note.root with | some _ => c.note.payload | none => s.basin c.note.basin
    let r := s.serveLeaf u.leaf u.mask (c.tok pay)
    { r.1 with pipe := { r.1.pipe with
        und := (r.1.pipe.und.map (fun v => if v = u then { v with mask := r.2 } else v)).filter (fun v => v.mask != 0) } }

/-- The partition of a context. -/
def State.ctxPart (s : State) (rid : Nat) : Option Nat := (s.findCtx rid).map (fun c => c.note.part)

/-- Re-issue to the undelivered targets of p (R123). -/
def State.reissue (s : State) (p : Nat) : State :=
  if (s.prt p).halted || s.stopped then s
  else (s.pipe.und.filter (fun u => s.ctxPart u.rid == some p)).foldl State.directed s

/-- The UNDELIVERED records of a release (R125). -/
def State.undRecords (s : State) (c : Ctx) (e : Cistern) : State :=
  let us := s.pipe.und.filter (fun u => u.rid == c.rid)
  let r : SbRec := { SbRec.of 0x0A c.note.cnum e with expect := 0, actual := 0, gen := c.note.gen }
  let more := us.length - 16 + c.lost
  if us.isEmpty then (if c.lost = 0 then s else s.sb c.note.part { r with more := c.lost })
  else
    let us := us.take 16
    us.zipIdx.foldl (fun s u => s.sb c.note.part { r with
      leaf := u.1.leaf, tmask := u.1.mask, more := if u.2 + 1 = us.length then more else 0 }) s

/-- A release is late (R125). -/
def State.lateRelease (s : State) (c : Ctx) : State :=
  let n := c.note
  let e := match s.slotOf n.part n.cnum with | some k => s.entry k | none => {}
  let mine := e.status == stDone && e.gen.toNat == n.gen
  let s := (s.released n.part n.cnum n.gen stLate).undRecords c (if mine then { e with status := stLate } else e)
  (s.event n.part { code := Fc.lateRelease, cnum := n.cnum, layer := n.layer, oper := n.oper, unit := 5 }).abandonCtx c.rid

/-- The release was raised in the tick's last slot, or less than 1,040 kclk before its end. -/
def State.raisedLast (s : State) (p : Nat) (c : Ctx) : Bool :=
  c.slot == (s.prt p).slot || decide (s.clk.kclk < c.kclk + 1040)

/-- The end of partition tick n: its releases are judged (R125). -/
def State.judgeAll (s : State) (p n : Nat) : State :=
  (s.pipe.ctxs.filter (fun c => c.note.part == p && !c.waiting)).foldl (fun s c =>
    if c.judge < n || (c.judge == n && !s.raisedLast p c) then s.lateRelease c else s) s

/-- A token leaves the delay store and is served (R152, R203). -/
def State.undelay (s : State) (l : Nat) (d : Delayed) : State :=
  let s := s.modLeaf l (fun x => { x with store := x.store.erase d })
  match d.grant with
  | some (g, n) =>
    if s.fenced d.tap then s.bump R.spFdropCnt 1
    else s.modTap d.tap (fun x => { x with slots := tmod {} x.slots g (fun y =>
      { y with seq := d.tok.seq, n := min 1048575 (y.n + n) }) })
  | none =>
    let r := s.serveTap d.tap d.tok false
    match r.2, d.tok.rid with
    | .undelivered, some rid => r.1.reportUndelivered l rid (2 ^ (d.tap % 4)) d.tok.part
    | _, _ => r.1

/-- A slot boundary of p at the delay stores (R152). -/
def State.delayStep (s : State) (p : Nat) : State :=
  s.pipe.leafs.foldl (fun s e =>
    e.2.store.foldl (fun s d =>
      if s.tapPart d.tap ≠ some p then s
      else if d.left = 0 then s.undelay e.1 d
      else s.modLeaf e.1 (fun x => { x with store := (x.store.erase d) ++ [{ d with left := d.left - 1 }] })) s) s

/-! ## Grants (R201 to R204) -/

/-- The partition of a grant entry and the cistern that owns it (R198). -/
def State.grantOwner (s : State) (e : Nat) : Option (Nat × Nat) :=
  ((List.range s.nPart).find? (fun p =>
    let u := s.reg (R.hgPcredUnits p)
    within (64 * bits u 6 0) e (64 * bits u 6 0 + 64 * bits u 23 16))).map (fun p =>
      (p, s.reg (R.hgPcredFirst p) % 2 ^ 24 + (e - 64 * s.fld (R.hgPcredUnits p) 6 0)))

/-- GRANT_MESSAGE (R201, R203, R204). -/
def execGrantMessage (entry : BitVec 13) (s : State) : Host.Outcome State Fault Refusal :=
  let e := entry.toNat
  let g := s.grant e
  match s.grantOwner e with
  | none => .next s
  | some (p, c) =>
    if g.state ≠ 1 ∨ g.owed.toNat = 0 ∨ (s.prt p).halted ∨ s.stopped ∨ s.pstate p = 3 then .next s
    else s.whenAwake (.grantMessage entry) <|
      let s := s.setGrant e { g with owed := 0 }
      if s.fenced g.tap then .next (s.bump R.spFdropCnt 1)
      else match s.pbdDelay g.tap c with
        | some d =>
          let tok : Tok := { opc := 0xC, cnum := c, status := 1, seq := g.gen % 256, part := p }
          let d0 : Delayed := { tap := g.tap, left := d, tok := tok, grant := some (g.gslot, g.owed.toNat) }
          if (s.leaf (g.tap / 4)).store.length < 8 then
            .next (s.modLeaf (g.tap / 4) (fun x => { x with store := x.store ++ [d0] }))
          else .next (s.bump R.spPbdOvfCnt 1)
        | none => .next (s.modTap g.tap (fun x => { x with slots := tmod {} x.slots g.gslot (fun y =>
            { y with seq := g.gen % 256, n := min 1048575 (y.n + g.owed.toNat) }) }))

/-- Slots of a tap in rotation after the one served last. -/
def rotate (n k : Nat) : List Nat := (List.range n).map (fun i => (k + i) % n)

/-- The tap and slot that the leaf serves next (R202): none while its tap clock region is stopped (R204). -/
def State.creditTurn (s : State) (l : Nat) : Option (Nat × Nat) :=
  if s.fld (R.obsTclk (s.regionOf l)) 31 30 = 2 then none
  else (rotate 4 (s.leaf l).tapTurn).findSome? (fun j =>
    let t := 4 * l + j
    let x := s.tap t
    if x.hold.isEmpty && decide (x.fifo.length ≤ 11) && !s.fenced t then
      ((rotate 4 (tget 0 (s.leaf l).slotTurn j)).find? (fun g => decide (0 < (tget {} x.slots g).n))).map (fun g => (j, g))
    else none)

/-- CREDIT_GRANT_PLACE (R202). -/
def execCreditGrantPlace (leaf : BitVec 10) (s : State) : Host.Outcome State Fault Refusal :=
  let l := leaf.toNat
  match s.creditTurn l with
  | none => .next s
  | some (j, g) =>
    let t := 4 * l + j
    let y := tget {} (s.tap t).slots g
    let p := (s.ownerCnum y.cnum).getD 0
    let s := s.modTap t (fun x => { x with
      slots := tset {} x.slots g { y with n := y.n - 1 },
      fifo := x.fifo ++ [{ opc := 0xC, cnum := y.cnum, status := 1, seq := y.seq, part := p }] })
    let s := s.modLeaf l (fun x => { x with tapTurn := (j + 1) % 4, slotTurn := tset 0 x.slotTurn j ((g + 1) % 4) })
    .next ((s.count { evt := 0x1C, part := some p }).traceLeaf t { evt := 0x05, part := p, cnum := y.cnum })

end Sys2Proof.Machine
end

