-- ==== Sys2Proof/Machine/Standpipe.lean ====
section
/-! DEFINITION. The Standpipe network (chapter 4): tap requests at the leaves (R138), payload combining (R139, R140, R182),
fences (R153), paired routers (R154, R155), and mode entries (R191). -/

namespace Sys2Proof.Machine

/-! ## The binding at a leaf (R135, R138) -/

/-- The TMASK of a binding at a leaf. -/
def Bind.tmask (b : Bind) (l : Nat) : Nat := match b.leaves.find? (fun e => e.1 == l) with | some e => e.2 | none => 0

/-- The entry that holds a CNUM with the tap's bit set. -/
def State.leafEntry (s : State) (t cnum : Nat) : Option Bind :=
  (List.range 18).findSome? (fun ch => match s.act ch with
    | some b => if b.cnum == cnum && (b.tmask (t / 4)).testBit (t % 4) then some b else none
    | none => none)

/-- A payload stall holds the tap's requests: its leaf input is occupied (R139). -/
def State.tapStall (s : State) (t : Nat) : Bool :=
  s.pipe.tokens.any (fun k => k.level == 1 && k.router == t / 4 && k.child == t % 4)

/-- Response codes (R147). -/
def rspAccept : Nat := 0
def rspNotBound : Nat := 1
def rspFenced : Nat := 2
def rspIllegal : Nat := 3

/-- Answer a tap request: the response, its counters and its trace (R138, R156, R352, R355). -/
def State.tapAnswer (s : State) (t cnum code kind : Nat) (b : Option Bind) : State :=
  let p := s.tapPart t
  let s := s.emit (.tapRsp t code)
  let s := if code = rspNotBound then (s.bump R.spNbCnt 1).count { evt := 0x03, part := p }
    else if code = rspFenced then (s.bump R.spFdropCnt 1).count { evt := 0x04, part := p }
    else if code = rspIllegal then s.count { evt := 0x04, part := p } else s
  let ly := match b with | some x => x.layer | none => 0
  let op := match b with | some x => x.oper | none => 0
  match p with
  | some q => s.traceLeaf t { evt := 0x01, part := q, cnum := cnum, arg := code * 4 + kind, layer := ly, oper := op }
  | none => s

/-- An accepted arrival: the tap's usage and counters. -/
def State.tapCount (s : State) (t : Nat) (e : Evt) : State :=
  match s.tapPart t with
  | some p => (s.count { e with part := some p }).usage p .ops 1
  | none => s.count e

/-- The channel's leaf sum of this kclk cycle; 64 more once an ARRIVE_N was refused in its second pass (R138, case 6). -/
def State.leafSum (s : State) (l ch : Nat) : Nat := if s.pipe.sumsAt = s.clk.kclk then tget 0 s.pipe.sums (32 * l + ch) else 0
def State.setLeafSum (s : State) (l ch v : Nat) : State :=
  let old := if s.pipe.sumsAt = s.clk.kclk then s.pipe.sums else []
  { s with pipe := { s.pipe with sumsAt := s.clk.kclk, sums := tset 0 old (32 * l + ch) v } }

/-- The beats of a request in the request queue of tap t (R148, R149). -/
def tapBeats (t : Nat) : Instr → Nat
  | .tapArrive tap _ _ => if tap.toNat = t then 1 else 0
  | .tapArriveN tap _ _ _ => if tap.toNat = t then 1 else 0
  | .tapReduce tap _ _ _ _ => if tap.toNat = t then 4 else 0
  | _ => 0

/-- The beats that wait in the request queue of a tap (R149). -/
def State.tapQueue (s : State) (t : Nat) : Nat := (s.held.map (tapBeats t)).sum

/-- The requests of a tap that await their responses (R149). -/
def State.tapOut (s : State) (t : Nat) : Nat :=
  s.held.countP (fun i => tapBeats t i != 0) + s.pipe.multi.countP (fun m => m.tap == t)

/-- A tap's request waits in the request queue: a wake, a payload stall, or a request of the tap before it (R139, R147, R410). -/
def State.tapWaits (s : State) (t : Nat) : Bool :=
  s.rst.kst == 1 || s.tapStall t || s.pipe.multi.any (fun m => m.tap == t) || s.tapQueue t != 0

/-- A tap request in a power state (R151, R410) and at its queue (R149): the port is not ready, every request is NOT_BOUND, or it
waits. -/
def State.tapGate (s : State) (i : Instr) (t cnum kind : Nat) (f : State → State) : Host.Outcome State Fault Refusal :=
  if !s.tapReady t then .next s
  else if s.rst.kst = 2 then .next (s.tapAnswer t cnum rspNotBound kind none)
  else if s.tapWaits t then
    if s.tapQueue t + tapBeats t i ≤ 4 ∧ s.tapOut t < 8 then
      .next { s with held := s.held ++ [i], rst := { s.rst with waking := s.rst.waking || s.rst.kst == 1 } }
    else .next s
  else .next (f s).settle

/-- The first five cases of R138 for an arrival of `n` at a count channel: its refusal, or its binding. -/
def State.arrivalCases (s : State) (t cnum n : Nat) (legal : Bool) : Nat ⊕ Bind :=
  if s.fenced t then .inl rspFenced
  else if !legal then .inl rspIllegal
  else match s.leafEntry t cnum with
    | none => .inl rspNotBound
    | some x => if 16 ≤ x.chan ∨ 7 < n then .inl rspNotBound else .inr x

/-- An arrival of `n` is accepted (R138, case 8). -/
def State.tapAccept (s : State) (t cnum n kind : Nat) (b : Bind) : State :=
  ((s.tapAnswer t cnum rspAccept kind (some b)).tapCount t { evt := 0x01 }).rootCount b.chan n

/-- An ARRIVE at its leaf: it is never refused under case 6 (R138). `kind` is 3 in the trace record of a request whose opcode is none
of the three (DESIGN CHOICE: assumption 69). -/
def State.tapArrival (s : State) (t cnum kind : Nat) (legal : Bool) : State :=
  match s.arrivalCases t cnum 1 legal with
  | .inl code => s.tapAnswer t cnum code kind (s.leafEntry t cnum)
  | .inr x =>
    let l := t / 4
    let s := s.setLeafSum l x.chan (s.leafSum l x.chan + 1)
    if x.fset.contains l then s.tapAnswer t cnum rspFenced kind (some x) else s.tapAccept t cnum 1 kind x

/-- An ARRIVE_N at its leaf: what the first five cases of R138 leave waits for the second pass of the cycle, in tap order. -/
def State.tapMulti (s : State) (t cnum n : Nat) (legal : Bool) : State :=
  match s.arrivalCases t cnum n legal with
  | .inl code => s.tapAnswer t cnum code 1 (s.leafEntry t cnum)
  | .inr x =>
    let m : Multi := ⟨t, x.chan, cnum, n, x.fset.contains (t / 4)⟩
    { s with pipe := { s.pipe with
      multi := s.pipe.multi.filter (fun e => decide (e.tap ≤ t)) ++ m :: s.pipe.multi.filter (fun e => decide (t < e.tap)) } }

/-- One ARRIVE_N in the second pass (R138, cases 6 to 8). -/
def State.judgeOne (s : State) (m : Multi) : State :=
  let l := m.tap / 4
  let v := s.leafSum l m.chan
  let b := s.act m.chan
  if 64 ≤ v ∨ 7 < v + m.n then (s.setLeafSum l m.chan (v % 64 + 64)).tapAnswer m.tap m.cnum rspNotBound 1 b
  else
    let s := s.setLeafSum l m.chan (v + m.n)
    match b with
    | some x => if m.fset then s.tapAnswer m.tap m.cnum rspFenced 1 b else s.tapAccept m.tap m.cnum m.n 1 x
    | none => s.tapAnswer m.tap m.cnum rspNotBound 1 none

/-- The second pass over the ARRIVE_Ns of the cycle that `sel` chooses, in tap order (R138, case 6). -/
def State.judgeMulti (s : State) (sel : Multi → Bool) : State :=
  (s.pipe.multi.filter sel).foldl State.judgeOne
    { s with pipe := { s.pipe with multi := s.pipe.multi.filter (fun m => !sel m) } }

/-- TAP_ARRIVE (R138, R148). -/
def execTapArrive (tap : BitVec 12) (cnum : Cnum) (last : ArriveBeat) (s : State) : Host.Outcome State Fault Refusal :=
  let kind := if last.code.isSome then 3 else 0
  s.tapGate (.tapArrive tap cnum last) tap.toNat cnum.toNat kind
    (fun s => s.tapArrival tap.toNat cnum.toNat kind (last.last && last.code.isNone))

/-- TAP_ARRIVE_N (R138, R148). -/
def execTapArriveN (tap : BitVec 12) (cnum : Cnum) (arg : BitVec 22) (last : Bool) (s : State) :
    Host.Outcome State Fault Refusal :=
  s.tapGate (.tapArriveN tap cnum arg last) tap.toNat cnum.toNat 1
    (fun s => s.tapMulti tap.toNat cnum.toNat arg.toNat last)

/-- A payload token of a tap enters its leaf (R138, R139, R167). -/
def State.tapToken (s : State) (t cnum arg : Nat) (data : Payload) (legal : Bool) : State :=
  let b := s.leafEntry t cnum
  if s.fenced t then s.tapAnswer t cnum rspFenced 2 b
  else if !legal then s.tapAnswer t cnum rspIllegal 2 b
  else match b with
    | none => s.tapAnswer t cnum rspNotBound 2 none
    | some x =>
      if x.chan < 16 then s.tapAnswer t cnum rspNotBound 2 b
      else if x.fset.contains (t / 4) then s.tapAnswer t cnum rspFenced 2 b
      else
        let m := arg % 65536
        let mask := effMask x.rmode m
        let k : Token := { chan := x.chan, level := 1, router := t / 4, child := t % 4, chain := bits arg 21 16, mask := mask,
                           ncont := 1, null := mask == 0, data := widen x.rmode mask data }
        let s := (s.tapAnswer t cnum rspAccept 2 b).tapCount t
          { evt := 0x02, fmt := rmIfmt x.rmode, lanes := popcount 16 m }
        let s := match s.tapPart t with | some p => s.usage p .lanes (popcount 16 m) | none => s
        { s with pipe := { s.pipe with tokens := s.pipe.tokens ++ [k] } }

/-- TAP_REDUCE (R138, R148). -/
def execTapReduce (tap : BitVec 12) (cnum : Cnum) (arg : BitVec 22) (data : Payload) (lastOk : Bool) (s : State) :
    Host.Outcome State Fault Refusal :=
  s.tapGate (.tapReduce tap cnum arg data lastOk) tap.toNat cnum.toNat 2
    (fun s => s.tapToken tap.toNat cnum.toNat arg.toNat data lastOk)

/-! ## Combining (R139, R140) -/

/-- The loaded mask of a router for a binding (R136). -/
def Bind.loaded (b : Bind) (level r : Nat) : Nat :=
  if level ≤ 1 then b.tmask r
  else (List.range 4).foldl (fun m j =>
    if b.leaves.any (fun e => decide (e.2 ≠ 0) && e.1 / 4 ^ (level - 2) == 4 * r + j) then m + 2 ^ j else m) 0

/-- The effective mask (R140). -/
def State.effective (s : State) (b : Bind) (level r : Nat) : Nat :=
  (List.range 4).foldl (fun m j =>
    if (b.loaded level r).testBit j
        && (if level ≤ 1 then !s.fenced (4 * r + j) else !b.withdrawn.contains (level - 1, 4 * r + j)) then m + 2 ^ j else m) 0

/-- The routers of a level that lie on a binding's path. -/
def Bind.routers (b : Bind) (level : Nat) : List Nat := (b.leaves.map (fun e => e.1 / 4 ^ (level - 1))).eraseDups

/-- Routers of one level whose effective mask has become 0 withdraw. -/
def State.withdrawLevel (s : State) (ch level : Nat) : State :=
  match s.act ch with
  | none => s
  | some b =>
    let out := (b.routers level).filter (fun r => s.effective b level r == 0 && !b.withdrawn.contains (level, r))
    s.setAct ch (some { b with withdrawn := b.withdrawn ++ out.map (fun r => (level, r)) })

/-- Withdrawals of a payload channel, from the leaves up. -/
def State.withdraw (s : State) (ch : Nat) : State :=
  (List.range s.depth).foldl (fun s k => s.withdrawLevel ch (k + 1)) s

/-- A combined token lies beyond the stream, or its chain basin outside the partition (R179). -/
def State.chainOut (s : State) (b : Bind) (k : Token) : Bool :=
  decide (b.clen ≤ k.chain) || match s.slotOf b.part b.cnum with
    | some n => (s.entry n).kind == kReduce && !s.holdsBasin b.part ((s.entry n).basin.toNat + 64 * k.chain)
    | none => false

/-- A combined token at the root channel stage (R177, R179, R182): its payload write goes to the bank ahead of what its count
completes. A void channel drops it (R115). -/
def State.rootToken (s : State) (b : Bind) (k : Token) : State :=
  if s.chainOut b k then s.bump R.spRchainDiscCnt 1
  else
    let s := if b.mode = .void then s else s.tryBank (.pay b k) (fun s => s.payWrite b k)
    let s := s.modAct b.chan (fun b => { b with
      allNull := b.allNull && k.null,
      tok0 := if k.chain = 0 then some (k.mask, k.data) else b.tok0 })
    s.rootCount b.chan k.ncont

/-- The tokens that router (level, r) holds for a channel. -/
def State.heldTokens (s : State) (ch level r : Nat) : List Token :=
  s.pipe.tokens.filter (fun k => k.chan == ch && k.level == level && k.router == r)

/-- The least chain index held. -/
def minChain (l : List Token) : Nat := l.foldl (fun m k => min m k.chain) 64

/-- Combine the tokens of one chain index, children in the order of R169. -/
def combineTokens (rm : Nat) (l : List Token) : Nat × Payload :=
  combine4 rm (fun j => match l.find? (fun k => k.child == j) with | some k => (k.mask, k.data) | none => (0, 0))

/-- The tokens `use` of a router are combined into one, which goes up, or to the root from the top level. -/
def State.combineGo (s : State) (b : Bind) (ch lv r c : Nat) (use : List Token) : State :=
  let v := combineTokens b.rmode use
  let k : Token := { chan := ch, level := lv + 1, router := r / 4, child := r % 4, chain := c, mask := v.1,
                     ncont := use.foldl (fun a k => a + k.ncont) 0, null := use.all (fun k => k.null), data := v.2 }
  let rest := s.pipe.tokens.filter (fun t => !use.contains t)
  if lv = s.depth then ({ s with pipe := { s.pipe with tokens := rest } } : State).rootToken b k
  else { s with pipe := { s.pipe with tokens := rest ++ [k] } }

/-- Whether a router may combine: it holds a token of `use` for each child that it needs, and the place above is free. -/
def State.mayCombine (s : State) (b : Bind) (ch lv r : Nat) (use : List Token) : Bool :=
  let need := s.effective b lv r
  !use.isEmpty && (List.range 4).all (fun j => !need.testBit j || use.any (fun k => k.child == j))
    && (if lv = s.depth then b.mode != .wait else !(s.heldTokens ch (lv + 1) (r / 4)).any (fun k => k.child == r % 4))

/-- The combination that a router makes now, if it can make one (R139, R140). -/
def State.combineAt (s : State) (ch lv r : Nat) : Option State :=
  match s.act ch with
  | none => none
  | some b =>
    let c := minChain (s.heldTokens ch lv r)
    let use := (s.heldTokens ch lv r).filter (fun k => k.chain == c)
    if s.mayCombine b ch lv r use then some (s.combineGo b ch lv r c use) else none

/-- PAYLOAD_COMBINE (R139, R140). -/
def execPayloadCombine (chan : BitVec 5) (level : BitVec 3) (router : BitVec 10) (s : State) :
    Host.Outcome State Fault Refusal :=
  match s.combineAt chan.toNat level.toNat router.toNat with
  | some t => .next t.settle
  | none => .next s

/-- The tokens of a channel rise as far as they combine: those that entered under a binding are combined under it all the way to the
root (R113). Each combination takes one of `fuel`. -/
def State.drainUp (s : State) (ch : Nat) : Nat → State
  | 0 => s
  | fuel + 1 =>
    match (s.pipe.tokens.filter (fun k => k.chan == ch)).findSome? (fun k => s.combineAt ch k.level k.router) with
    | some t => t.drainUp ch fuel
    | none => s

/-- A binding ends (R113, R118, R141): its sample returns, the arrivals of the cycle are judged and its complete combinations reach the
root before its counts are written. -/
def State.endBinding (s : State) (ch : Nat) (write : Bool := true) : State :=
  let s := (s.sampleReturn ch).judgeMulti (fun m => m.chan == ch)
  let s := s.drainUp ch (8 * s.pipe.tokens.length)
  let s := { s with pipe := { s.pipe with sums := s.pipe.sums.filter (fun e => e.1 % 32 != ch) } }
  s.unbind ch write

/-! ## Fences (R153, R204) -/

/-- A tap is being fenced: its tokens are dropped, its grant slots emptied, its held payload tokens discarded. -/
def State.fenceTap (s : State) (t : Nat) : State :=
  let x := s.tap t
  let l := t / 4
  let empty := (List.range 4).foldl (fun sl g => tmod {} sl g (fun y => { y with n := 0 })) x.slots
  let s := s.setTap t { x with fifo := x.fifo.filter (fun k => k.taken), hold := [], slots := empty }
  let s := (x.fifo.filter (fun k => !k.taken) ++ x.hold).foldl (fun s k => s.fencedDrop t k) s
  let s := ((s.leaf l).store.filter (fun d => d.tap == t)).foldl (fun s d => s.fencedDrop t d.tok) s
  let s := s.modLeaf l (fun y => { y with store := y.store.filter (fun d => d.tap != t) })
  let gone := s.pipe.tokens.filter (fun k => k.level == 1 && k.router == l && k.child == t % 4)
  let s := { s with pipe := { s.pipe with tokens := s.pipe.tokens.filter (fun k => !gone.contains k) } }
  let s := if gone.isEmpty then s
    else (s.bump R.spPdiscCnt gone.length).ao { type := 0x08, unit := 7, info := gone.length }
  (s.withdraw 16).withdraw 17

/-- A write of SP_FENCEw: it takes effect at once (assumption 20). -/
def State.fenceWrite (s : State) (w v : Nat) : State :=
  let n := s.nGood
  let keep := (List.range 32).foldl (fun a b => if 32 * w + b < n ∧ v.testBit b then a + 2 ^ b else a) 0
  let old := s.reg (R.spFence w)
  let s := s.setReg (R.spFence w) keep
  ((List.range 32).filter (fun b => keep.testBit b && !old.testBit b)).foldl (fun s b =>
    match s.physical (32 * w + b) with | some t => s.fenceTap t | none => s) s

/-! ## Paired routers (R154, R155, R158) -/

/-- Level and number of the router of a pair. -/
def State.pairRouter (s : State) (pair : Nat) : Option (Nat × Nat) :=
  let sizes := if s.isC then [(2, 64), (3, 16), (4, 4), (5, 1)] else [(2, 256), (3, 64), (4, 16), (5, 4), (6, 1)]
  (sizes.foldl (fun (r : Nat × Option (Nat × Nat)) e =>
    match r.2 with
    | some _ => r
    | none => if pair < r.1 + e.2 then (r.1, some (e.1, pair - r.1)) else (r.1 + e.2, none)) (0, none)).2

/-- The partitions that hold a binding through a router. -/
def State.boundThrough (s : State) (level r : Nat) : List Nat :=
  ((List.range 18).filterMap (fun ch => match s.act ch with
    | some b => if (b.routers level).contains r then some b.part else none
    | none => none)).eraseDups

/-- The partitions whose bindings carry a valid field through a router in this kclk cycle: a count of one of its leaves, or a payload
token that it holds or has sent (R155; DESIGN CHOICE: assumption 69). -/
def State.carriedThrough (s : State) (level r : Nat) : List Nat :=
  ((List.range 18).filterMap (fun ch => match s.act ch with
    | some b =>
      if b.leaves.any (fun e => e.1 / 4 ^ (level - 1) == r && s.leafSum e.1 ch % 64 != 0)
          || s.pipe.tokens.any (fun k => k.chan == ch && (k.level == level && k.router == r
            || k.level == level + 1 && 4 * k.router + k.child == r)) then some b.part else none
    | none => none)).eraseDups

/-- PAIR_MISCOMPARE (R154, R155). -/
def execPairMiscompare (pair : BitVec 9) (aBad bBad : Bool) (s : State) : Host.Outcome State Fault Refusal :=
  let n := pair.toNat
  let off := R.spPair (n / 16)
  let i := 2 * (n % 16)
  let old := s.fld off (i + 1) i
  match s.pairRouter n with
  | none => .next s
  | some (level, r) =>
    if old = 1 ∨ old = 2 then .next s
    else
      let new := if aBad && !bBad then 1 else if bBad && !aBad then 2 else 3
      let s := s.setFld off (i + 1) i new
      let s := if old = new then s else s.setFlag R.spStatus 1 true
      let s := s.ao { type := 0x07, unit := 7, code := if new = 3 then Fc.codeUncorrectable else 0, aux := new, info := n }
      if new = 3 then
        .next ((s.carriedThrough level r).foldl (fun s p => s.fault p { code := Fc.codeUncorrectable, unit := 7 })
          (s.setFlag R.spStatus 2 true))
      else .next s

/-- LEAF_SELF_CHECK_FAILURE (R155). -/
def execLeafSelfCheckFailure (leaf : BitVec 10) (s : State) : Host.Outcome State Fault Refusal :=
  let l := leaf.toNat
  if s.nTap ≤ 4 * l then .next s
  else
    let s := s.ao { type := 0x07, unit := 7, code := Fc.codeUncorrectable, info := l }
    .next ((s.boundThrough 1 l).foldl (fun s p => s.fault p { code := Fc.codeUncorrectable, unit := 7 }) s)

/-! ## Mode entries (R191) -/

/-- One half of an SP_BMODE write: the half, and whether it was ignored. -/
def State.bmodeHalf (s : State) (k h v : Nat) : State :=
  let off := R.spBmode k
  let ign := fun (s : State) => s.setFlag R.spRedStatus 1 true
  let new := v / 2 ^ (16 * h) % 2 ^ 16
  let old := s.fld off (16 * h + 15) (16 * h)
  match s.ownerBasin (64 * (2 * k + h)) with
  | none => ign s
  | some p =>
    if s.wasLocked p then ign (s.cfgLocked p 8 off)
    else
      let rm := if rmReserved (new % 256) then old % 256 else new % 256
      let s := if rmReserved (new % 256) then ign s else s
      s.setFld off (16 * h + 15) (16 * h) (rm + bits new 13 8 * 2 ^ 8 + bits new 15 15 * 2 ^ 15)

/-- A write of SP_BMODEk. -/
def State.bmodeWrite (s : State) (k v : Nat) : State := (s.bmodeHalf k 0 v).bmodeHalf k 1 v

end Sys2Proof.Machine
end

