-- ==== Sys2Proof/Machine/Sched.lean ====
section
/-! DEFINITION. Schedule images: their checks and loading (R101 to R108), and the staging of rows (R109 to R111). -/

namespace Sys2Proof.Machine

/-! ## Rows (R103, R104) -/

/-- The row that 256 bits spell. -/
def Row.of (w : Nat) : Row :=
  { action := bits w 255 252, slot := bits w 251 236, cnum := bits w 235 212, chan := bits w 211 207,
    layer := bits w 199 188, oper := bits w 187 176, arg := BitVec.ofNat 64 w }

/-- ACTION codes (R103). -/
def actNop : Nat := 0
def actBind : Nat := 1
def actArm : Nat := 2
def actRelease : Nat := 3
def actCheck : Nat := 4
def actSnapshot : Nat := 5

def Row.plist (r : Row) : Nat := bits r.arg.toNat 15 0
def Row.span (r : Row) : Nat := bits r.arg.toNat 31 16

/-- The bits of ARG that an action defines (R104). -/
def argMask (action : Nat) : Nat :=
  if action = actBind then 2 ^ 32 - 1 else if action = actArm then 2 ^ 64 - 1 - field 52 4
  else if action = actCheck then field 0 21 + field 24 6 else 0

/-- No reserved encoding and no reserved bit (R103, R104), those of the A operand of an ARM among them (R73). -/
def rowFormOk (w : Nat) : Bool :=
  let r := Row.of w
  bits w 206 200 == 0 && bits w 175 64 == 0 && decide (r.action ≤ 5)
    && (r.arg.toNat &&& argMask r.action) == r.arg.toNat
    && (if r.action = actBind then decide (r.chan ≤ 17) else r.chan == 31)
    && (!(r.action == actNop || r.action == actSnapshot) || r.cnum == 0)
    && (r.action != actArm || decide (1 ≤ bits r.arg.toNat 63 60 ∧ bits r.arg.toNat 63 60 ≤ 5))

/-- The first slot in which p may have no row (R42). -/
def State.rowLimit (s : State) (p : Nat) : Nat := s.nSlot - s.closeReg p - s.tail p

/-- R106's checks of one row of p. -/
def State.rowOk (s : State) (p w : Nat) : Bool :=
  let r := Row.of w
  rowFormOk w && decide (r.slot < s.rowLimit p)
    && (r.action == actNop || r.action == actSnapshot || s.holdsCnum p r.cnum)
    && (r.action != actBind || ((s.reg (R.hgPchan p)).testBit r.chan && s.holdsDir p r.plist))

/-! ## Programs (R106) -/

/-- The last slot of a binding in a tick of N slots. -/
def Row.lastIn (n : Nat) (r : Row) : Nat := if r.span = 0 ∨ n ≤ r.slot + r.span then n - 1 else r.slot + r.span - 1

/-- Two bindings hold a slot in common. -/
def rowsMeet (n : Nat) (a b : Row) : Bool := decide (a.slot ≤ b.lastIn n ∧ b.slot ≤ a.lastIn n)

/-- Two bindings of one program conflict: one channel or one cistern twice in a slot, or a cistern on another channel in
the slot directly after. -/
def bindsClash (n : Nat) (a b : Row) : Bool :=
  (rowsMeet n a b && (a.chan == b.chan || a.cnum == b.cnum))
    || (a.cnum == b.cnum && a.chan != b.chan && (a.lastIn n + 1 == b.slot || b.lastIn n + 1 == a.slot))

/-- A relation holds of no two members of a list. -/
def noPair (f : Row → Row → Bool) : List Row → Bool
  | [] => true
  | r :: t => t.all (fun u => !f r u) && noPair f t

/-- SLOT never falls. -/
def slotsRise : List Row → Bool
  | a :: b :: t => decide (a.slot ≤ b.slot) && slotsRise (b :: t)
  | _ => true

/-- The binds of a program. -/
def bindRows (l : List Row) : List Row := l.filter (fun r => r.action == actBind)

/-- The checks of one program; `targets` gives the participants of a PLIST and `words` its body words. -/
def programOk (n : Nat) (targets : Nat → List (Nat × Nat)) (words : Nat → Nat) (l : List Row) : Bool :=
  let bs := bindRows l
  slotsRise l && l.all (fun r => decide (l.countP (fun u => u.slot == r.slot) ≤ 64)) && noPair (bindsClash n) bs
    && bs.all (fun r =>
      decide (((bs.filter (fun u => u.slot == r.slot)).map (fun u => words u.plist)).sum ≤ 96)
        && (let on := (bs.filter (fun u => decide (u.slot ≤ r.slot ∧ r.slot ≤ u.lastIn n))).map (fun u => targets u.plist)
            ((on.flatten).map (·.1)).all (fun lf => decide (on.countP (fun t => t.any (fun e => e.1 == lf)) ≤ 16))))

/-- A cistern is not bound to another channel in slot 0 of the program that follows (R106). -/
def followOk (n : Nat) (a b : List Row) : Bool :=
  (bindRows a).all (fun x => x.lastIn n != n - 1 ||
    (bindRows b).all (fun y => !(y.slot == 0 && y.cnum == x.cnum && y.chan != x.chan)))

/-! ## Images (R101, R102, R105) -/

/-- The header's fields. -/
structure ImgHead where
  format : Nat
  ntick : Nat
  nslotM1 : Nat
  nlist : Nat
  nrow : Nat
  bodyBase : Nat
  indexOff : Nat
  rowOff : Nat
  listOff : Nat
  len : Nat
  crc : Nat
  rsv : Nat
  deriving DecidableEq, Repr

def ImgHead.of (m : List Byte) : ImgHead :=
  { format := bytesAt m 0 1, ntick := bytesAt m 2 2, nslotM1 := bytesAt m 4 2, nlist := bytesAt m 6 2,
    nrow := bytesAt m 8 4, bodyBase := bytesAt m 0xC 4, indexOff := bytesAt m 0x10 4, rowOff := bytesAt m 0x14 4,
    listOff := bytesAt m 0x18 4, len := bytesAt m 0x1C 4, crc := bytesAt m 0x3C 4,
    rsv := bytesAt m 1 1 + bytesAt m 0x20 28 }

/-- An area that starts at a multiple of 64 beyond the header and ends within the image. -/
def areaOk (off size len : Nat) : Bool := off % 64 == 0 && decide (0x40 ≤ off ∧ off + size ≤ len)

/-- The header passes, and the CRC over the image holds. -/
def ImgHead.ok (h : ImgHead) (m : List Byte) (n : Nat) : Bool :=
  h.format == 1 && h.rsv == 0 && decide (1 ≤ h.ntick ∧ h.ntick ≤ 4096) && h.nslotM1 + 1 == n
    && areaOk h.indexOff (8 * h.ntick) h.len && areaOk h.rowOff (32 * h.nrow) h.len
    && areaOk h.listOff (528 * h.nlist) h.len
    && crc32 (m.take 0x3C ++ [0, 0, 0, 0] ++ (m.drop 0x40).take (h.len - 0x40)) == h.crc

/-- Row i of the row area, as 256 bits. -/
def ImgHead.row (h : ImgHead) (m : List Byte) (i : Nat) : Nat := bytesAt m (h.rowOff + 32 * i) 32

/-- The tick index. -/
def ImgHead.index (h : ImgHead) (m : List Byte) : List (Nat × Nat) :=
  (List.range h.ntick).map (fun i => (bytesAt m (h.indexOff + 8 * i) 4, bytesAt m (h.indexOff + 8 * i + 4) 4))

/-- A list of the image: its directory entry, its reserved bytes, its logical taps. -/
structure ImgList where
  dir : Nat
  rsv : Nat
  taps : List Nat
  deriving DecidableEq, Repr

def ImgHead.lists (h : ImgHead) (m : List Byte) : List ImgList :=
  (List.range h.nlist).map (fun i =>
    let o := h.listOff + 528 * i
    let bm := bytesAt m (o + 16) 512
    { dir := bytesAt m o 2, rsv := bytesAt m (o + 2) 14, taps := (List.range 4096).filter (fun t => bm.testBit t) })

/-- The leaf targets of a list, translated to physical taps (R105). -/
def State.imgTargets (s : State) (l : ImgList) : List (Nat × Nat) := tapsTargets (l.taps.filterMap s.physical)

/-- The nibble stream of a set of targets (R90); an empty set has none. -/
def State.streamOf (s : State) (ts : List (Nat × Nat)) : List Nat := if ts.isEmpty then [] else listStream ts s.depth 0

/-- The body words of a stream. -/
def streamWords (l : List Nat) : Nat := (l.length + 31) / 32

/-- Every check of R106 beside the window. No case of R106 names an entry of the tick index with rows beyond NROW: DESIGN CHOICE, it
refuses the load (assumption 72). -/
def State.imageOk (s : State) (p : Nat) (m : List Byte) : Bool :=
  let h := ImgHead.of m
  let n := s.nSlot
  let rows := (List.range h.nrow).map (h.row m)
  let idx := h.index m
  let ls := h.lists m
  let progs := idx.map (fun e => ((rows.drop e.1).take e.2).map Row.of)
  let own := fun i => ls.find? (fun l => l.dir == i)
  let targets := fun i => match own i with | some l => s.imgTargets l | none => s.listTargets i
  let words := fun i => match own i with
    | some l => streamWords (s.streamOf (s.imgTargets l))
    | none => (bits (s.dirEntry i) 45 35 + 31) / 32
  let total := (ls.map (fun l => streamWords (s.streamOf (s.imgTargets l)))).sum
  h.ok m n && idx.all (fun e => decide (e.1 + e.2 ≤ h.nrow)) && rows.all (s.rowOk p)
    && ls.all (fun l => l.rsv == 0 && s.holdsDir p l.dir && l.taps.all (fun t => decide (t < s.nGood)))
    && decide ((ls.map (·.dir)).Nodup)
    && (total == 0 || decide (s.bodyBase p ≤ h.bodyBase ∧ h.bodyBase + total ≤ s.bodyEnd p))
    && progs.all (programOk n targets words)
    && (List.range h.ntick).all (fun i => followOk n (progs.getD i []) (progs.getD ((i + 1) % h.ntick) []))
    && (h.nrow == 0 || s.fld (R.hgPstage p) 7 0 != 0)

/-! ## Writing the lists (R105, R108) -/

/-- The body words of a stream, in order. -/
def streamData : Nat → List Nat → List Nat
  | 0, _ => []
  | n + 1, l => ((l.take 32).zipIdx.foldl (fun a e => a + e.1 * 16 ^ e.2) 0) :: streamData n (l.drop 32)

/-- Write directory entry i (R89). -/
def State.setDir (s : State) (i start len : Nat) : State :=
  let s := (s.codeRead 2 (i / 2)).1
  let w := (tget 0 s.cst.rl (i / 2)).toNat
  let lo := 64 * (i % 2)
  s.setRl (i / 2) (BitVec.ofNat 128 (setBits w (lo + 63) lo (start % 2 ^ 18 * 2 ^ 46 + len % 2 ^ 11 * 2 ^ 35)))

/-- Write one list from body word `at0` on; the next free word is answered. -/
def State.writeList (s : State) (at0 : Nat) (l : ImgList) : State × Nat :=
  let st := s.streamOf (s.imgTargets l)
  let ws := streamData (streamWords st) st
  let s := ws.zipIdx.foldl (fun s e => (s.setRl (at0 + e.2) (BitVec.ofNat 128 e.1)).clearErr 2 (at0 + e.2)) s
  (s.setDir l.dir at0 st.length, at0 + ws.length)

/-! ## Tables (R102, R107) -/

/-- A table without rows to run. -/
def Table.empty (t : Table) : Bool := t.index.isEmpty

/-- The table of an accepted image. The look-ahead of R109 takes a row's SLOT as it stands here, at the load, until the row is read
(DESIGN CHOICE: assumption 70). -/
def tableOf (addr : Nat) (m : List Byte) : Table :=
  let h := ImgHead.of m
  { base := addr, rowOff := h.rowOff, ntick := h.ntick, index := h.index m,
    slots := (List.range h.nrow).map (fun i => (Row.of (h.row m i)).slot) }

/-- The tick at which the waiting table with switch tick `sw` becomes active, where p is in RUN (R107). -/
def State.switchAt (s : State) (p sw : Nat) : Option Nat :=
  let x := s.prt p
  let m := max sw (x.tick.toNat + 1)
  if s.pstate p ≠ 2 then none
  else match x.tbl with
    | none => some m
    | some (t, n0) => some (m + (t.ntick - (m - n0) % t.ntick) % t.ntick)

/-- The table that runs p's tick n, with its n0. -/
def State.tableAt (s : State) (p n : Nat) : Option (Table × Nat) :=
  let x := s.prt p
  match x.next with
  | none => x.tbl
  | some (t, sw) => match s.switchAt p sw with
    | some m => if m ≤ n then (if t.empty then none else some (t, m)) else x.tbl
    | none => x.tbl

/-- A tick that no row belongs to: a read marked with it is discarded. -/
def noTick : Nat := 2 ^ 48

/-- Staged rows and reads for ticks from n on belong to a table that is replaced. -/
def State.unstage (s : State) (p n : Nat) : State :=
  s.modPrt p (fun x => { x with
    staged := x.staged.filter (fun r => decide (r.tick < n)),
    reads := x.reads.map (fun r => if n ≤ r.1 then (noTick, r.2) else r),
    stTick := if n ≤ x.stTick ∨ x.tbl.isNone then n else x.stTick,
    stIdx := if n ≤ x.stTick ∨ x.tbl.isNone then 0 else x.stIdx })

/-- A load is accepted: the table waits for its switch (R107), and DATA is the tick of the switch, if it is known. -/
def State.placeTable (s : State) (p : Nat) (t : Table) (sw : Nat) : State × Nat :=
  let old := match (s.prt p).next with | some (_, w) => s.switchAt p w | none => none
  let s := s.modPrt p (fun x => { x with next := some (t, sw) })
  match s.switchAt p sw with
  | none => (s, 0)
  | some m => (s.unstage p (match old with | some o => min o m | none => m), m)

/-- A load ends: the command completes. -/
def State.loadEnd (s : State) (p f cidx : Nat) (r : CplRec) : State :=
  let s := s.modPrt p (fun x => { x with load := none })
  match (s.fn f).findFlight cidx with
  | some i => s.complete f i.cmd r
  | none => s

/-- SCHED_LOAD of function f starts (R106, R107, R307): an image address of 0 loads an empty table at once. -/
def State.loadStart (s : State) (p f cidx addr sw : Nat) : State :=
  let s := s.modPrt p (fun x => { x with load := some (f, cidx, addr, sw), loadAsked := false })
  if addr = 0 then
    let r := s.placeTable p {} sw
    r.1.loadEnd p f cidx { data := r.2 }
  else if f ≠ 0 ∧ !s.inWindow p addr 64 then s.loadEnd p f cidx { cstat := 1, fcode := Fc.rights }
  else s.memRd (.image p) addr 64 none

/-- The reads of an image beyond its header, at most 4,096 bytes each (R320, R322). -/
def State.loadRest (s : State) (p addr len : Nat) : State :=
  (List.range ((len - 64 + 4095) / 4096)).foldl (fun s i =>
    s.memRd (.image p) (addr + 64 + 4096 * i) (min 4096 (len - 64 - 4096 * i)) none)
    (s.modPrt p (fun x => { x with loadAsked := true }))

/-- The whole image is here: it is checked, and accepted or refused (R106, R107). -/
def State.loadJudge (s : State) (p f cidx addr sw : Nat) (image : List Byte) : State :=
  let s := s.memGotAll (.image p)
  if !s.imageOk p image then s.loadEnd p f cidx { cstat := 1, fcode := Fc.descFormat }
  else
    let h := ImgHead.of image
    let w := (h.lists image).foldl (fun (r : State × Nat) l => r.1.writeList r.2 l) (s, h.bodyBase)
    let r := w.1.placeTable p (tableOf addr image) sw
    r.1.loadEnd p f cidx { data := r.2 }

/-- IMAGE_LOAD_DONE (R105, R106, R307, R323): `image` holds the bytes read from the image's base on, first the header and then all of
it; an error answers the read of the bytes at `err.fail`. -/
def execImageLoadDone (p : BitVec 5) (image : List Byte) (err : ImageResp) (s : State) :
    Host.Outcome State Fault Refusal :=
  let p := p.toNat
  match (s.prt p).load with
  | none => .next s
  | some (f, cidx, addr, sw) =>
    let h := ImgHead.of image
    if badResp err.resp then
      .next (((s.memGotAll (.image p)).loadEnd p f cidx { cstat := 1, fcode := Fc.busFault }).sysError (addr + err.fail.toNat)
        false false err.resp).settle
    else if (s.prt p).loadAsked then .next (s.loadJudge p f cidx addr sw image).settle
    else if f ≠ 0 ∧ !s.inWindow p addr (max h.len 64) then
      .next ((s.memGotAll (.image p)).loadEnd p f cidx { cstat := 1, fcode := Fc.rights }).settle
    else
      let s := (s.memGot (.image p)).loadRest p addr h.len
      .next (if h.len ≤ image.length then s.loadJudge p f cidx addr sw image else s).settle

/-! ## Staging (R109 to R111) -/

/-- The next row to stage, from a tick and a place on: its tick, its place, its table with n0. -/
def State.nextRow (s : State) (p : Nat) : Nat → Nat → Nat → Option (Nat × Nat × Table × Nat)
  | 0, _, _ => none
  | fuel + 1, n, i =>
    match s.tableAt p n with
    | some (t, n0) =>
      if i < t.rowsOf ((n - n0) % t.ntick) then some (n, i, t, n0) else s.nextRow p fuel (n + 1) 0
    | none => s.nextRow p fuel (n + 1) 0

/-- The place in the row area of row i of tick n. -/
def Table.place (t : Table) (n0 n i : Nat) : Nat := (t.index.getD ((n - n0) % t.ntick) (0, 0)).1 + i

/-- The partition's staging share has room for one more row (R109). -/
def State.stageRoom (s : State) (p : Nat) : Bool :=
  let x := s.prt p
  decide (x.staged.length + x.reads.length < 64 * s.fld (R.hgPstage p) 7 0)

/-- ROW_STAGING (R109, R110): where a table is active. -/
def execRowStaging (p : BitVec 5) (s : State) : Host.Outcome State Fault Refusal :=
  let p := p.toNat
  let x := s.prt p
  if s.pstate p ≠ 2 ∨ x.tbl.isNone ∨ x.stErr ∨ !s.stageRoom p then .next s
  else match s.nextRow p 66 x.stTick x.stIdx with
    | none => .next s
    | some (n, i, t, n0) =>
      let k := t.place n0 n i
      if n * s.nSlot + t.slots.getD k 0 ≤ x.tick.toNat * s.nSlot + x.slot + s.fld R.raeCtrl 6 0 then
        let fin := decide (t.rowsOf ((n - n0) % t.ntick) ≤ i + 1)
        let a := t.base + t.rowOff + 32 * k
        let s := s.memRd (.row p) a 32 none
        .next (s.modPrt p (fun x => { x with
          reads := x.reads ++ [(n, i, a)], stTick := if fin then n + 1 else n, stIdx := if fin then 0 else i + 1 }))
      else .next s

/-- A read of rows fails: the rows from there on are read again after the next slot boundary, unless they are wanted no more (R323). -/
def State.rowReadFail (s : State) (p n i a : Nat) (resp : BitVec 2) : State :=
  let x := s.prt p
  let s := if n = noTick then s
    else s.setPrt p { x with reads := x.reads.map (fun r => (noTick, r.2)), stTick := n, stIdx := i, stErr := true }
  (s.event p { code := Fc.busFault, n1 := 0xFFFFF, unit := 6, info := a }).sysError a false false resp

/-- A row fails its checks (R110). -/
def State.rowBad (s : State) (p n i w : Nat) : State :=
  let r := Row.of w
  let k := match s.tableAt p n with | some (t, n0) => t.place n0 n i | none => i
  (s.sb p { type := 0x0B, cnum := r.cnum, layer := r.layer, oper := r.oper }).fault p
    { code := Fc.descFormat, cnum := r.cnum, layer := r.layer, oper := r.oper, unit := 6, info := k }

/-- The position (tick, slot) of a row is reached. -/
def PartRt.due (x : PartRt) (n slot : Nat) : Bool :=
  decide (n < x.tick.toNat) || (n == x.tick.toNat && decide (slot ≤ x.slot))

/-- A row that passed its checks is staged; one for a spilled cistern asks for its fill (R111). -/
def State.stageRow (s : State) (p n w : Nat) : State :=
  let r := Row.of w
  let x := s.prt p
  let late := x.due n r.slot
  let s := if late && r.action == actNop then s
    else s.setPrt p { x with staged := x.staged ++ [{ tick := n, row := r, late := late }] }
  let s := s.modPrt p (fun x => { x with stSlot := r.slot })
  if 0x200000 ≤ r.cnum ∧ (s.slotOf p r.cnum).isNone then s.requestFill p r.cnum else s

/-! ## Shadow bindings (R111, R180) -/

/-- The binding of a row. -/
def Row.bind (p : Nat) (r : Row) : Bind :=
  { part := p, chan := r.chan, cnum := r.cnum, plist := r.plist, layer := r.layer, oper := r.oper,
    last := if r.span = 0 then 2 ^ 20 else r.slot + r.span - 1 }

/-- The shadow load of a payload binding reads the entry and the mode that governs it (R180). -/
def State.loadMode (s : State) (b : Bind) : State × Option Bind :=
  if b.chan < 16 then (s, some b)
  else match s.slotOf b.part b.cnum with
    | none => (s, none)
    | some n =>
      let r := (s.cycles 1).readEntry b.part n b.cnum
      let e := r.1.entry n
      let m := r.1.mode e.basin.toNat
      if r.2 && e.kind == kReduce && e.basin != 0xFFFF then
        (r.1, some { b with rmode := m.rm, clen := m.len, maskmode := e.maskmode })
      else (r.1, none)

/-- Load a binding's shadow, if it is not there: its participation list, and for a payload channel its mode. -/
def State.loadShadow (s : State) (b : Bind) : State :=
  let there := match tget none s.pipe.shadow b.chan with
    | some o => o.part == b.part && o.cnum == b.cnum && o.plist == b.plist && o.last == b.last
    | none => false
  if there then s
  else
    let s := { s with pipe := { s.pipe with shadow := tset none s.pipe.shadow b.chan none } }
    let r := s.readList b.plist
    let m := r.1.loadMode b
    match m.2 with
    | some b =>
      if r.2 then
        let b := { b with leaves := (m.1.listTargets b.plist).filter (fun e => e.2 != 0) }
        { m.1 with pipe := { m.1.pipe with shadow := tset none m.1.pipe.shadow b.chan (some b) } }
      else m.1
    | none => m.1

/-- p's tick does not end at its nominal length: the die has received LATE_TICK (R265), or it decides alone and is late itself (R48,
R273). -/
def State.isLate (s : State) (p : Nat) : Bool :=
  let x := s.prt p
  x.lateDown || (x.late && (x.alone || match s.tcloseOf p with
    | some c => s.fchFrozen c
    | none => true))

/-- p's tick ends at the boundary of its slot k, as far as it is decided (R44 to R47). Under a STOP no stretch accrues (R365): a
stretch that is open ends there. -/
def State.endsAt (s : State) (p k : Nat) : Bool :=
  let x := s.prt p
  let e := s.nominal p
  if k < e then false
  else if !s.stretchPolicy p || s.pstate p != 2 || !s.isLate p then true
  else match x.stretch with
    | some d => decide (e + d ≤ k) || s.stopped
    | none => decide (e + s.capOf p ≤ k) || s.stopped || (k == e && (x.halted || x.cut))

/-- The position that follows. -/
def State.nextPos (s : State) (p : Nat) : Nat × Nat :=
  let x := s.prt p
  if s.endsAt p (x.slot + 1) then (x.tick.toNat + 1, 0) else (x.tick.toNat, x.slot + 1)

/-- The staged bindings that begin at a position, in order. -/
def PartRt.bindsAt (x : PartRt) (p : Nat) (pos : Nat × Nat) : List Bind :=
  (x.staged.filter (fun r => r.tick == pos.1 && r.row.slot == pos.2 && r.row.action == actBind && !r.late)).map
    (fun r => r.row.bind p)

/-- A binding goes on where one of the same cistern and list on the same channel ends (R118). -/
def State.continues (s : State) (b : Bind) : Bool :=
  match s.act b.chan with
  | some a => a.part == b.part && a.cnum == b.cnum && a.plist == b.plist
  | none => false

/-- The bindings that should begin at the next boundary: those of rows, and those that missed a slot before. -/
def State.comingBinds (s : State) (p : Nat) : List Bind :=
  let x := s.prt p
  let pos := s.nextPos p
  x.bindsAt p pos ++ (if pos.2 = 0 then [] else x.spans.filter (fun b => decide (pos.2 ≤ b.last)))

/-- Rows are not executed and bindings do not take effect (R127, R365, R294). -/
def State.rowsOff (s : State) (p : Nat) : Bool :=
  (s.prt p).halted || (s.prt p).cut || s.stopped || s.pstate p != 2

/-- Rows run in the slot that begins next: those of p run now, or its tick begins then with a RESUME or after a STOP (R128, R368). -/
def State.rowsNext (s : State) (p : Nat) : Bool :=
  let x := s.prt p
  let first := decide ((s.nextPos p).2 = 0)
  !s.stopped && s.pstate p == 2 && (!x.halted || (x.resumePend && first)) && (!x.cut || first)

/-- The RAE loads the shadows for the next boundary (R111). -/
def State.loadShadows (s : State) (p : Nat) : State :=
  if !s.rowsNext p then s
  else (s.comingBinds p).foldl (fun s b => if s.continues b then s else s.loadShadow b) s

/-- ROW_READ_DONE (R110, R111, R323): the oldest read. -/
def execRowReadDone (p : BitVec 5) (row : BitVec 256) (resp : BitVec 2) (s : State) : Host.Outcome State Fault Refusal :=
  let p := p.toNat
  match (s.prt p).reads with
  | [] => .next s
  | (n, i, a) :: t =>
    let s := (s.memGot (.row p)).modPrt p (fun x => { x with reads := t, stSlot := if i = 0 ∧ n ≠ noTick then 0 else x.stSlot })
    let w := row.toNat
    if badResp resp then .next (s.rowReadFail p n i a resp).settle
    else if n = noTick then .next s.settle
    else if s.rowOk p w && decide ((s.prt p).stSlot ≤ (Row.of w).slot) then
      .next ((s.stageRow p n w).loadShadows p).settle
    else .next (s.rowBad p n i w).settle

/-- SWAP_STROBE (R113): every channel of p whose shadow is complete swaps at the next boundary. -/
def execSwapStrobe (p : BitVec 5) (s : State) : Host.Outcome State Fault Refusal :=
  let p := p.toNat
  if !s.rowsNext p then .next s
  else
    let s := s.loadShadows p
    let chs := (List.range 18).filter (fun c => match tget none s.pipe.shadow c with
      | some b => b.part == p && !s.pipe.strobed.contains c
      | none => false)
    .next { s with pipe := { s.pipe with strobed := s.pipe.strobed ++ chs } }

end Sys2Proof.Machine
end

