-- ==== Sys2Proof/Machine/Headgate.lean ====
section
/-! DEFINITION. The Headgate: the outcome of a partition tick (R42 to R49), its slot boundaries (R112, R113, R115, R118,
R119), halts (R127, R128, R368), entering QUIESCING (R294), table switches (R107), and rows (R114). -/

namespace Sys2Proof.Machine

/-! ## The outcome of a tick (R44, R46, R47, R49) -/

/-- Nothing is evaluated or executed: a halt, a STOP, or the rest of a tick that a STOP cut (R49, R127, R365, R368). -/
def State.haltedOrCut (s : State) (p : Nat) : Bool := (s.prt p).halted || (s.prt p).cut || s.stopped

/-- The FAULT outcome of R44, without its counting: the cisterns whose deadline is the close that has come are marked, and the
fault entry written, in the kclk cycle that follows (R41). -/
def State.faultOutcome (s : State) (p : Nat) : State :=
  (s.closeFlush p).modPrt p (fun x => { x with closing := some { tick := x.tick, dl := x.dl } })

/-- The tick counts as an overrun (R49). -/
def State.overrun (s : State) (p : Nat) (faulted : Bool) : State :=
  (s.bump (R.hgPovrCnt p) 1).setPair (R.hgPlastOvr p) ((s.prt p).tick.toNat + bit faulted * 2 ^ 63)

/-- The shift of the next tick, and its peak (R38, R55). -/
def State.setShift (s : State) (p v : Nat) : State :=
  (s.setFld (R.hgPshift p) 15 0 v).setFld (R.hgPshift p) 31 16 (max (s.fld (R.hgPshift p) 31 16) v)

/-- A stretch of x slots is taken (R46, R49). -/
def State.stretchTaken (s : State) (p x : Nat) : State :=
  let base := s.shift p - (s.prt p).payback
  if x = 0 then s.setShift p base
  else (((s.overrun p false).bump (R.hgPstretchSum p) x).fault p
    { code := Fc.tickOverrun, n1 := x, stretch := true, unit := 5 }).setShift p (base + x)

/-- The tick ends at its cap (R47). -/
def State.capTaken (s : State) (p : Nat) : State :=
  let cap := s.capOf p
  let base := s.shift p - (s.prt p).payback
  let s := (s.overrun p true).bump (R.hgPstretchSum p) cap
  let s := if s.haltedOrCut p || s.workDone p then s else s.faultOutcome p
  s.setShift p (base + cap)

/-- A tick that a loss of members ended after x slots of stretch, with work that is not complete (R273): its cisterns are marked as
R44 says, and it counts as one that ended at its cap (R47; DESIGN CHOICE: assumption 74). -/
def State.aloneTaken (s : State) (p x : Nat) : State :=
  let base := s.shift p - (s.prt p).payback
  (((s.overrun p true).bump (R.hgPstretchSum p) x).faultOutcome p).setShift p (base + x)

/-- The outcome of p's tick, which ends at the next boundary (R50, step 3). Under a STOP only the slots of stretch that had passed by
its E count (R365; DESIGN CHOICE: assumption 73). -/
def State.tickOutcome (s : State) (p : Nat) : State :=
  let x := s.prt p
  let base := s.shift p - x.payback
  if s.pstate p ≠ 2 then s.setShift p base
  else if !s.stretchPolicy p then
    if s.haltedOrCut p || s.workDone p then s.setShift p base
    else ((s.faultOutcome p).overrun p true).setShift p base
  else if !s.isLate p then s.setShift p base
  else if s.stopped then s.stretchTaken p (x.slot + 1 - s.nominal p)
  else match x.stretch with
    | some d => if x.alone && !s.workDone p then s.aloneTaken p d else s.stretchTaken p d
    | none => if s.haltedOrCut p ∧ x.slot + 1 = s.nominal p then s.setShift p base else s.capTaken p

/-! ## Bindings at a boundary (R113, R115, R118, R119) -/

/-- End every binding of p, as at B′ in R118, and forget what was loaded for it. -/
def State.endBinds (s : State) (p : Nat) : State :=
  let chs := (List.range 18).filter (fun c => match s.act c with | some b => b.part == p | none => false)
  let s := chs.foldl (fun s c => s.endBinding c) s
  let mine := (List.range 18).filter (fun c => match tget none s.pipe.shadow c with
    | some b => b.part == p
    | none => false)
  let s := { s with pipe := { s.pipe with
    shadow := mine.foldl (fun t c => tset none t c none) s.pipe.shadow,
    strobed := s.pipe.strobed.filter (fun c => !mine.contains c) } }
  s.modPrt p (fun x => { x with spans := [] })

/-- A binding misses a slot (R111): BIND_MISS, and another try in the next slot of its span. -/
def State.bindMiss (s : State) (b : Bind) : State :=
  let s := s.sb b.part { type := 0x04, cnum := b.cnum, layer := b.layer, oper := b.oper }
  s.modPrt b.part (fun x => { x with spans := x.spans ++ (if x.slot + 1 ≤ b.last then [b] else []) })

/-- A binding takes effect, and its bind sample goes to its bank (R115). -/
def State.bindEffect (s : State) (b : Bind) : State :=
  let s := ((s.setAct b.chan (some b)).count { evt := 0x22, part := some b.part }).trace
    { evt := 0x0B, part := b.part, cnum := b.cnum, layer := b.layer, oper := b.oper, src := b.chan }
  s.tryBank (.sample b.chan b.part b.cnum) (fun s => s.bindSample b.chan b.part b.cnum)

/-- A binding begins: it takes effect if its shadow was complete at the strobe, its cistern is there, and no other
channel held the cistern in the slot before (R107, R111, R115). -/
def State.bindBegin (s : State) (old : List (Nat × Nat)) (b : Bind) : State :=
  let go := s.pipe.strobed.contains b.chan && !old.any (fun o => o.1 == b.cnum && o.2 != b.chan)
  match tget none s.pipe.shadow b.chan, s.slotOf b.part b.cnum with
  | some h, some _ =>
    if go && h.part == b.part && h.cnum == b.cnum && h.plist == b.plist then
      let s := s.endBinding b.chan
      ({ s with pipe := { s.pipe with shadow := tset none s.pipe.shadow b.chan none } } : State).bindEffect h
    else s.bindMiss b
  | _, _ => s.bindMiss b

/-- Leaf l already holds 16 bindings of lower channels (R119). -/
def State.leafFull (s : State) (ch l : Nat) : Bool :=
  decide (16 ≤ ((List.range ch).filter (fun c => match s.act c with
    | some b => b.leaves.any (fun e => e.1 == l)
    | none => false)).length)

/-- A payload channel loses the leaves that are over-subscribed: the binding is partial (R119). -/
def State.dropLeaves (s : State) (ch : Nat) : State :=
  s.modAct ch (fun b =>
    let keep := b.leaves.filter (fun e => !s.leafFull ch e.1)
    if keep.length = b.leaves.length then b else { b with leaves := keep, partialDrop := true })

/-- The bindings of p at the boundary at which its current slot begins; `start` at a tick boundary. Leaves whose taps are all fenced
withdraw from a payload binding that begins (R140, R153). -/
def State.swapBinds (s : State) (p : Nat) (start : Bool) : State :=
  let x := s.prt p
  let due := x.bindsAt p (x.tick.toNat, x.slot) ++ x.spans.filter (fun b => decide (x.slot ≤ b.last))
  let cont := due.filter s.continues
  let ends := (List.range 18).filter (fun c => match s.act c with
    | some b => b.part == p && (start || decide (b.last < x.slot)) && !cont.any (fun d => d.chan == c)
    | none => false)
  let s := cont.foldl (fun s b => s.modAct b.chan (fun a => { a with last := b.last })) s
  let old := ends.filterMap (fun c => (s.act c).map (fun b => (b.cnum, c)))
  let s := ends.foldl (fun s c => s.endBinding c) s
  let s := s.modPrt p (fun y => { y with spans := [] })
  let s := (due.filter (fun b => !cont.contains b)).foldl (fun s b => s.bindBegin old b) s
  let s := (((s.dropLeaves 16).dropLeaves 17).withdraw 16).withdraw 17
  let mine := s.reg (R.hgPchan p)
  { s with pipe := { s.pipe with strobed := s.pipe.strobed.filter (fun c => !mine.testBit c) } }

/-! ## Late rows (R111) -/

/-- A row whose spilled cistern is not in its frame is held; a BIND row is not (R111, R115). -/
def State.rowHeld (s : State) (p : Nat) (r : Row) : Bool :=
  r.action != actBind && decide (0x200000 ≤ r.cnum) && (s.slotOf p r.cnum).isNone

/-- Rows of the current slot that are not staged yet. -/
def State.unstagedNow (s : State) (p : Nat) : Nat :=
  let x := s.prt p
  let n := x.tick.toNat
  match x.tbl with
  | none => 0
  | some (t, n0) =>
    ((List.range (t.rowsOf ((n - n0) % t.ntick))).filter (fun i =>
      t.slots.getD (t.place n0 n i) 0 == x.slot
        && (decide (x.stTick < n) || (x.stTick == n && decide (x.stIdx ≤ i)) || x.reads.any (fun r => r.1 == n && r.2.1 == i)))).length

/-- The rows that fall due: held ones become late, the slot's ROW_LATE record is written, and NOP rows leave. -/
def State.dueRows (s : State) (p : Nat) : State :=
  let x := s.prt p
  let now := fun (r : Staged) => r.tick == x.tick.toNat && r.row.slot == x.slot
  let held := x.staged.countP (fun r => now r && s.rowHeld p r.row)
  let n := held + s.unstagedNow p
  let s := s.modPrt p (fun x => { x with
    staged := (x.staged.map (fun r => if now r && s.rowHeld p r.row then { r with late := true } else r)).filter
      (fun r => !(x.due r.tick r.row.slot && r.row.action == actNop)) })
  if n = 0 then s else s.sb p { type := 0x03, expect := n }

/-! ## Halts (R127, R128, R368) -/

/-- A halt takes effect at a slot boundary. -/
def State.haltEffect (s : State) (p : Nat) : State :=
  (s.endBinds p).modPrt p (fun x => { x with halted := true, haltPend := false })

/-- The waiting releases of p are issued, in the order of completion. -/
def State.releaseWaiting (s : State) (p : Nat) : State :=
  (s.pipe.ctxs.filter (fun c => c.waiting && c.note.part == p && s.dumpReady c.note)).foldl (fun s c => s.ctxIssue c) s

/-- Releases still outstanding are judged as if they were raised now (R125, R128). -/
def State.rejudge (s : State) (p : Nat) : State :=
  let t := (s.prt p).tick.toNat
  { s with pipe := { s.pipe with ctxs := s.pipe.ctxs.map (fun c =>
    if c.note.part = p ∧ !c.waiting then { c with judge := t, slot := 0, kclk := s.clk.kclk } else c) } }

/-- The smear interval of p ends (R362). -/
def State.unsmear (s : State) (p : Nat) : State :=
  { s with obs := { s.obs with smear := s.obs.smear &&& ~~~(BitVec.ofNat 32 (2 ^ p)) } }

/-- The halt of p ends. -/
def State.unhalt (s : State) (p : Nat) : State :=
  let s := s.modPrt p (fun x => { x with halted := false, resumePend := false })
  let s := if (s.prt p).haltPend then s else s.unsmear p
  (s.rejudge p).releaseWaiting p

/-- The rows of a tick that ends halted or cut are skipped (R128). -/
def State.skipRows (s : State) (p : Nat) : State :=
  let x := s.prt p
  let n := x.tick.toNat
  let all := match x.tbl with | some (t, n0) => t.rowsOf ((n - n0) % t.ntick) | none => 0
  let rest := if x.stTick < n then all else if x.stTick = n then all - x.stIdx else 0
  let k := x.staged.countP (fun r => decide (r.tick ≤ n)) + x.reads.countP (fun r => r.1 == n) + rest
  let s := if k = 0 then s else s.sb p { type := 0x0C, expect := k }
  s.modPrt p (fun x => { x with
    staged := x.staged.filter (fun r => decide (n < r.tick)),
    reads := x.reads.map (fun r => if r.1 ≤ n then (noTick, r.2) else r),
    stTick := if x.stTick ≤ n then n + 1 else x.stTick, stIdx := if x.stTick ≤ n then 0 else x.stIdx })

/-! ## QUIESCING (R294) -/

def State.setPstate (s : State) (p v : Nat) : State := s.setFld (R.pfmPstate p) 2 0 v

/-- PFM_PAT: the tick of the next change of state (R291, R317), as the register has it at the boundary. -/
def State.patOf (s : State) (p : Nat) : Nat := s.pair (R.pfmPat p) % 2 ^ 48

/-- p enters QUIESCING at its tick boundary. A HALT that has not taken effect changes nothing any more (R361). -/
def State.enterQuiescing (s : State) (p : Nat) : State :=
  let s := (s.endBinds p).setPstate p 3
  let s := if (s.prt p).haltPend then s.unsmear p else s
  let s := s.modPrt p (fun x => { x with
    quiesceReq := false, qTick := s.grid.tick + bit (s.shift p != 0), staged := [], reads := x.reads.map (fun r => (noTick, r.2)),
    dl := [], dlNext := [], haltPend := false, cut := false })
  if (s.prt p).halted then s.unhalt p else s

/-! ## Ticks and slots (R37, R112) -/

/-- The table whose switch has come becomes active (R107). -/
def State.switchTable (s : State) (p n : Nat) : State :=
  match (s.prt p).next with
  | none => s
  | some (t, _) => s.modPrt p (fun x => { x with
      tbl := if t.empty then none else some (t, n), next := none, tblSel := !x.tblSel })

/-- The close of p's tick is evaluated (R45, R49). -/
def State.evaluates (s : State) (p : Nat) : Bool := s.pstate p == 2 && s.stretchPolicy p && !s.haltedOrCut p

/-- The boundary at which p's current slot begins lies at the E′ of the last START: no halt takes effect there (R368). -/
def State.atStartTick (s : State) (p : Nat) : Bool :=
  match s.stop.left with
  | some e => s.partPos p (s.prt p).slot == e * s.nSlot
  | none => false

/-- What every slot boundary of p does after the position has moved (R112 from step 2 on). -/
def State.slotBegin (s : State) (p : Nat) (start : Bool) : State :=
  let s := s.modPrt p (fun x => { x with stErr := false })
  let s := if (s.prt p).haltPend && !s.stopped && !(s.prt p).halted && !s.atStartTick p then s.haltEffect p else s
  let s := (s.reissue p).delayStep p
  let s := (if s.rowsOff p then s else (s.swapBinds p start).dueRows p).loadShadows p
  if (s.prt p).slot = s.closePoint p ∧ (s.prt p).slot < s.nominal p ∧ s.evaluates p then s.closeEval p else s

/-- Armed dumps of p whose TICK has passed in tick n end TIMEOUT (R372). A release of the outcome that waits may still trigger them
(R371). -/
def State.dumpTimeouts (s : State) (p n : Nat) : State :=
  if s.obs.dumps.isEmpty || (s.prt p).closing.isSome then s
  else (List.range 16).foldl (fun s d => match tget none s.obs.dumps d with
    | some x => if x.armed && x.part == p && x.f 0x30 6 != 2 ^ 48 - 1 && decide (x.f 0x30 6 < n) then
        s.dumpEnd d { cstat := 2 } else s
    | none => s) s

/-- A partition tick that ended makes way for the next one: releases are judged, SUMMARY entries written, requests for
QUIESCING and RESUME taken, and the first slot begins. -/
def State.tickBegin (s : State) (p : Nat) : State :=
  let x := s.prt p
  let n := x.tick.toNat + 1
  let sw := match x.next with | some (_, w) => s.switchAt p w == some n | none => false
  let s := if s.haltedOrCut p then s.skipRows p else s.judgeAll p x.tick.toNat
  let s := ((s.summaries p).tcloseClear p).dumpTimeouts p n
  let pay := s.paybackOf p
  let s := s.modPrt p (fun x => { x with
    tick := BitVec.ofNat 48 n, slot := 0, payback := pay, late := false, sent := false, lateDown := false, stretch := none,
    capped := false, alone := false, dl := x.dlNext, dlNext := [], spans := [],
    stIdx := if x.stTick < n ∧ !(match x.tbl with
        | some (t, n0) => decide (x.stIdx < t.rowsOf ((x.stTick - n0) % t.ntick))
        | none => false) then 0 else x.stIdx,
    stTick := if x.stTick < n ∧ !(match x.tbl with
        | some (t, n0) => decide (x.stIdx < t.rowsOf ((x.stTick - n0) % t.ntick))
        | none => false) then n else x.stTick })
  let s := if s.stopped then s
    else
      let s := if x.cut then (s.modPrt p (fun x => { x with cut := false })).rejudge p else s
      if s.pstate p = 2 ∧ x.quiesceReq ∧ s.patOf p ≤ n then s.enterQuiescing p
      else
        let s := if x.halted && x.resumePend then s.unhalt p else s
        if sw then s.switchTable p n else s
  s.slotBegin p true

/-- Before p's next boundary: the close is evaluated there where CLOSE is 0 (R48). -/
def State.closeAtEnd (s : State) (p : Nat) : State :=
  let k := (s.prt p).slot + 1
  if k = s.nominal p ∧ s.closePoint p = k ∧ s.evaluates p then s.closeEval p else s

/-- p's next position is reached (R35, R37). -/
def State.partReached (s : State) (p : Nat) : Bool :=
  s.grid.running && s.active p && (s.prt p).begun && decide (s.partPos p ((s.prt p).slot + 1) ≤ s.gridIdx)

/-- PARTITION_SLOT_BOUNDARY (R112). A tick boundary that falls on a grid tick boundary is part of that one (R50). -/
def execPartitionSlotBoundary (p : BitVec 5) (s : State) : Host.Outcome State Fault Refusal :=
  let p := p.toNat
  if !s.partReached p then .next s
  else
    let s := s.closeAtEnd p
    let k := (s.prt p).slot + 1
    if s.endsAt p k then .next ((s.tickOutcome p).tickBegin p).settle
    else .next ((s.modPrt p (fun x => { x with slot := k })).slotBegin p false).settle

/-- STRETCH_CAP_EXPIRY (R47): the tick will end at the cap, since no stretch was sent by position e + cap − CLOSE; CLOSE
counts as 0 where the partition lies on this die alone (R48). -/
def execStretchCapExpiry (p : BitVec 5) (s : State) : Host.Outcome State Fault Refusal :=
  let p := p.toNat
  let x := s.prt p
  let close := if (s.tcloseOf p).isSome then s.closeReg p else 0
  if s.active p && x.begun && s.stretchPolicy p && s.isLate p && x.stretch.isNone && !s.stopped
      && (let k := s.nominal p + s.capOf p - close
          decide (k ≤ x.slot) || (k == x.slot + 1 && s.partReached p)) then
    .next (s.modPrt p (fun x => { x with capped := true }))
  else .next s

/-! ## Rows (R114) -/

/-- The first staged row that is due and not held, where rows are executed. -/
def State.dueRow (s : State) (p : Nat) : Option Staged :=
  let x := s.prt p
  if s.rowsOff p then none
  else x.staged.find? (fun r => x.due r.tick r.row.slot && r.row.action != actNop && !s.rowHeld p r.row)

/-- A row leaves the staging buffer as executed: counters and trace (R109, R129, R352, R355). -/
def State.rowDone (s : State) (p : Nat) (r : Staged) : State :=
  let s := s.modPrt p (fun x => { x with staged := x.staged.erase r })
  let s := s.count { evt := 0x20, part := some p }
  let s := if r.late then (s.bump (R.hgPlateCnt p) 1).count { evt := 0x21, part := some p } else s
  s.trace { evt := 0x0A, part := p, cnum := r.row.cnum, layer := r.row.layer, oper := r.row.oper, arg := r.row.action }

/-- Execute the row that is next, if it has the action. -/
def State.rowStep (s : State) (p action : Nat) (f : State → Staged → State) : Host.Outcome State Fault Refusal :=
  match s.dueRow p with
  | some r => if r.row.action = action then .next (f (s.rowDone p r) r).settle else .next s
  | none => .next s

/-- Execute a row that acts at its cistern's bank: after the outcome that waits for the cistern (R50), and not while the bank holds
other work or the row's own does not fit (R77, R121). -/
def State.rowBank (s : State) (p action : Nat) (f : State → Staged → State) : Host.Outcome State Fault Refusal :=
  match s.dueRow p with
  | some r =>
    let k := s.cisternBank p r.row.cnum
    let u := s.closeOne p r.row.cnum
    let t := f ((u.rowDone p r).cycles 1) r
    if r.row.action ≠ action ∨ u.bankHeld k ∨ u.bankOver t k ∨ u.cst.hold.length < t.cst.hold.length then .next s
    else .next t.settle
  | none => .next s

/-- The record of a row about a cistern. -/
def Row.sb (r : Row) (type : Nat) (e : Cistern) : SbRec := { SbRec.of type r.cnum e with layer := r.layer, oper := r.oper }

/-- The entry that a row reads, with its slot, and whether it could be read. -/
def State.rowEntry (s : State) (p : Nat) (r : Row) : State × Option (Nat × Cistern × Bool) :=
  match s.slotOf p r.cnum with
  | none => (s, none)
  | some n =>
    let q := s.readEntry p n r.cnum
    (q.1, some (n, q.1.entry n, q.2))

/-- An ARM row (R75, R97, R114): one that finds the entry uncorrectable is dropped, one on a cistern that was poisoned before heals it
unless it keeps the definition. -/
def State.rowArm (s : State) (p : Nat) (r : Staged) : State :=
  let b := BitVec.ofNat 64 (r.row.layer * 2 ^ 12 + r.row.oper)
  let bad := s.poisoned p r.row.cnum
  let q := s.rowEntry p r.row
  match q.2 with
  | none => q.1
  | some (n, _, ok) =>
    let a := if !ok && !bad then (q.1, Res.uncorrectable) else q.1.arm p n r.row.cnum bad false r.row.arg b
    if a.2 = Res.ok ∨ a.2 = Res.completed then a.1
    else a.1.sb p { r.row.sb 0x07 (a.1.entry n) with result := a.2 }

/-- ROW_ARM (R114). -/
def execRowArm (p : BitVec 5) (s : State) : Host.Outcome State Fault Refusal :=
  s.rowBank p.toNat actArm (fun s r => s.rowArm p.toNat r)

/-- BIND (R111, R114): the row leaves; one that was staged late has missed its first slot. -/
def execBind (p : BitVec 5) (s : State) : Host.Outcome State Fault Refusal :=
  s.rowStep p.toNat actBind (fun s r =>
    if r.late then
      let b := r.row.bind p.toNat
      if r.tick = (s.prt p.toNat).tick.toNat then (s.bindMiss b).loadShadows p.toNat
      else s.sb b.part { type := 0x04, cnum := b.cnum, layer := b.layer, oper := b.oper }
    else s)

/-- The root completes a bound cistern at once (R114). -/
def State.rootForce (s : State) (ch : Nat) : State :=
  let s := s.sampleReturn ch
  match s.act ch with
  | some b => if b.mode = .normal then s.rootComplete b else s
  | none => s

/-- A RELEASE_AT row on an ARMED cistern. -/
def State.releaseNow (s : State) (p n cnum : Nat) (e : Cistern) : State :=
  let s := match s.tagged p cnum with | some ch => s.rootForce ch | none => s
  if (s.entry n).status = stArmed ∧ (s.entry n).gen = e.gen then s.enter p n cnum (s.entry n) stDone else s

/-- A RELEASE_AT row (R114). -/
def State.rowRelease (s : State) (p : Nat) (r : Staged) : State :=
  let q := s.rowEntry p r.row
  match q.2 with
  | none => q.1
  | some (n, e, ok) =>
    if !ok || e.status != stArmed then q.1.sb p (r.row.sb 0x09 e)
    else
      let s := q.1.releaseNow p n r.row.cnum e
      let f := s.entry n
      if f.count.toNat < f.target.toNat then s.sb p (r.row.sb 0x08 f) else s

/-- RELEASE_AT (R114). -/
def execReleaseAt (p : BitVec 5) (s : State) : Host.Outcome State Fault Refusal :=
  s.rowBank p.toNat actRelease (fun s r => s.rowRelease p.toNat r)

/-- The root's static count of a bound cistern (R114). -/
def State.staticOf (s : State) (p cnum : Nat) : Nat :=
  match s.tagged p cnum with
  | some ch => (match s.act ch with | some b => b.static | none => 0)
  | none => 0

/-- A CHECK row (R114). -/
def State.rowCheck (s : State) (p : Nat) (r : Staged) : State :=
  let q := s.rowEntry p r.row
  match q.2 with
  | none => q.1
  | some (n, e, _) =>
    let a := r.row.arg.toNat
    let e := e.add (q.1.staticOf p r.row.cnum)
    let s := if a.testBit 20 ∧ e.count.toNat ≠ bits a 19 0 then
        q.1.sb p { r.row.sb 0x01 e with expect := bits a 19 0 } else q.1
    if (bits a 29 24).testBit e.status.toNat then s
    else s.sb p { r.row.sb 0x02 (s.entry n) with expect := bits a 19 0, actual := e.count.toNat }

/-- CHECK (R114). -/
def execCheck (p : BitVec 5) (s : State) : Host.Outcome State Fault Refusal :=
  s.rowBank p.toNat actCheck (fun s r => s.rowCheck p.toNat r)

/-- SNAPSHOT_ROW (R114). -/
def execSnapshotRow (p : BitVec 5) (s : State) : Host.Outcome State Fault Refusal :=
  s.rowStep p.toNat actSnapshot (fun s _ => s.modPrt p.toNat (fun x => { x with snapReq := true }))

/-- SCOREBOARD_RECORD_WRITE_DONE (R126, R323). -/
def execScoreboardRecordWriteDone (p : BitVec 5) (resp : BitVec 2) (s : State) : Host.Outcome State Fault Refusal :=
  let p := p.toNat
  match (s.prt p).sbQ with
  | [] => .next s
  | _ :: t =>
    let a := s.pair (R.hgPsbAddr p) + 32 * (s.fld (R.hgPsbProd p) 19 0 % 2 ^ s.fld (R.hgPsbSize p) 4 0)
    let s := (s.memAck (.scoreboard p)).modPrt p (fun x => { x with sbQ := t })
    let s := if badResp resp then
        ((s.bump (R.hgPsbDrop p) 1).event p { code := Fc.busFault, n1 := 0xFFFFF, unit := 5, info := a }).sysError a false
          true resp
      else s.setFld (R.hgPsbProd p) 19 0 (s.fld (R.hgPsbProd p) 19 0 + 1)
    .next (s.sbIssue p)

end Sys2Proof.Machine
end

