-- ==== Sys2Proof/Machine/Alloc.lean ====
section
/-! DEFINITION. What gives a partition its resources: the checks of CST allocation (R98 to R100), of quotas (R130), credit
windows (R216) and taps, Pump channels (R289), the end of initialisation, and the clear of a bound grant entry (R209).
A check compares the block before a register write with the block that the write would make. -/

namespace Sys2Proof.Machine

/-! ## CST allocation (R98, R99) -/

/-- Two half-open ranges share a member. -/
def rangesMeet (a b : Nat × Nat) : Bool := decide (a.1 < a.2 ∧ b.1 < b.2 ∧ a.1 < b.2 ∧ b.1 < a.2)

/-- Partition p's range meets that of another partition. -/
def State.shares (s : State) (p : Nat) (rng : Nat → Nat × Nat) : Bool :=
  (List.range s.nPart).any (fun q => q != p && rangesMeet (rng p) (rng q))

/-- Resident, spilled, basin, directory and body ranges of a partition. -/
def State.resRange (s : State) (p : Nat) : Nat × Nat := (s.resBase p, s.resEnd p)
def State.spillRange (s : State) (p : Nat) : Nat × Nat := (s.spillFirst p, s.spillFirst p + s.spillNum p)
def State.basinRange (s : State) (p : Nat) : Nat × Nat := (s.basinBase p, s.basinEnd p)
def State.dirRange (s : State) (p : Nat) : Nat × Nat := (s.dirBase p, s.dirEnd p)
def State.bodyRange (s : State) (p : Nat) : Nat × Nat := (s.bodyBase p, s.bodyEnd p)

/-- Another partition holds a unit of p (R99). -/
def State.allocShared (s : State) (p : Nat) : Bool :=
  s.shares p s.resRange || s.shares p s.spillRange || s.shares p s.basinRange || s.shares p s.dirRange
    || s.shares p s.bodyRange

/-- A range that is not empty ends beyond its resource. -/
def passes (r : Nat × Nat) (hi : Nat) : Bool := decide (r.1 < r.2 ∧ hi < r.2)

/-- A limit of R99 is passed. -/
def State.allocOut (s : State) (p : Nat) : Bool :=
  passes (s.resRange p) s.nResident || passes (s.basinRange p) 65536 || passes (s.dirRange p) 65536
    || passes (s.bodyRange p) 262144 || decide (s.resEnd p - s.resBase p < s.nFrames p)
    || decide (65536 < ((List.range s.nPart).map s.nFrames).sum) || decide (0x1000000 < (s.spillRange p).2)

/-- The units of p: resource 0 resident, 1 basin, 2 directory. -/
def State.units (s : State) (p res : Nat) : List Nat :=
  let off := if res = 0 then R.pfmPcstRes p else if res = 1 then R.pfmPbasin p else R.pfmPrldir p
  let w := s.reg off
  if res = 0 then (List.range (bits w 25 16)).map (fun i => bits w 8 0 + i)
  else (List.range (bits w 26 16)).map (fun i => bits w 9 0 + i)

/-- Initialisation of p after an accepted write: of the units that it gave, and of those it left that are not done
(R100). -/
def State.initUnits (s : State) (t : State) (p : Nat) : State :=
  let fresh := (List.range 3).flatMap (fun r => ((t.units p r).filter (fun u => !(s.units p r).contains u)).map (fun u => (p, r, u)))
  let kept := s.cst.initd.filter (fun e => e.1 != p || (t.units p e.2.1).contains e.2.2)
  { t with cst := { t.cst with initd := kept ++ fresh.filter (fun e => !kept.contains e) } }

/-- A write of p's CST allocation that would make `t` (R99). -/
def State.allocJudge (s t : State) (p : Nat) : State :=
  let dup := t.allocShared p
  let out := t.allocOut p
  if dup || out then
    let s := if dup then s.setFlag (R.pfmPcstStatus p) 1 true else s
    if out then s.setFlag (R.pfmPcstStatus p) 0 true else s
  else s.initUnits t p

/-! ## Initialisation (R59, R88, R93, R100) -/

/-- The symbol errors of words lo to hi - 1 of a class are gone: the words were rewritten. -/
def State.clearErrs (s : State) (cls lo hi : Nat) : State :=
  { s with cst := { s.cst with err := tclear s.cst.err (errKey cls lo) (errKey cls hi) } }

/-- The words that the banks write to initialise one unit of a resource (R100). -/
def unitWords (res : Nat) : Nat := if res = 0 then 4096 else if res = 1 then 256 else 32

/-- Write one unit of p (R59, R88, R100, R168, R191). A list that a SCHED_LOAD wrote into a directory unit meanwhile goes with the rest
of the unit: R100 does not speak of it (DESIGN CHOICE: assumption 71). -/
def State.initUnit (s : State) (e : Nat × Nat × Nat) : State :=
  let p := e.1
  let u := e.2.2
  let s := s.cycles (unitWords e.2.1)
  if e.2.1 = 0 then
    let s := s.clearErrs 0 (4096 * u) (4096 * u + 4096)
    { s with cst := { s.cst with
        ent := tfill {} s.cst.ent (4096 * u) 4096 (fun i => Cistern.fresh p (s.isFrame (4096 * u + i)))
        bad := tclear s.cst.bad (4096 * u) (4096 * u + 4096)
        tags := tclear s.cst.tags (4096 * u) (4096 * u + 4096) } }
  else if e.2.1 = 1 then
    let s := (s.clearErrs 1 (256 * u) (256 * u + 256)).setFld (R.spBmode (u / 2)) (16 * (u % 2) + 15) (16 * (u % 2)) 0
    { s with cst := { s.cst with
        basins := tclear s.cst.basins (64 * u) (64 * u + 64)
        lanes := tclear s.cst.lanes (64 * u) (64 * u + 64)
        badBasin := tclear s.cst.badBasin (64 * u) (64 * u + 64) } }
  else
    let s := s.clearErrs 2 (32 * u) (32 * u + 32)
    { s with cst := { s.cst with rl := tclear s.cst.rl (32 * u) (32 * u + 32) } }

/-- ALLOCATION_INIT_DONE (R100): every unit of p under initialisation is written. -/
def execAllocationInitDone (p : BitVec 5) (s : State) : Host.Outcome State Fault Refusal :=
  let mine := s.cst.initd.filter (fun e => e.1 == p.toNat)
  let s := mine.foldl State.initUnit s
  .next { s with cst := { s.cst with initd := s.cst.initd.filter (fun e => e.1 != p.toNat) } }

/-! ## Quotas, credit windows, taps and channels -/

/-- A write of HG_PCHAN (R130). -/
def State.chanQuotaJudge (s t : State) (p : Nat) : State :=
  let m := t.fld (R.hgPchan p) 17 0
  if (List.range s.nPart).any (fun q => q != p && (m &&& s.fld (R.hgPchan q) 17 0) != 0) then
    s.setFlag (R.hgPschedStatus p) 5 true
  else t

/-- A write of HG_PSTAGE (R130). -/
def State.stageQuotaJudge (s t : State) (p : Nat) : State :=
  if 128 < ((List.range s.nPart).map (fun q => t.fld (R.hgPstage q) 7 0)).sum then
    s.setFlag (R.hgPschedStatus p) 5 true
  else t

/-- Grant units of a partition (R198). -/
def State.grantRange (s : State) (p : Nat) : Nat × Nat :=
  let u := s.reg (R.hgPcredUnits p)
  (bits u 6 0, bits u 6 0 + bits u 23 16)

/-- The credit window of p leaves its resident range or meets its spill frames, or its units pass unit 127 (R216). -/
def State.creditOut (s : State) (p : Nat) : Bool :=
  let r := s.grantRange p
  let first := s.fld (R.hgPcredFirst p) 23 0
  let last := first + 64 * (r.2 - r.1)
  passes r 128 || decide (r.1 < r.2 ∧ ¬ (s.resBase p ≤ first ∧ last + s.nFrames p ≤ s.resEnd p))

/-- A write of HG_PCRED_FIRST or HG_PCRED_UNITS (R216). -/
def State.creditJudge (s t : State) (p : Nat) : State :=
  let dup := t.shares p t.grantRange
  let out := t.creditOut p
  if dup || out then
    let s := if dup then s.setFlag (R.hgPcredStatus p) 1 true else s
    if out then s.setFlag (R.hgPcredStatus p) 0 true else s
  else t

/-- A tap range, empty unless it is valid (R289). -/
def State.tapRange (s : State) (p k : Nat) : Nat × Nat :=
  let w := s.reg (R.pfmPtapr p k)
  if w.testBit 31 then (bits w 27 16, bits w 27 16 + bits w 12 0) else (0, 0)

/-- A write of PFM_PTAPRk of p (R289). -/
def State.tapRangeJudge (s t : State) (p k : Nat) : State :=
  let r := t.tapRange p k
  let dup := (List.range s.nPart).any (fun q => q != p && (List.range 8).any (fun j => rangesMeet r (s.tapRange q j)))
  let out := t.flag (R.pfmPtapr p k) 31 && (decide (r.1 = r.2) || decide (s.nGood < r.2))
  if dup || out then
    let s := if dup then s.setFlag (R.pfmPallocStatus p) 1 true else s
    if out then s.setFlag (R.pfmPallocStatus p) 0 true else s
  else t

/-- A write of PFM_PPUMP of p (R289). -/
def State.pumpJudge (s t : State) (p : Nat) : State :=
  let m := t.pair (R.pfmPpump p)
  if (List.range s.nPart).any (fun q => q != p && (m &&& s.pair (R.pfmPpump q)) != 0) then
    s.setFlag (R.pfmPallocStatus p) 1 true
  else t

/-! ## The clear of a bound entry (R209) -/

/-- HG_CRED_CLR with HELD and INDEX (R209). -/
def State.credClr (s : State) (held e : Nat) : State :=
  let err := fun (s : State) => s.setFlag R.hgCredStatus 0 true
  match s.grantOwner e with
  | none => err s
  | some (p, c) =>
    if (s.grant e).state ≠ 2 then err s
    else
      let r := s.readEntry p c c
      let x := r.1.entry c
      let s := r.1
      if !r.2 || x.status != stArmed || decide (x.target.toNat < x.count.toNat + held) then err s
      else s.grantSet p c e x.gen.toNat x.rlist.toNat (x.target.toNat - x.count.toNat - held)

/-! ## The bind sample (R115) -/

/-- BIND_SAMPLE_RETURN (R115, R116). -/
def execBindSampleReturn (chan : BitVec 5) (s : State) : Host.Outcome State Fault Refusal :=
  .next (s.sampleReturn chan.toNat).settle

end Sys2Proof.Machine
end

