-- ==== Sys2Proof/Machine/Gauge.lean ====
section
/-! DEFINITION. The Gauge (chapter 12): the block's side of the meter link, the island, its log, the seal, physical
presence and the reader port. -/

namespace Sys2Proof.Machine

/-! ## The block's side of the meter link (R383 to R385) -/

/-- A frame as sent: FSEQ in word 1, RESTART in bit 11 of word 0 until the first frame is taken, the CRC-16 last. -/
def GLink.words (g : GLink) (fr : GFrame) : List (BitVec 16) :=
  let ws := (if g.restart then fr.w0 ||| 0x800#16 else fr.w0) :: g.fseq :: fr.body
  ws ++ [BitVec.ofNat 16 (crc16 ws)]

/-- Send the oldest queued frame if none is in flight (R383, R385). -/
def State.gauSend (s : State) : State :=
  match s.glink.flight, s.glink.queue with
  | none, fr :: q =>
    ({ s with glink := { s.glink with flight := some fr, queue := q } } : State).emit
      (.gauFrame (s.glink.words fr))
  | _, _ => s

/-- Queue a frame behind any other. -/
def State.gauQueue (s : State) (fr : GFrame) : State :=
  ({ s with glink := { s.glink with queue := s.glink.queue ++ [fr] } } : State).gauSend

/-- The three words of a 48-bit number, least significant first. -/
def words48 (v : Nat) : List (BitVec 16) :=
  [BitVec.ofNat 16 v, BitVec.ofNat 16 (v >>> 16), BitVec.ofNat 16 (v >>> 32)]

/-- The five accumulators of a set are not all 0. -/
def GLink.used (g : GLink) (p : Nat) : Bool := (List.range 5).any (fun i => tget 0 g.delta (5 * p + i) != 0)

/-- The 16 words of one DELTA entry (R384). -/
def GLink.entry (g : GLink) (p : Nat) : List (BitVec 16) :=
  BitVec.ofNat 16 p :: (List.range 5).flatMap (fun i => words48 (tget 0 g.delta (5 * p + i)))

/-- Clear the accumulators of a set. -/
def GLink.clear (g : GLink) (p : Nat) : GLink :=
  { g with delta := (List.range 5).foldl (fun t i => tset 0 t (5 * p + i) 0) g.delta }

/-- Cut a DELTA frame for the partitions of `ps` that have a non-zero delta (R383, R385). -/
def State.gauCut (s : State) (ps : List Nat) : State :=
  let used := ps.filter s.glink.used
  let w0 := BitVec.ofNat 16 (0x1000 + bit s.glink.sat * 0x400 + used.length)
  let body := words48 s.glink.firstTick.toNat ++ words48 s.tickno ++ used.flatMap s.glink.entry
  let g := used.foldl GLink.clear s.glink
  ({ s with glink := { g with sat := false, firstTick := BitVec.ofNat 48 s.tickno } } : State).gauQueue
    ⟨w0, body⟩

/-- A periodic cut: only when no frame is in flight or queued (R383). -/
def State.gauPeriodic (s : State) : State :=
  if s.glink.flight = none ∧ s.glink.queue = [] then s.gauCut (List.range s.nPart) else s

/-- MARK and CONFIG frames that are queued or in flight (R385). -/
def GLink.marks (g : GLink) : Nat :=
  (g.flight.toList ++ g.queue).countP (fun fr => decide (2 ≤ fr.w0.toNat / 0x1000))

/-- The effect of a write of PFM_GAU_MARK (R385, R397). A PART that the build lacks is a reserved encoding (R447). -/
def State.gauMark (s : State) (v : Nat) : State :=
  let p := bits v 4 0
  if !v.testBit 31 || decide (s.nPart ≤ p) then s
  else if 4 ≤ s.glink.marks then s.setFlag R.pfmGauStatus 6 true
  else
    let tag := s.reg R.pfmGauTag
    (s.gauCut [p]).gauQueue
      ⟨0x2000, [BitVec.ofNat 16 p, BitVec.ofNat 16 tag, BitVec.ofNat 16 (tag >>> 16)]⟩

/-- The effect of a write of PFM_GAU_CFGW_HI with the pair's VALUE (R391). -/
def State.gauCfgw (s : State) (value param : Nat) : State :=
  if 4 ≤ s.glink.marks then s.setFlag R.pfmGauStatus 6 true
  else s.gauQueue ⟨0x3000, [BitVec.ofNat 16 (param % 256), BitVec.ofNat 16 value, BitVec.ofNat 16 (value >>> 16)]⟩

/-- The block shows LINK_UP (R395), in PFM_GAU_STATUS and in its copy of GAU_STATUS. -/
def State.setLinkUp (s : State) (b : Bool) : State :=
  (s.setFlag R.pfmGauStatus 5 b).setFlag R.gauStatus 1 b

/-- A status word arrives (R384): ACCEPT 1 and REFUSED 3 take the frame, BAD 2 has it sent again. -/
def State.gauStatusWord (s : State) (w : BitVec 16) : State :=
  match s.glink.flight with
  | none => s
  | some fr =>
    let s := s.setLinkUp true
    if w = 1 ∨ w = 3 then
      let s := if w = 3 then s.setFlag R.pfmGauStatus 2 true else s
      ({ s with glink := { s.glink with flight := none, fseq := s.glink.fseq + 1, restart := false } }
        : State).gauSend
    else if w = 2 then s.emit (.gauFrame (s.glink.words fr))
    else s

/-- STATUS_WORD (R384). -/
def execStatusWord (w : BitVec 16) (s : State) : Host.Outcome State Fault Refusal := .next (s.gauStatusWord w)

/-- A received frame's last word is the CRC-16 of the words before it (R384). -/
def crcOk (ws : List (BitVec 16)) : Bool :=
  match ws.getLast? with
  | none => false
  | some c => c.toNat == crc16 ws.dropLast

/-- Store one 16-bit data word of a REPORT frame in the block's copy: `off` is the byte offset in the window, even
words are the low halves. A reserved offset is not stored. LINK_UP and VALID are the block's own. -/
def State.gauCopyHalf (s : State) (off : Nat) (w : BitVec 16) : State :=
  let r := 0xC0000 + off / 4 * 4
  let h := off / 2 % 2
  match descOf s.isC r with
  | none => s
  | some _ =>
    let v := setBits (s.reg r) (16 * h + 15) (16 * h) w.toNat
    s.setReg r (if r = R.gauStatus then setBits v 1 0 (s.fld R.gauStatus 1 0) else v)

/-- The data words of a REPORT frame, in order. -/
def State.gauCopy (s : State) (off : Nat) : List (BitVec 16) → State
  | [] => s
  | w :: t => (s.gauCopyHalf off w).gauCopy (off + 2) t

/-- REPORT_FRAME (R384): the block keeps the window as a copy; a frame that fails its CRC or its length is not taken.
-/
def execReportFrame (ws : List (BitVec 16)) (s : State) : Host.Outcome State Fault Refusal :=
  let n := (ws.getD 2 0).toNat
  if crcOk ws ∧ ws.length = n + 4 ∧ (ws.getD 0 0).toNat / 0x1000 = 8 then
    .next ((s.gauCopy (ws.getD 1 0).toNat ((ws.drop 3).take n)).setFlag R.gauStatus 0 true)
  else .next s

/-- A frame falls due (R383): in K3 it waits for the wake. -/
def State.gauDue (s : State) : State :=
  if s.rst.kst = 3 then { s with glink := { s.glink with due := true } } else s.gauPeriodic

/-- DELTA_TIMER (R383): only while HG_CTRL.EN is 0, and not in CFG_FAULT or a reset (R403). -/
def execDeltaTimer (s : State) : Host.Outcome State Fault Refusal :=
  .next (if s.flag R.hgCtrl 0 || !s.up then s else s.gauDue)

/-- LINK_UP_TIMEOUT (R395). -/
def execLinkUpTimeout (s : State) : Host.Outcome State Fault Refusal := .next (s.setLinkUp false)

/-! ## The island: window and reports (R384, R396) -/

/-- A register of the window as the Gauge holds it, by offset in the window. -/
def Island.reg (g : Island) (off : Nat) : Nat :=
  let newest := (g.seq.toNat + 2 ^ 48 - 1) % 2 ^ 48
  if off = 0x00 then g.meterId.toNat
  else if off = 0x04 then Config.gauVer.toNat
  else if off = 0x08 then
    bit g.presStuck * 128 + bit g.presOpen * 64 + bit g.jmp * 32 + bit g.sealOpen * 16 + bit g.logErr * 8
      + bit g.chainBreak * 4 + Config.gauStatusLow.toNat
  else if off = 0x0C then g.sealCnt.toNat
  else if off = 0x10 then g.period
  else if off = 0x14 then g.logNsect * 65536 + g.logBase
  else if off = 0x18 then newest % 2 ^ 32
  else if off = 0x1C then newest / 2 ^ 32
  else if off = 0x20 then g.headCrc.toNat % 2 ^ 32
  else if off = 0x24 then g.headCrc.toNat / 2 ^ 32
  else if off = 0x28 then g.gtime.toNat % 2 ^ 32
  else if off = 0x2C then g.gtime.toNat / 2 ^ 32
  else if 0x1000 ≤ off ∧ off < 0x1800 then
    let p := (off - 0x1000) / 0x40
    let r := (off - 0x1000) % 0x40
    if r = 0 then tget 0 g.tag p
    else if 8 ≤ r ∧ r < 0x30 then
      let v := tget 0 g.tot (5 * p + (r - 8) / 8)
      if r % 8 = 0 then v % 2 ^ 32 else v / 2 ^ 32
    else 0
  else 0

/-- A REPORT frame of one register (R384): its two 16-bit words, least significant first. -/
def Island.report (g : Island) (off : Nat) : List (BitVec 16) :=
  let v := g.reg off
  let ws := [0x8000#16, BitVec.ofNat 16 off, 2#16, BitVec.ofNat 16 v, BitVec.ofNat 16 (v >>> 16)]
  ws ++ [BitVec.ofNat 16 (crc16 ws)]

/-- The offsets whose value the Gauge reports when it changes: GTIME is read through GAU_RD and by its own report. -/
def reportOffs (old new : Island) : List Nat :=
  (List.range 12).map (4 * ·) ++
    ((List.range 32).filter (fun p => decide (tget 0 old.tag p ≠ tget 0 new.tag p) || old.tot != new.tot)).flatMap
      (fun p => (0x1000 + 0x40 * p) :: (List.range 10).map (fun i => 0x1008 + 0x40 * p + 4 * i))

/-- Put a changed island into the state and send a REPORT frame for each value that changed (R384). -/
def State.setIsland (s : State) (g : Island) : State :=
  ((reportOffs s.island g).filter (fun o => s.island.reg o != g.reg o)).foldl
    (fun s o => s.emit (.gauReport (g.report o))) { s with island := g }

/-! ## The log (R386 to R388) -/

/-- Erase a sector: its 64 records go. -/
def eraseSector (t : Tab (BitVec 512)) (sector : Nat) : Tab (BitVec 512) :=
  t.filter (fun e => e.1 / 64 != sector)

/-- The record of R387 that comes next. `sat`, `brk` are FLAGS [0] and [1]. -/
def Island.logWord (g : Island) (type set payload : Nat) (sat brk : Bool) : BitVec 512 :=
  BitVec.ofNat 512 (g.seq.toNat + type % 256 * 2 ^ 48 + set % 256 * 2 ^ 56 + g.gtime.toNat * 2 ^ 64
    + (bit sat + bit brk * 2 + bit g.sealOpen * 4) * 2 ^ 112 + payload % 2 ^ 320 * 2 ^ 128
    + g.headCrc.toNat * 2 ^ 448)

/-- The area in force for the next record: a change of LOG_BASE or LOG_NSECT starts a new area (R391). -/
def Island.enterArea (g : Island) : Island :=
  if g.areaBase = g.logBase ∧ g.areaNsect = g.logNsect then g
  else { g with areaBase := g.logBase, areaNsect := g.logNsect, areaPos := 0,
                flash := eraseSector g.flash g.logBase }

/-- Write one log record (R387): the sector after the current one is kept erased (R380). -/
def Island.log (g : Island) (type set payload : Nat) (sat brk : Bool) : Island :=
  let g := g.enterArea
  let w := g.logWord type set payload sat brk
  let n := g.areaNsect
  let fl := if g.areaPos % 64 = 0 then eraseSector g.flash (g.areaBase + (g.areaPos / 64 + 1) % n) else g.flash
  { g with flash := tins w fl (64 * g.areaBase + g.areaPos), areaPos := (g.areaPos + 1) % (64 * n),
           seq := g.seq + 1, headCrc := BitVec.ofNat 64 (crc64 (toBytes 64 w.toNat)) }

/-- The totals of a set as an INTERVAL payload. -/
def Island.totals (g : Island) (p : Nat) : Nat :=
  tget 0 g.tot (5 * p) + tget 0 g.tot (5 * p + 1) * 2 ^ 64 + tget 0 g.tot (5 * p + 2) * 2 ^ 128
    + tget 0 g.tot (5 * p + 3) * 2 ^ 192 + tget 0 g.tot (5 * p + 4) * 2 ^ 256

/-- Write the INTERVAL record of set p (R388). -/
def Island.interval (g : Island) (p : Nat) : Island :=
  let g := g.log 0x01 p (g.totals p) g.satFlag false
  { g with changed := g.changed.filter (· != p), satFlag := false }

/-- The island takes frames and events: it is powered and its supply is not failing (R380). -/
def Island.live (g : Island) : Bool := g.up && !g.failing

/-- A PRESENCE record (R392, R393); nothing while the island is not live. -/
def Island.presence (g : Island) (event : Nat) : Island :=
  if g.live then g.log 0x09 0xFF event false false else g

/-! ## Frames at the Gauge (R384, R385, R391) -/

/-- What FSEQ and RESTART of a received frame mean: whether it is applied, which one with the last applied FSEQ is not; and a LINK
record where it is applied and not the expected one, or where RESTART is set. -/
def Island.sequence (g : Island) (fseq : BitVec 16) (restart : Bool) : Island × Bool :=
  let again := fseq == g.lastFseq
  let expected := g.lastFseq + 1
  let g := if restart || (!again && fseq != expected) then
      g.log 0x08 0xFF (expected.toNat + fseq.toNat * 2 ^ 16 + bit restart * 2 ^ 32) false false
    else g
  ({ g with lastFseq := fseq }, !again)

/-- The 48-bit number in three words from place i. -/
def at48 (ws : List (BitVec 16)) (i : Nat) : Nat :=
  (ws.getD i 0).toNat + (ws.getD (i + 1) 0).toNat * 2 ^ 16 + (ws.getD (i + 2) 0).toNat * 2 ^ 32

/-- Add entry e of a DELTA frame to its set's totals (R388). -/
def Island.addEntry (ws : List (BitVec 16)) (g : Island) (e : Nat) : Island :=
  let p := bits (ws.getD (8 + 16 * e) 0).toNat 4 0
  let tot := (List.range 5).foldl (fun t i =>
    tset 0 t (5 * p + i) ((tget 0 t (5 * p + i) + at48 ws (9 + 16 * e + 3 * i)) % 2 ^ 64)) g.tot
  { g with tot := tot, changed := if p ∈ g.changed then g.changed else g.changed ++ [p] }

/-- Answer a frame with a status word. -/
def State.gauAnswer (s : State) (g : Island) (w : BitVec 16) : State := (s.setIsland g).emit (.gauStatus w)

/-- DELTA_FRAME (R384): BAD where the frame cannot be read. -/
def execDeltaFrame (ws : List (BitVec 16)) (s : State) : Host.Outcome State Fault Refusal :=
  let g := s.island
  let w0 := (ws.getD 0 0).toNat
  let n := bits w0 5 0
  if !g.live then .next s
  else if !(crcOk ws && bits w0 15 12 == 1 && decide (n ≤ 32) && ws.length == 9 + 16 * n) then
    .next (s.emit (.gauStatus 2))
  else match g.sequence (ws.getD 1 0) (w0.testBit 11) with
    | (g, false) => .next (s.gauAnswer g 1)
    | (g, true) =>
      let g := (List.range n).foldl (Island.addEntry ws) g
      .next (s.gauAnswer { g with satFlag := g.satFlag || w0.testBit 10,
                                  lastTick := BitVec.ofNat 48 (at48 ws 5) } 1)

/-- MARK_FRAME (R385): an INTERVAL record of the set, then a TENANT record. -/
def execMarkFrame (ws : List (BitVec 16)) (s : State) : Host.Outcome State Fault Refusal :=
  let g := s.island
  let w0 := (ws.getD 0 0).toNat
  if !g.live then .next s
  else if !(crcOk ws && bits w0 15 12 == 2 && ws.length == 6) then .next (s.emit (.gauStatus 2))
  else match g.sequence (ws.getD 1 0) (w0.testBit 11) with
    | (g, false) => .next (s.gauAnswer g 1)
    | (g, true) =>
      let p := bits (ws.getD 2 0).toNat 4 0
      let tag := (ws.getD 3 0).toNat + (ws.getD 4 0).toNat * 2 ^ 16
      let g := (g.interval p).log 0x02 p (tget 0 g.tag p + tag * 2 ^ 32 + g.lastTick.toNat * 2 ^ 64) false false
      .next (s.gauAnswer { g with tag := tset 0 g.tag p tag } 1)

/-- The value of a configuration parameter (R391); other PARAM values have none. -/
def Island.param (g : Island) (k : Nat) : Nat :=
  if k = 1 then g.meterId.toNat else if k = 2 then g.period else if k = 3 then g.logBase
  else if k = 4 then g.logNsect else 0

/-- A new value lies in the range of R391. -/
def Island.paramOk (g : Island) (k v : Nat) : Bool :=
  if k = 1 then true
  else if k = 2 then decide (60 ≤ v ∧ v ≤ 3600)
  else if k = 3 then decide (2 ≤ v ∧ v ≤ 65519)
  else if k = 4 then decide (16 ≤ v ∧ v ≤ 65534 ∧ g.logBase + v ≤ 65536)
  else false

/-- The bytes of a configuration copy before its CRC-64 (DESIGN CHOICE: assumption 75). -/
def GConf.bytes (c : GConf) : List Byte :=
  toBytes 6 c.num ++ toBytes 4 c.meterId.toNat ++ toBytes 2 c.period ++ toBytes 2 c.logBase ++ toBytes 2 c.logNsect
    ++ toBytes 4 c.sealCnt.toNat

/-- A copy whose CRC-64 matches. -/
def GConf.good (c : GConf) : Bool := c.crc.toNat == crc64 c.bytes

/-- The copy in force: of those whose CRC-64 matches, the newer one (R386). -/
def Island.conf (g : Island) : Option GConf :=
  let c := fun i => (tget none g.copies i).filter GConf.good
  match c 0, c 1 with
  | some a, some b => if a.num < b.num then some b else some a
  | some a, none => some a
  | none, b => b

/-- The configuration is written over the older copy (R386). -/
def Island.save (g : Island) : Island :=
  let n := match g.conf with | some c => c.num + 1 | none => 0
  let c : GConf := ⟨n, g.meterId, g.period, g.logBase, g.logNsect, g.sealCnt, 0⟩
  { g with copies := tset none g.copies (n % 2) (some { c with crc := BitVec.ofNat 64 (crc64 c.bytes) }) }

/-- The configuration that the flash holds, or that of an empty flash (R386, R391). -/
def Island.loadConf (g : Island) : Island :=
  match g.conf with
  | some c => { g with meterId := c.meterId, period := c.period, logBase := c.logBase, logNsect := c.logNsect, sealCnt := c.sealCnt }
  | none => { g with meterId := 0, period := 900, logBase := 2, logNsect := 8192, sealCnt := 0 }

/-- Apply a configuration parameter. -/
def Island.setParam (g : Island) (k v : Nat) : Island :=
  if k = 1 then { g with meterId := BitVec.ofNat 32 v }
  else if k = 2 then { g with period := v }
  else if k = 3 then { g with logBase := v }
  else if k = 4 then { g with logNsect := v }
  else g

/-- CONFIG_FRAME (R391): applied only with the seal open and the value in range; both outcomes write a CONFIG
record. -/
def execConfigFrame (ws : List (BitVec 16)) (s : State) : Host.Outcome State Fault Refusal :=
  let g := s.island
  let w0 := (ws.getD 0 0).toNat
  if !g.live then .next s
  else if !(crcOk ws && bits w0 15 12 == 3 && ws.length == 6) then .next (s.emit (.gauStatus 2))
  else match g.sequence (ws.getD 1 0) (w0.testBit 11) with
    | (g, false) => .next (s.gauAnswer g 1)
    | (g, true) =>
      let k := bits (ws.getD 2 0).toNat 7 0
      let v := (ws.getD 3 0).toNat + (ws.getD 4 0).toNat * 2 ^ 16
      let ok := g.sealOpen && g.paramOk k v
      let rec_ := k + bit ok * 256 + g.param k * 2 ^ 16 + v * 2 ^ 48
      let g := g.log 0x05 0xFF rec_ false false
      .next (s.gauAnswer (if ok then (g.setParam k v).save else g) (if ok then 1 else 3))

/-! ## Power, periods, seal and presence (R379 to R392) -/

/-- The SEQ of a record. -/
def recSeq (w : BitVec 512) : Nat := w.toNat % 2 ^ 48
/-- The CRC-64 of a record. -/
def recCrc (w : BitVec 512) : Nat := crc64 (toBytes 64 w.toNat)

/-- The record of largest SEQ, with its place. -/
def newestRec : Tab (BitVec 512) → Option (Nat × BitVec 512)
  | [] => none
  | e :: t =>
    match newestRec t with
    | none => some e
    | some m => if recSeq m.2 < recSeq e.2 then some e else some m

/-- The records of one sector from its start up to a place, in order. -/
def sectorUpTo (t : Tab (BitVec 512)) (place : Nat) : Tab (BitVec 512) :=
  t.filter (fun e => e.1 / 64 == place / 64 && decide (e.1 ≤ place))

/-- The longest beginning of a sector along which every PREV_CRC matches (R389). -/
def chainHeld : Tab (BitVec 512) → Tab (BitVec 512)
  | [] => []
  | [e] => [e]
  | e :: f :: t => if f.2.toNat / 2 ^ 448 = recCrc e.2 then e :: chainHeld (f :: t) else [e]

/-- The newest record of a type and set with SEQ up to `m`. -/
def newestOf (t : Tab (BitVec 512)) (type p m : Nat) : Option (BitVec 512) :=
  (newestRec (t.filter (fun e => bits e.2.toNat 55 48 == type && bits e.2.toNat 63 56 == p
    && decide (recSeq e.2 ≤ m)))).map (·.2)

/-- Restore the totals and the tag of set p (R389). -/
def Island.restoreSet (m : Nat) (g : Island) (p : Nat) : Island :=
  let tot := match newestOf g.flash 0x01 p m with
    | none => g.tot
    | some r => (List.range 5).foldl (fun t i => tset 0 t (5 * p + i) (r.toNat / 2 ^ (128 + 64 * i) % 2 ^ 64)) g.tot
  let tag := match newestOf g.flash 0x02 p m with
    | none => g.tag
    | some r => tset 0 g.tag p (r.toNat / 2 ^ 160 % 2 ^ 32)
  { g with tot := tot, tag := tag }

/-- What the island is when power returns: totals, presence and link state are lost, the flash is kept, the configuration comes
from it, and CHAIN_BREAK is kept until the seal is opened (R389). -/
def Island.cold (g : Island) : Island :=
  { g.loadConf with up := true, failing := false, gtime := 0, lastFseq := 0xFFFF, tot := [], tag := [], changed := [],
                    satFlag := false, lastTick := 0, presOpen := false, presStuck := false, logErr := false }

/-- Power-up (R379, R389): find the newest record, check the chain along its sector, restore, write POWER_UP. -/
def Island.powerUp (g : Island) : Island :=
  let g := g.cold
  match newestRec g.flash with
  | none => { g with seq := 0, headCrc := 0, areaPos := 0, areaBase := g.logBase, areaNsect := g.logNsect }.log
      0x06 0xFF 0 false false
  | some (k, r) =>
    let sec := sectorUpTo g.flash k
    let held := chainHeld sec
    let brk := held.length != sec.length
    let start := (held.getLast?.map (·.2)).getD r
    let g := (List.range 32).foldl (Island.restoreSet (recSeq start)) g
    let g := { g with seq := BitVec.ofNat 48 (recSeq r + 1), headCrc := BitVec.ofNat 64 (recCrc r),
                      gtime := BitVec.ofNat 48 (start.toNat / 2 ^ 64 + 1), chainBreak := g.chainBreak || brk,
                      areaPos := (k + 1 - 64 * g.areaBase) % (64 * g.areaNsect) }
    g.log 0x06 0xFF (recSeq start) false brk

/-- GAUGE_POWER_UP (R389). -/
def execGaugePowerUp (s : State) : Host.Outcome State Fault Refusal := .next (s.setIsland s.island.powerUp)

/-- GAU_PWRFAIL (R380): INTERVAL records of the changed sets, then POWER_DOWN; no further frame is accepted. -/
def execGauPwrfail (s : State) : Host.Outcome State Fault Refusal :=
  let g := s.island
  if g.live then
    let g := (g.changed.foldl Island.interval g).log 0x07 0xFF 0 false false
    .next (s.setIsland { g with failing := true })
  else .next s

/-- INTERVAL (R388). -/
def execInterval (s : State) : Host.Outcome State Fault Refusal :=
  let g := s.island
  .next (if g.live then s.setIsland (g.changed.foldl Island.interval g) else s)

/-- SEAL_OPEN (R390); the opening ends CHAIN_BREAK (R389). -/
def execSealOpen (s : State) : Host.Outcome State Fault Refusal :=
  let g := s.island
  if g.live && !g.sealOpen then
    let g := { g with sealOpen := true, sealCnt := g.sealCnt + 1, chainBreak := false }
    .next (s.setIsland (g.save.log 0x03 0xFF g.sealCnt.toNat false false))
  else .next s

/-- SEAL_CLOSE (R390). -/
def execSealClose (s : State) : Host.Outcome State Fault Refusal :=
  let g := s.island
  if g.live && g.sealOpen then
    let g := { g with sealOpen := false }
    .next (s.setIsland (g.log 0x04 0xFF g.sealCnt.toNat false false))
  else .next s

/-- PRESENCE_WINDOW_OPEN (R392): an opening writes PRESENCE event 0; a press while the window is open restarts it. -/
def execPresenceWindowOpen (s : State) : Host.Outcome State Fault Refusal :=
  let g := s.island
  if g.live && !g.presOpen then
    .next (s.setIsland ({ g with presOpen := true, presStuck := false }.presence 0))
  else .next s

/-- PRESENCE_WINDOW_CLOSE (R392). -/
def execPresenceWindowClose (s : State) : Host.Outcome State Fault Refusal :=
  .next (if s.island.live then s.setIsland { s.island with presOpen := false } else s)

/-- PRES_STUCK (R392). -/
def execPresStuck (s : State) : Host.Outcome State Fault Refusal :=
  .next (if s.island.live then s.setIsland ({ s.island with presOpen := false, presStuck := true }.presence 1)
    else s)

/-- CFG_JMP_CHANGE (R392). -/
def execCfgJmpChange (v : Bool) (s : State) : Host.Outcome State Fault Refusal :=
  .next (if s.island.live then s.setIsland { s.island with jmp := v } else s)

/-- The block's copy shows a presence window (R393). -/
def State.presOpen (s : State) : Bool := s.flag R.gauStatus 6

/-- A privileged command is refused (R393): PRIV_REF, and a PRESENCE record with event 4. -/
def State.privRefuse (s : State) : State :=
  (s.setFlag R.pfmGauStatus 1 true).setIsland (s.island.presence 4)

/-- The effect of a write of PFM_PRIV (R393, R397): DBG_LOCK wins. The condition of presence holds only on a part
marked as production. -/
def State.privWrite (s : State) (v : Nat) : State :=
  if v.testBit 1 then s.setFlag R.pfmGauStatus 0 false
  else if v.testBit 0 then
    if s.flag R.pfmCfgId 13 then
      if s.presOpen then (s.setFlag R.pfmGauStatus 0 true).setIsland (s.island.presence 3) else s.privRefuse
    else s.setFlag R.pfmGauStatus 0 true
  else s

/-! ## The reader port (R394) -/

/-- An answer ends with the CRC-16 over its bytes, least significant byte first. -/
def withCrc (bs : List Byte) : List Byte := bs ++ toBytes 2 (crc16Bytes bs)

/-- The held record of a SEQ. -/
def findRec : Tab (BitVec 512) → Nat → Option (BitVec 512)
  | [], _ => none
  | e :: t, q => if recSeq e.2 = q then some e.2 else findRec t q

/-- The bytes the reader port answers to a request (R394). -/
def Island.answer (g : Island) (req : List Byte) : List Byte :=
  let arg := fun i n => bytesAt req i n
  if bytesAt req 10 2 ≠ crc16Bytes (req.take 10) then withCrc [Config.gauRdStatus 2]
  else if arg 0 1 = 1 then
    withCrc (toBytes 4 g.meterId.toNat ++ toBytes 4 Config.gauVer.toNat ++ toBytes 4 g.sealCnt.toNat
      ++ toBytes 6 g.gtime.toNat)
  else if arg 0 1 = 2 ∧ 1 ≤ arg 3 1 ∧ arg 3 1 ≤ 64 then
    withCrc ((List.range (arg 3 1)).flatMap (fun i => toBytes 4 (g.reg (arg 1 2 + 4 * i))))
  else if arg 0 1 = 3 then
    match findRec g.flash (arg 1 6) with
    | some r => withCrc (toBytes 64 r.toNat)
    | none => withCrc [Config.gauRdStatus 0]
  else withCrc [Config.gauRdStatus 1]

/-- A request on GAU_RD: the Gauge itself answers while it is powered. -/
def State.gauRead (s : State) (req : BitVec 96) : State :=
  if s.island.up then s.emit (.gauRd (s.island.answer (toBytes 12 req.toNat))) else s

/-- READ_ID (R394). -/
def execReadId (req : BitVec 96) (s : State) : Host.Outcome State Fault Refusal := .next (s.gauRead req)
/-- READ_REGS (R394). -/
def execReadRegs (req : BitVec 96) (s : State) : Host.Outcome State Fault Refusal := .next (s.gauRead req)
/-- READ_LOG (R394). -/
def execReadLog (req : BitVec 96) (s : State) : Host.Outcome State Fault Refusal := .next (s.gauRead req)

end Sys2Proof.Machine
end

