-- ==== Sys2Proof/Machine/Culvert.lean ====
section
/-! DEFINITION. The receiving side of the Culvert ports (R249 to R257), time transfer (R259, R260), the frames that a die
acts on (R237, R252, R265, R267, R268), and the settings of fabric channels and remote releases (R282, R283). -/

namespace Sys2Proof.Machine

/-! ## The link state machine (R249, R256) -/

def State.setLink (s : State) (k st : Nat) : State := s.setFld (R.culPstatus k) 31 29 st

/-- Send a TRAIN flit. -/
def State.sendTrain (s : State) (k : Nat) : State := s.nextFree.sendFlit k (s.trainBits k)

/-- The transport of a port forgets its link: sequence numbers, replay and receive buffers, waiting frames and counts,
credits, the watchdog. Routed frames that waited are counted as dropped (R257). -/
def State.linkReset (s : State) (k : Nat) : State :=
  let x := s.port k
  let lost := (x.queue.filter (fun f => routed (frameType f))).length
  (s.setPort k { sser := x.sser, rser := x.rser, lost := x.lost, turn := x.turn }).bump (R.culPdropCnt k) lost

/-- The partitions that have an enabled fabric channel through port k. -/
def State.portParts (s : State) (k : Nat) : List Nat :=
  (List.range s.nPart).filter (fun p => (List.range 64).any (fun c =>
    s.fchEn c && s.fchPart c == p && (s.fchUp c == k || (s.fchDown c).testBit k)))

/-- What a move into DOWN records (R249). -/
def State.downRecords (s : State) (k : Nat) : State :=
  let s := (s.setFlag (R.culPstatus k) 0 true).ao { type := 0x05, unit := 9, aux := k, info := s.linkState k }
  (s.portParts k).foldl (fun s p => s.event p { code := Fc.linkDown, unit := 9, info := k }) s

/-- A port goes to DOWN. -/
def State.linkDown (s : State) (k : Nat) : State := ((s.downRecords k).setLink k 6).linkReset k

/-- Both dies of the link of port k are members. -/
def State.linkMembers (s : State) (k : Nat) : Bool := !s.chipMissing (s.nbr k) && !s.chipMissing s.chip

/-- A port enters UP or HOLD from IDENT. -/
def State.linkJoin (s : State) (k : Nat) : State :=
  (s.setLink k (if s.linkMembers k then 4 else 5)).modPort k (fun x => { x with lost := false })

/-- A port in UP goes to HOLD at an epoch change: what waits and may not go is discarded and counted (R249). -/
def State.linkHold (s : State) (k : Nat) : State :=
  let x := s.port k
  let stay := x.queue.filter (fun f => frameType f == 7 || frameType f == 8)
  let gone := x.queue.filter (fun f => !(frameType f == 7 || frameType f == 8))
  ((s.setLink k 5).setPort k { x with queue := stay, counts := [], armed := false, unmarked := 0 }).bump (R.culPdropCnt k)
    ((gone.map List.length).sum + x.counts.length)

/-- LANE_LOCK (R249). -/
def execLaneLock (port : BitVec 3) (s : State) : Host.Outcome State Fault Refusal :=
  let k := port.toNat
  if s.up && decide (k < s.nPort) && s.linkState k == 1 then
    let s := ((s.setLink k 2).setFld (R.culPstatus k) 28 27 3).modPort k (fun x => { x with train := 0 })
    .next (s.sendTrain k)
  else .next s

/-- LANE_LOCK_LOSS (R249, R256). -/
def execLaneLockLoss (port : BitVec 3) (lane : Bool) (s : State) : Host.Outcome State Fault Refusal :=
  let k := port.toNat
  if s.up && decide (k < s.nPort) && s.flag (R.culPstatus k) (27 + bit lane) then
    let s := s.setFlag (R.culPstatus k) (27 + bit lane) false
    if s.linkOpen k then .next (s.linkDown k).settle
    else if s.linkState k = 2 then .next ((s.setLink k 1).modPort k (fun x => { x with train := 0 }))
    else .next s
  else .next s

/-- DOWN_TIMER_EXPIRY (R249). -/
def execDownTimerExpiry (port : BitVec 3) (s : State) : Host.Outcome State Fault Refusal :=
  let k := port.toNat
  if s.up && decide (k < s.nPort) && s.linkState k == 6 then .next (s.setLink k 1) else .next s

/-- ACK_TIMEOUT (R256). -/
def execAckTimeout (port : BitVec 3) (s : State) : Host.Outcome State Fault Refusal :=
  let k := port.toNat
  if s.up && s.linkOpen k && !(s.port k).replay.isEmpty then .next (s.linkDown k).settle else .next s

/-! ## Membership messages (R271) -/

/-- Flood a membership message on every port in UP or HOLD but one. -/
def State.floodMember (s : State) (skip : Option Nat) (m : Msg) : State :=
  ((List.range s.nPort).filter (fun k => s.linkOpen k && some k != skip)).foldl (fun s k =>
    s.queueFrame k [{ btype := 8, src := m.src, finfo := m.mtype * 2 ^ 32 + m.e, pay := m.pay }]) s

/-- This die raises a message with effective tick TICKNO + LEAD. It holds it whatever the table holds (assumption 46). -/
def State.raiseMember (s : State) (mtype pay : Nat) : State :=
  let m : Msg := { src := s.chip, mtype := mtype, e := (s.tickno + s.fld R.culMcfg 3 0) % 2 ^ 32, pay := pay }
  if s.cul.seen.contains m then s
  else ({ s with cul := { s.cul with seen := s.cul.seen ++ [m] } } : State).floodMember none m

/-- A WITHDRAW of the own tray. -/
def State.withdrawSelf (s : State) : State := (s.setFlag R.culMstatus 0 true).raiseMember 1 (s.trayOf s.chip)

/-- A received message: recorded and flooded on if new; a full table costs the die its membership. -/
def State.memberIn (s : State) (k : Nat) (m : Msg) : State :=
  if s.cul.seen.contains m then s
  else if s.cul.seen.length < 64 then
    ({ s with cul := { s.cul with seen := s.cul.seen ++ [m] } } : State).floodMember (some k) m
  else ((s.floodMember (some k) m).setFlag R.culMstatus 2 true).withdrawSelf

/-- LINK_GRACE_EXPIRY (R256, R271): LINKLOSS of an enabled port. -/
def execLinkGraceExpiry (port : BitVec 3) (s : State) : Host.Outcome State Fault Refusal :=
  let k := port.toNat
  if s.up && decide (k < s.nPort) && s.flag (R.culPcfg k) 31 && !s.linkOpen k && !(s.port k).lost then
    let s := s.modPort k (fun x => { x with lost := true })
    .next (s.raiseMember 0 (s.chip + k * 2 ^ 12 + s.nbr k * 2 ^ 16)).settle
  else .next s

/-- CUL_JOIN with GO (R271). -/
def State.joinWrite (s : State) (v : Nat) : State := if v.testBit 31 then s.raiseMember 2 (v % 256) else s

/-! ## Received flits (R249 to R256) -/

/-- The decoder corrected a flit of port k. -/
def State.flitCorrected (s : State) (k : Nat) : State := (s.bump (R.culPcorrCnt k) 1).corrected (64 + k)

/-- IDENT data of the neighbour (R249, R253). -/
def State.identIn (s : State) (k : Nat) (t : TrainFlit) : State :=
  let s := s.setFld (R.culPstatus k) 26 12 (t.chip.toNat * 8 + t.port.toNat)
  if t.chip.toNat ≠ s.nbr k then (s.setFlag (R.culPstatus k) 2 true).linkDown k
  else if t.rs544 ≠ s.flag (R.culPcfg k) 30 then s.linkDown k
  else s.linkJoin k

/-- TRAIN_FLIT (R249, R253). -/
def execTrainFlit (port : BitVec 3) (t : TrainFlit) (s : State) : Host.Outcome State Fault Refusal :=
  let k := port.toNat
  if !s.up || decide (s.nPort ≤ k) then .next s
  else
    let st := s.linkState k
    let s := if t.corrected ∧ 2 ≤ st ∧ st ≤ 5 then s.flitCorrected k else s
    if st = 2 then
      let n := if t.corrected then 0 else (s.port k).train + 1
      if n < 64 then .next (s.modPort k (fun x => { x with train := n }))
      else .next (((s.modPort k (fun x => { x with train := 0 })).setLink k 3).sendTrain k)
    else if st = 3 ∧ t.ident then .next (s.identIn k t).settle
    else .next s

/-- An ACK frees the replay buffer up to its FSEQ. -/
def State.ackIn (s : State) (k a : Nat) : State :=
  let x := s.port k
  match x.replay.findIdx? (fun e => e.1 == a) with
  | some i => s.setPort k { x with replay := x.replay.drop (i + 1), acked := a, naks := 0 }
  | none => s

/-- A returned credit. -/
def State.creditIn (s : State) (k : Nat) (c : Option Nat) : State :=
  match c with
  | some v => s.modPort k (fun x => { x with used := tmod 0 x.used v (· - 1) })
  | none => s

/-- Resend what is not acknowledged. -/
def State.resend (s : State) (k : Nat) : State :=
  let l := (s.port k).replay
  let n := l.length
  let s := (s.bump (R.culPretryCnt k) n).bump R.obsAoRetry n
  let s := if n = 0 then s else { s with obs := { s.obs with retry := tmod 0 s.obs.retry k (· + n) } }
  (l.foldl (fun s e => s.sendFlit k e.2) s).count { evt := 0x31, n := n }

/-- A NAK: the flits behind its ACK go out again, or the link goes down (R254, R256). -/
def State.nakIn (s : State) (k ack : Nat) : State :=
  let s := (s.ackIn k ack).modPort k (fun x => { x with naks := x.naks + 1 })
  if 16 ≤ (s.port k).naks then s.linkDown k else s.resend k

/-- A flit is rejected: the first since an in-order flit is answered with a NAK. -/
def State.rejectFlit (s : State) (k : Nat) : State :=
  if (s.port k).rejecting then s
  else
    (s.modPort k (fun x => { x with rejecting := true })).sendFlit k
      ({ fkind := 2, ack := ((s.port k).rxSeq + 511) % 512, epoch := s.epoch } : Flit).pack

/-! ## Counts, in the order of the flits (R51, R264, R410) -/

/-- A TICK_MARK. -/
def isMark (b : Beat) : Bool := b.btype == 1 && b.pay % 16 == 0xA

/-- How a count of a flit stands in the receive buffer, among the beats, until it is delivered: with a type that no beat has. Bit
6 of `finfo` says that it has gone on down its tree. -/
def countBeat (ep c w : Nat) : Beat := { btype := 15, finfo := c, pay := w, epoch := ep }

/-- The die wakes for what it has received. -/
def State.wakeFor (s : State) : State := if 2 ≤ s.rst.kst then { s with rst := { s.rst with waking := true } } else s

/-- Deliver a count: what goes on goes at once, and what it does here waits, in K2 and K3, for the wake (R410). The part that waits is
left. -/
def State.takeCount (s : State) (k : Nat) (b : Beat) : State × List Beat :=
  let c := b.finfo % 64
  if s.countDrops k b.epoch c b.pay then (s.epDrop, [])
  else
    let s := if b.finfo.testBit 6 then s else s.countOn c b.pay
    if 2 ≤ s.rst.kst ∧ s.countLocal c b.pay then (s.wakeFor, [{ b with finfo := c + 64 }])
    else (s.countHere c b.pay, [])

/-- Deliver the counts that stand before any TICK_MARK: none passes a mark (R51). -/
def State.takeFrom (s : State) (k : Nat) : List Beat → State × List Beat
  | [] => (s, [])
  | b :: t =>
    if isMark b then (s, b :: t)
    else
      let r := if b.btype = 15 then s.takeCount k b else (s, [b])
      let q := r.1.takeFrom k t
      (q.1, r.2 ++ q.2)

/-- Deliver the counts that port k has received, as far as they may be. -/
def State.takeCounts (s : State) (k : Nat) : State :=
  let x := s.port k
  if !x.rx.any (fun b => b.btype == 15) then s
  else
    let r := s.takeFrom k x.rx
    r.1.modPort k (fun y => { y with rx := r.2 })

/-- The counts of an accepted flit; in HOLD they are discarded (R249). -/
def State.flitCounts (s : State) (k : Nat) (w : BitVec 640) : State :=
  let g := 16 * hdr w 73 72
  ((List.range 16).filter (fun i => (hdr w 89 74).testBit i)).foldl (fun s i =>
    if s.linkUp k then
      s.modPort k (fun x => { x with
        rx := x.rx ++ [countBeat (hdr w 105 90) (g + i) (w.toNat / 2 ^ (256 + 16 * i) % 2 ^ 16)] })
    else s.drop k) s

/-- A beat that a port delivers: no beat, a beat that HOLD discards, whose credit goes back (R255), a reserved type or opcode, or
one to keep; a routed beat for the die wakes it (R410). -/
def State.flitBeatIn (s : State) (k : Nat) (b : Beat) : State :=
  let hop := b.btype == 7 || b.btype == 8
  let opc := b.pay % 16
  if b.btype = 0 then s
  else if 10 ≤ b.btype ∨ (!s.linkUp k && !hop) ∨ (b.btype = 1 ∧ opc ≠ 0xA ∧ opc ≠ 8 ∧ opc ≠ 9) then
    let s := s.drop k
    if routed b.btype then s.sendIdle k (some b.vc) else s
  else
    let s := s.modPort k (fun x => { x with rx := x.rx ++ [b] })
    if routed b.btype && b.dst == s.chip then s.wakeFor else s

/-- An in-order flit (R251, R254, R374, R375). -/
def State.acceptFlit (s : State) (k : Nat) (w : BitVec 640) : State :=
  let serial := (s.port k).rser
  let b := flitBeat w
  let s := s.modPort k (fun x => { x with rxSeq := (x.rxSeq + 1) % 512, rejecting := false, rser := x.rser + 1 })
  let s := s.ackIn k (hdr w 114 106)
  let s := s.creditIn k (if hdr w 38 38 = 1 then some (hdr w 37 36) else none)
  let s := if b.btype = 1 ∧ b.pay % 16 = 0xA then s.tmatch k true serial else s
  let s := if routed b.btype then s.tracePair k true serial b else s
  (((s.flitCounts k w).flitBeatIn k b).takeCounts k).sendIdle k none

/-- A flit that the decoder gave, and whether it corrected it (R251, R254): IDLE, NORMAL or NAK; one of another kind carries nothing
for an open link. -/
def State.flitIn (k : Nat) (s : State) (f : BitVec 640 × Bool) : State :=
  if !s.linkOpen k then s
  else
    let s := if f.2 then s.flitCorrected k else s
    let kind := hdr f.1 127 124
    if kind = 0 then
      (s.ackIn k (hdr f.1 114 106)).creditIn k (if hdr f.1 38 38 = 1 then some (hdr f.1 37 36) else none)
    else if kind = 1 then
      if hdr f.1 123 115 ≠ (s.port k).rxSeq then s.rejectFlit k else s.acceptFlit k f.1
    else if kind = 2 then s.nakIn k (hdr f.1 114 106)
    else s

/-- The form of the code that a port uses (R250, R253). -/
def rs544Form : RxFlit → Bool
  | .flit _ => false
  | .codeword _ => true

/-- What port k received, decoded: the flit, or the 8 flits of a codeword in their order. What cannot be decoded is rejected
(R250, R253, R254). -/
def State.received (s : State) (k : Nat) (fl : RxFlit) : State :=
  if !(s.up && s.linkOpen k) then s
  else match (if rs544Form fl = s.flag (R.culPcfg k) 30 then rxFlits fl else none) with
    | none => s.rejectFlit k
    | some l => ((l.foldl (State.flitIn k) s).drainPort k).settle

/-- IDLE_FLIT (R251, R254, R255): the kind of the flit is what its FKIND says. -/
def execIdleFlit (port : BitVec 3) (first : BitVec 680) (rest : Option (BitVec 4760)) (s : State) :
    Host.Outcome State Fault Refusal :=
  .next (s.received port.toNat (rxOf first rest))

/-- NORMAL_FLIT (R254). -/
def execNormalFlit (port : BitVec 3) (fl : RxFlit) (s : State) : Host.Outcome State Fault Refusal :=
  .next (s.received port.toNat fl)

/-- NAK (R254, R256). -/
def execNak (port : BitVec 3) (fl : RxFlit) (s : State) : Host.Outcome State Fault Refusal :=
  .next (s.received port.toNat fl)

/-! ## Frames -/

/-- The beats of the frame that a list of beats begins with, and what is left. -/
def frameBeats : List Beat → Option (List Beat × List Beat)
  | [] => none
  | b :: t =>
    if b.btype = 15 then (frameBeats t).map (fun r => (r.1, b :: r.2))
    else if b.last then some ([b], t)
    else (frameBeats t).map (fun r => (b :: r.1, r.2))

/-- The first complete frame whose beat 0 satisfies `p`, and what is left. Nothing behind a TICK_MARK is taken ahead of it (R51). -/
def takeFrame (p : Beat → Bool) : List Beat → Option (List Beat × List Beat)
  | [] => none
  | b :: t =>
    if p b && b.beat == 0 then frameBeats (b :: t)
    else if isMark b then none
    else (takeFrame p t).map (fun r => (r.1, b :: r.2))

/-- Take a frame off a port's receive buffer; the credits of a routed frame go back, one in each flit (R255). -/
def State.freeBeats (s : State) (k : Nat) (f rest : List Beat) : State :=
  let s := s.modPort k (fun x => { x with rx := rest })
  f.foldl (fun s b => if routed b.btype then s.sendIdle k (some b.vc) else s) s

/-- Act on the next hop beat or flood beat of a kind. -/
def State.onHop (s : State) (port : BitVec 3) (p : Beat → Bool) (act : State → Beat → State) :
    Host.Outcome State Fault Refusal :=
  let k := port.toNat
  if !s.up then .next s
  else match takeFrame p (s.port k).rx with
    | some (b :: f, rest) => .next (act (s.freeBeats k (b :: f) rest) b).settle
    | _ => .next s

/-- A beat of type `t` that may be taken: a reset notice follows the requests of its die that came before it (R239). -/
def frameDue (rx : List Beat) (t : Nat) (b : Beat) : Bool :=
  b.btype == t && (t != 9 || !(rx.takeWhile (· != b)).any (fun c => c.btype == 2 && c.src == b.src && c.dst == b.dst))

/-- Act on the next routed frame of a type: it goes on toward its die, or the die applies it; a sleeping die wakes
first (R262, R410). -/
def State.onFrame (s : State) (i : Instr) (port : BitVec 3) (t : Nat) (act : State → Beat → List Beat → State) :
    Host.Outcome State Fault Refusal :=
  let k := port.toNat
  if !s.up then .next s
  else match takeFrame (frameDue (s.port k).rx t) (s.port k).rx with
    | some (b :: f, rest) =>
      if b.dst ≠ s.chip then .next ((s.freeBeats k (b :: f) rest).routeFrame (some k) (b :: f)).settle
      else if 2 ≤ s.rst.kst then .next { s with held := s.held ++ [i], rst := { s.rst with waking := true } }
      else .next (act (s.freeBeats k (b :: f) rest) b f).settle
    | _ => .next s

/-! ## Requests and responses of other dies (R237, R252, R269, R274) -/

/-- The operation that a CTRL_REQ carries; its partition is the one sent. -/
def reqOf (b : Beat) (f : List Beat) : BankOp :=
  let h := b.pay % 2 ^ 128
  let pay := match f with | x :: y :: _ => x.pay % 2 ^ 256 + y.pay % 2 ^ 256 * 2 ^ 256 | _ => 0
  { opc := bits h 127 123, space := bits h 122 121, index := bits h 98 75, gen := bits h 74 59,
    a := BitVec.ofNat 64 (b.pay / 2 ^ 128), b := BitVec.ofNat 64 (b.pay / 2 ^ 192), pay := BitVec.ofNat 512 pay,
    part := some (b.finfo % 32), master := bits h 111 99,
    origin := .cul b.src (bits h 119 112) (h.testBit 120), func0 := bits h 111 99 == 0x1000 }

/-- The request of a CTRL_REQ is malformed (R72, R80, R222). -/
def reqInBad (b : Beat) (o : BankOp) : Bool :=
  headerBad (bits b.pay 58 0) o.space o.opc o.index || (o.space == 2 && !wellFmt o)

/-- The home die applies a request: a malformed one is answered BAD_OP, a well operation begins with step 3 of R223, any other is
checked at its bank. -/
def State.reqIn (s : State) (b : Beat) (f : List Beat) : State :=
  if s.oldEpoch (b.finfo % 32) b.epoch then s.epDrop
  else
    let o := reqOf b f
    if reqInBad b o then s.refuseOp o { result := Res.badOp }
    else if o.space = 0 ∧ o.opc = Op.poll then s.pollReq o
    else s.issue o

/-- CTRL_REQ (R237, R252, R269). -/
def execCtrlReq (port : BitVec 3) (s : State) : Host.Outcome State Fault Refusal :=
  s.onFrame (.ctrlReq port) port 2 (fun s b f => s.reqIn b f)

/-- The fault code of a refused forward (R268). -/
def refusalCode (result : Nat) : Nat :=
  if result = Res.rights then Fc.rights
  else if result = Res.uncorrectable then Fc.codeUncorrectable else Fc.descFormat

/-- The refusal of a FWD or FARRIVE comes back (R268). -/
def State.forwardRefused (s : State) (b : Beat) : State :=
  let r := (BankRsp.ofFlit (BitVec.ofNat 128 b.pay)).result
  let s := (s.bump R.culFwdRefCnt 1).ao { type := 0x0A, unit := 9, part := b.finfo % 32, aux := r, info := b.src }
  s.event (b.finfo % 32) { code := refusalCode r, unit := 9 }

/-- A response: to the forwarded request of its chip, master and TAG; a response that nothing awaits is discarded
(R240). -/
def State.rspIn (s : State) (b : Beat) : State :=
  let m := bits b.finfo 35 23
  if m = 0x1FFF then s.forwardRefused b
  else match s.cul.fwds.find? (fun x => x.chip == b.src && x.master == m && x.tag == bits b.pay 127 120) with
    | some x => (s.dropFwd x).deliver x.op (BankRsp.ofFlit (BitVec.ofNat 128 b.pay))
    | none => s

/-- CTRL_RSP (R252). -/
def execCtrlRsp (port : BitVec 3) (s : State) : Host.Outcome State Fault Refusal :=
  s.onFrame (.ctrlRsp port) port 3 (fun s b _ => s.rspIn b)

/-- A FWD as an operation (R184, R252, R267). -/
def fwdOp (b : Beat) (f : List Beat) : BankOp :=
  let x := match f with | y :: _ => y | [] => { b with finfo := 0, pay := 0 }
  { opc := Op.reduceInto, space := 0, index := bits b.finfo 35 12, gen := 0,
    a := BitVec.ofNat 64 (bits b.finfo 11 6 + bits x.finfo 35 20 * 2 ^ 8 + bits x.finfo 19 12 * 2 ^ 24),
    b := BitVec.ofNat 64 (bits b.finfo 5 5), pay := BitVec.ofNat 512 (b.pay % 2 ^ 256 + x.pay % 2 ^ 256 * 2 ^ 256),
    part := some (b.finfo % 32), master := 0x1FFF, origin := .fwd b.src, func0 := false }

/-- FWD (R184, R267, R274). -/
def execFwd (port : BitVec 3) (s : State) : Host.Outcome State Fault Refusal :=
  s.onFrame (.fwd port) port 4 (fun s b f =>
    if s.oldEpoch (b.finfo % 32) b.epoch then s.epDrop else s.issue (fwdOp b f))

/-- FARRIVE (R267, R274). -/
def execFarrive (port : BitVec 3) (s : State) : Host.Outcome State Fault Refusal :=
  s.onFrame (.farrive port) port 5 (fun s b _ =>
    if s.oldEpoch (b.finfo % 32) b.epoch then s.epDrop
    else s.issue { opc := Op.arrive, space := 0, index := bits b.finfo 35 12, gen := 0, a := 0, b := 0, pay := 0,
                   part := some (b.finfo % 32), master := 0x1FFF, origin := .fwd b.src, func0 := false })

/-- RNOTICE (R239): the masters of the sending chip enter the pending set. -/
def execRnotice (port : BitVec 3) (s : State) : Host.Outcome State Fault Refusal :=
  s.onFrame (.rnotice port) port 9 (fun s b f =>
    (b :: f).foldl (fun s c => s.addPend b.src (noticeMasters c.pay)) s)

/-- MEMBER (R271). -/
def execMember (port : BitVec 3) (s : State) : Host.Outcome State Fault Refusal :=
  s.onHop port (fun b => b.btype == 8) (fun s b =>
    s.memberIn port.toNat { src := b.src, mtype := bits b.finfo 35 32, e := b.finfo % 2 ^ 32, pay := b.pay })

/-- FCTL (R46, R265): the stretch goes down the tree, and a late tick of the partition takes it. -/
def execFctl (port : BitVec 3) (s : State) : Host.Outcome State Fault Refusal :=
  s.onHop port (fun b => b.btype == 6) (fun s b =>
    let c := b.finfo % 64
    if s.fchEn c && s.fchTclose c && !s.fchFrozen c && s.fchUp c == port.toNat then
      let s := (maskPorts (s.fchDown c)).foldl (fun s k => s.sendHop k 6 c (b.pay % 2 ^ 16)) s
      if s.isLate (s.fchPart c) then s.modPrt (s.fchPart c) (fun x => { x with stretch := some (b.pay % 2 ^ 16) }) else s
    else s)

/-! ## TICK_MARKs (R51 to R53, R256) -/

/-- A mark error (R52, R256). -/
def State.markError (s : State) (k : Nat) : State :=
  let s := (s.bump (R.culPmarkCnt k) 1).setFlag (R.culPstatus k) 1 true
  let s := s.ao { type := 0x05, unit := 9, aux := k, info := s.linkState k + 8 }
  let twice := decide (1 ≤ (s.port k).markErrRow)
  let s := s.modPort k (fun x => { x with markErr := true })
  if twice then s.linkDown k else s

/-- A TICK_MARK arrives: a final one disarms the watchdog; another is checked and arms it while the port is in UP and the own
grid runs. Its TICKNO is kept for the cut of a STOP (R367). -/
def State.markIn (s : State) (k : Nat) (b : Beat) : State :=
  let n := bits b.pay 31 16
  if b.pay.testBit 32 then s.modPort k (fun x => { x with armed := false, unmarked := 0 })
  else if !s.grid.running || !s.linkUp k then s
  else
    let s := s.modPort k (fun x => { x with armed := true, unmarked := 0, mark := some (BitVec.ofNat 16 n) })
    if n = s.tickno % 65536 then s else s.markError k

/-- TICK_MARK (R51 to R53): the counts that stood behind it may be delivered. -/
def execTickMark (port : BitVec 3) (s : State) : Host.Outcome State Fault Refusal :=
  s.onHop port isMark (fun s b => (s.markIn port.toNat b).takeCounts port.toNat)

/-- TICK_MARK_WATCHDOG_EXPIRY (R52, R53, R256): a whole grid tick has begun and ended since the last mark. -/
def execTickMarkWatchdogExpiry (port : BitVec 3) (s : State) : Host.Outcome State Fault Refusal :=
  let k := port.toNat
  if s.up && s.linkUp k && s.grid.running && (s.port k).armed && decide (2 ≤ (s.port k).unmarked) then
    .next (s.linkDown k).settle
  else .next s

/-- The ports at a grid tick boundary: a TICK_MARK on each in UP, the watchdogs, and the ticks in a row with a mark
error. -/
def State.tickMarks (s : State) : State :=
  (List.range s.nPort).foldl (fun s k =>
    let s := if s.linkUp k then s.sendHop k 1 0 (0xA + s.tickno % 65536 * 2 ^ 16) else s
    if s.port k = {} then s
    else s.modPort k (fun x => { x with
      unmarked := if x.armed then x.unmarked + 1 else 0, markErr := false,
      markErrRow := if x.markErr then x.markErrRow + 1 else 0 })) s

/-- The final TICK_MARK of a grid that stops (R53); its watchdogs disarm. -/
def State.finalMarks (s : State) : State :=
  (List.range s.nPort).foldl (fun s k =>
    let s := if s.linkUp k then s.sendHop k 1 0 (0xA + s.tickno % 65536 * 2 ^ 16 + 2 ^ 32) else s
    if s.port k = {} then s
    else s.modPort k (fun x => { x with armed := false, unmarked := 0, mark := none, markErr := false, markErrRow := 0 })) s

/-! ## Time transfer (R25, R26, R259, R260) -/

/-- CUL_TCFG.TPORT; 7 is the reference die. -/
def State.tport (s : State) : Nat := s.fld R.culTcfg 31 29

/-- OBS_TB_STATUS.INSYNC (R26): the reference die is its own reference. -/
def State.insync (s : State) : Bool := !s.matchMode && (s.tport == 7 || s.flag R.obsTbStatus 2)

/-- OFFS and SLEW as read (R26, R28). -/
def State.offs (s : State) : Nat := if s.matchMode || s.tport == 7 then 0 else s.fld R.obsTbStatus 31 16
def State.slewing (s : State) : Bool := !s.matchMode && s.tport != 7 && s.clk.off != 0

/-- INSYNC is compared with what it was: a change is recorded (R26, R354). -/
def State.syncRecord (s : State) (was : Bool) : State :=
  if s.insync = was then s else s.ao { type := 0x04, unit := 11, aux := bit s.insync, info := s.offs }

/-- The TB in 1/256 ns, as 64 bits of ns and 8 of fraction (R259). -/
def State.tb72 (s : State) : Nat := s.clk.tb.toNat / 2 ^ 16

/-- TIME_REQUEST_TIMER (R259, R373). -/
def execTimeRequestTimer (s : State) : Host.Outcome State Fault Refusal :=
  if s.up && !s.matchMode && s.linkOpen s.tport then .next (s.sendHop s.tport 7 0 s.tb72).settle
  else .next s

/-- TIME_REQUEST (R259): T2 and T3 are the TB in the step. -/
def execTimeRequest (port : BitVec 3) (s : State) : Host.Outcome State Fault Refusal :=
  s.onHop port (fun b => b.btype == 7 && b.finfo % 2 == 0) (fun s b =>
    s.sendHop port.toNat 7 1 (b.pay % 2 ^ 72 + s.tb72 * 2 ^ 72 + s.tb72 * 2 ^ 144))

/-- A 16-bit two's complement number. -/
def sext16 (v : Nat) : Int := if v < 2 ^ 15 then (v : Int) else (v : Int) - 2 ^ 16

/-- An offset estimate in 1/256 ns: OFFS is its negative, filtered, and the filter is not given (a free value); INSYNC follows
OFFS, and the servo has the estimate to remove. -/
def State.estimated (s : State) (off : Int) : State :=
  let was := s.insync
  let v := s.free % 2 ^ 16
  let near := decide (-4 ≤ sext16 v ∧ sext16 v ≤ 4)
  let s := (s.nextFree.setFld R.obsTbStatus 31 16 v).setFld R.obsTbStatus 2 2 (bit near)
  ({ s with clk := { s.clk with estimate := true, off := off * 2 ^ 16 } } : State).syncRecord was

/-- TIME_ANSWER (R259). -/
def execTimeAnswer (port : BitVec 3) (s : State) : Host.Outcome State Fault Refusal :=
  s.onHop port (fun b => b.btype == 7 && b.finfo % 2 == 1) (fun s b =>
    if s.matchMode || s.tport != port.toNat then s
    else
      let t1 : Int := (b.pay % 2 ^ 72 : Nat)
      let t2 : Int := (b.pay / 2 ^ 72 % 2 ^ 72 : Nat)
      let t3 : Int := (b.pay / 2 ^ 144 % 2 ^ 72 : Nat)
      let t4 : Int := (s.tb72 : Nat)
      let asym := sext16 (s.fld (R.culPasym port.toNat) 15 0)
      let rtt := ((t4 - t1) - (t3 - t2)) % 2 ^ 32
      (s.setReg (R.culPrtt port.toNat) rtt.toNat).estimated (((t2 - t1) - (t4 - t3) + asym) / 2))

/-- TIME_ESTIMATE_AGED (R260): the die is out of bound. -/
def execTimeEstimateAged (s : State) : Host.Outcome State Fault Refusal :=
  if s.up && !s.matchMode && s.tport != 7 && !s.linkOpen s.tport && s.clk.estimate then
    let was := s.insync
    let s := { s with clk := { s.clk with estimate := false, off := 0 } }
    .next ((s.setFld R.obsTbStatus 2 2 0).syncRecord was)
  else .next s

/-- A partition of the die in RUN whose span includes another tray (R260). -/
def State.abroad (s : State) (p : Nat) : Bool :=
  (List.range 256).any (fun t => t != s.trayOf s.chip && s.spans p t)

/-- The withdrawal of R260 at a grid tick boundary. -/
def State.graceCheck (s : State) : State :=
  let n := if s.insync then 0 else s.clk.lowTicks + 1
  let s := { s with clk := { s.clk with lowTicks := n } }
  let own := s.trayOf s.chip
  let said := s.cul.seen.any (fun m => m.src == s.chip && m.mtype == 1 && m.pay == own)
  if 0 < n ∧ s.fld R.culTcfg 15 0 ≤ n ∧ !said ∧ !s.trayMissing own
      ∧ (List.range s.nPart).any (fun p => s.pstate p == 2 && s.abroad p) then s.withdrawSelf else s

/-! ## Settings (R249, R282, R283) -/

/-- A write of CUL_PCFG that makes `t`: EN moves the port out of OFF or into it (R249). -/
def State.portConfig (s t : State) (k : Nat) : State :=
  if t.flag (R.culPcfg k) 31 then (if s.linkState k = 0 then t.setLink k 1 else t)
  else if s.linkState k = 0 then t
  else (t.setLink k 0).linkReset k

/-- A write of CUL_FCH_CFG that makes `t` (R282). -/
def State.channelJudge (s t : State) (c : Nat) : State :=
  let second := t.fchTclose c && (List.range 64).any (fun d => d != c && t.fchTclose d && t.fchPart d == t.fchPart c)
  if (t.fchRoot c && t.fchUp c != 7) || (!t.fchRoot c && t.fchUp c == 7) || decide (4096 < t.fchMembers c) || second then
    s.setFlag R.culMstatus 3 true
  else t

/-- A write of CUL_RRT_SRC that makes `t` (R283). -/
def State.remoteJudge (s t : State) (e : Nat) : State :=
  let w := t.reg (R.culRrtSrc e)
  let same := (List.range 1024).countP (fun i =>
    let v := t.reg (R.culRrtSrc i)
    v.testBit 31 && bits v 30 26 == bits w 30 26 && bits v 23 0 == bits w 23 0)
  if w.testBit 31 ∧ 8 < same then s.setFlag R.culMstatus 3 true else t

end Sys2Proof.Machine
end

