-- ==== Sys2Proof/Machine/Member.lean ====
section
/-! DEFINITION. Membership (R270 to R274, R284): the missing set that the messages of a boundary give, and what the die does
when it changes. -/

namespace Sys2Proof.Machine

/-! ## The missing set (R272). A set of trays is a bit mask; a link is a pair of chips, the lower first:
no two dies have more than one link between them (R261). -/

/-- The trays of the fabric that CUL_FABCFG describes (R261, R272, R284). -/
def State.trays (s : State) : List Nat :=
  if s.isC then List.range ((s.fld R.culFabcfg 7 0 + 16) / 16)
  else
    let nx := (s.fld R.culFabcfg 11 8 + 4) / 4
    let ny := (s.fld R.culFabcfg 7 4 + 4) / 4
    (List.range (s.fld R.culFabcfg 3 0 + 1)).flatMap (fun z =>
      (List.range ny).flatMap (fun y => (List.range nx).map (fun x => x + 4 * y + 16 * z)))

/-- Places a and b are neighbours on a ring of n. -/
def ringNext (n a b : Nat) : Bool := a != b && (decide (b = (a + 1) % n) || decide (a = (b + 1) % n))

/-- Two trays have links between them. -/
def State.trayNext (s : State) (a b : Nat) : Bool :=
  if s.isC then ringNext ((s.fld R.culFabcfg 7 0 + 16) / 16) a b
  else
    let nx := (s.fld R.culFabcfg 11 8 + 4) / 4
    let ny := (s.fld R.culFabcfg 7 4 + 4) / 4
    let nz := s.fld R.culFabcfg 3 0 + 1
    let same := fun (n m : Nat) => a / n % m == b / n % m
    (same 4 4 && same 16 16 && ringNext nx (a % 4) (b % 4)) || (same 1 4 && same 16 16 && ringNext ny (a / 4 % 4) (b / 4 % 4))
      || (same 1 16 && ringNext nz (a / 16) (b / 16))

/-- The links of f that join two trays outside m. -/
def State.badLinks (s : State) (f : List (Nat × Nat)) (m : Nat) : List (Nat × Nat) :=
  f.filter (fun e => s.trayOf e.1 != s.trayOf e.2 && !m.testBit (s.trayOf e.1) && !m.testBit (s.trayOf e.2))

/-- The tray with most such links; on a tie, the higher number. -/
def State.worstTray (s : State) (l : List (Nat × Nat)) : Nat :=
  let n := fun t => l.countP (fun e => s.trayOf e.1 == t || s.trayOf e.2 == t)
  (l.flatMap (fun e => [s.trayOf e.1, s.trayOf e.2])).foldl (fun b t =>
    if n b < n t ∨ (n b = n t ∧ b < t) then t else b) 0

/-- Take trays out until no failed link joins two that are left. -/
def State.cutLinks (s : State) (f : List (Nat × Nat)) : Nat → Nat → Nat
  | 0, m => m
  | n + 1, m =>
    match s.badLinks f m with
    | [] => m
    | l => s.cutLinks f n (m ||| 2 ^ s.worstTray l)

/-- The trays that can be reached from those of `r` without crossing m. -/
def State.reach (s : State) (m : Nat) : Nat → List Nat → List Nat
  | 0, r => r
  | n + 1, r =>
    let new := s.trays.filter (fun t => !m.testBit t && !r.contains t && r.any (fun a => s.trayNext a t))
    if new.isEmpty then r else s.reach m n (r ++ new)

/-- The mask of a list of trays. -/
def trayMask (l : List Nat) : Nat := l.foldl (fun m t => m ||| 2 ^ t) 0

/-- The missing set and the failed links that the messages give, and whether the die continues. -/
structure Change where
  m : Nat
  f : List (Nat × Nat)
  goes : Bool
  deriving DecidableEq, Repr

/-- CUL_MISS as one mask. -/
def State.missing (s : State) : Nat := (List.range 8).foldl (fun a w => a + s.reg (R.culMiss w) * 2 ^ (32 * w)) 0

/-- The computation of R272. -/
def State.change (s : State) (l : List Msg) : Change :=
  let joins := (l.filter (fun x => x.mtype == 2)).map (fun x => x.pay % 256)
  let m := s.missing ||| trayMask ((l.filter (fun x => x.mtype == 1)).map (fun x => x.pay % 256))
  let links := (l.filter (fun x => x.mtype == 0)).map (fun x =>
    (min (bits x.pay 11 0) (bits x.pay 27 16), max (bits x.pay 11 0) (bits x.pay 27 16)))
  let f := (s.cul.links ++ links).eraseDups
  let m := joins.foldl (fun m t => if m.testBit t then m - 2 ^ t else m) m
  let f := f.filter (fun e => !joins.contains (s.trayOf e.1) && !joins.contains (s.trayOf e.2))
  let m := s.cutLinks f 256 m
  let own := s.trayOf s.chip
  let r := if m.testBit own then [] else s.reach m 256 [own]
  let m := m ||| trayMask (s.trays.filter (fun t => !r.contains t))
  let left := s.trays.countP (fun t => !m.testBit t)
  let n := s.trays.length
  if n < 2 * left ∨ (n = 2 * left ∧ ¬ m.testBit 0) then ⟨m, f, true⟩ else ⟨m ||| trayMask s.trays, f, false⟩

/-! ## A change takes effect (R273, R236) -/

/-- A fabric channel freezes: its counts, WAIT_REL and PENDING clear (R273). -/
def State.freezeChannel (s : State) (c : Nat) : State := (s.setReg (R.culFchStat c) (2 ^ 31)).setFab c {}

/-- The enabled fabric channels of p. -/
def State.channelsOf (s : State) (p : Nat) : List Nat := (List.range 64).filter (fun c => s.fchEn c && s.fchPart c == p)

/-- Every fabric channel of p freezes. -/
def State.freezeAll (s : State) (p : Nat) : State := (s.channelsOf p).foldl State.freezeChannel s

/-- The cisterns of p that take part in the fabric (R270). -/
def State.fabricCisterns (s : State) (p : Nat) : List Nat :=
  (((s.channelsOf p).filter (fun c => !s.fchTclose c)).flatMap (fun c => [s.fld (R.culFchUp c) 23 0, s.fld (R.culFchDn c) 23 0])
    ++ (List.range 1024).filterMap (fun e =>
        let w := s.reg (R.culRrtSrc e)
        if w.testBit 31 && bits w 30 26 == p then some (bits w 23 0) else none)).eraseDups

/-- A cistern that spans a missing die goes to FAULT if it is ARMED (R63). -/
def State.faultCistern (s : State) (p cnum : Nat) : State :=
  if !s.holdsCnum p cnum then s
  else match s.slotOf p cnum with
    | none => s
    | some n =>
      let r := s.readEntry p n cnum
      if r.2 && (r.1.entry n).status == stArmed then r.1.mark p cnum (r.1.entry n).gen.toNat stFault else r.1

/-- A late tick of p ends as the die alone decides, with the boundary as τ (R48, R49, R273): its outcome marks what stays ARMED. -/
def State.closeAlone (s : State) (p : Nat) : State :=
  match s.tcloseOf p with
  | none => s
  | some _ =>
    let x := s.prt p
    let s := s.modPrt p (fun x => { x with alone := true })
    if x.begun && s.isLate p && x.stretch.isNone && !s.tooLate p 0 then
      s.modPrt p (fun x => { x with stretch := some (s.stretchNow p 0) })
    else s

/-- What befalls an affected partition (R273, step 2); `n` trays are missing. -/
def State.affect (s : State) (p n : Nat) : State :=
  let s := s.closeAlone p
  let s := (s.fabricCisterns p).foldl (fun s c => s.faultCistern p c) s
  (s.freezeAll p).fault p { code := Fc.memberLost, n1 := n, unit := 9 }

/-- Ports at a change (R273, step 1). -/
def State.portMember (s : State) (k : Nat) : State :=
  if s.linkState k = 4 ∧ !s.linkMembers k then s.linkHold k
  else if s.linkState k = 5 ∧ s.linkMembers k then s.setLink k 4
  else s

/-- Forwarded requests to a chip that is missing now are answered (R236, R269). -/
def State.lostForwards (s : State) : State :=
  (s.cul.fwds.filter (fun x => s.chipMissing x.chip)).foldl (fun s x =>
    if x.op.space = 2 then (s.dropFwd x).wellLost x.op Fc.memberLost else (s.dropFwd x).cisternLost x.op Fc.memberLost) s

/-- Every master of every missing chip enters the pending set (R236). -/
def State.lostMasters (s : State) : State :=
  ((List.range 4096).filter (fun c => c != s.chip && s.chipMissing c)).foldl (fun s c => s.addPend c [anyMaster]) s

/-- A change of the missing set takes effect (R273). -/
def State.applyChange (s : State) (c : Change) (msgs : Nat) : State :=
  let old := s.missing
  let s := (List.range 8).foldl (fun s w => s.setReg (R.culMiss w) (c.m / 2 ^ (32 * w) % 2 ^ 32)) s
  let s := { s with cul := { s.cul with links := c.f } }
  let s := (s.setFld R.culEpoch 15 0 (s.epoch + 1)).setFlag R.culEpoch 17 (!c.goes)
  let s := s.setFlag R.culMstatus 1 true
  let s := (List.range s.nPort).foldl State.portMember s
  let n := popcount 256 c.m
  let hit := fun p => (List.range 256).any (fun t => s.spans p t && c.m.testBit t && !old.testBit t) || (!c.goes && s.abroad p)
  let s := ((List.range s.nPart).filter hit).foldl (fun s p => s.affect p n) s
  let s := s.lostForwards.lostMasters
  s.ao { type := 0x09, unit := 9, aux := bit (!c.goes), info := msgs % 256 + n % 2 ^ 16 * 2 ^ 8 }

/-- The effective tick of a message has passed. -/
def State.msgPast (s : State) (m : Msg) : Bool :=
  let d := (s.tickno + 2 ^ 32 - m.e) % 2 ^ 32
  decide (d < 2 ^ 31)

/-- The messages of this grid tick boundary act, and past ones retire (R271, R272). -/
def State.epochChange (s : State) : State :=
  let l := s.cul.seen.filter (fun m => m.e == s.tickno % 2 ^ 32)
  let s := { s with cul := { s.cul with seen := s.cul.seen.filter (fun m => !s.msgPast m) } }
  if l.isEmpty then s else s.applyChange (s.change l) l.length

/-- Partition p is multi-die (R292). -/
def State.multiDie (s : State) (p : Nat) : Bool :=
  !(s.channelsOf p).isEmpty || (List.range 4).any (fun i => s.flag (R.culPx p i) 31)
    || (List.range 1024).any (fun e => s.flag (R.culRrtSrc e) 31 && s.fld (R.culRrtSrc e) 30 26 == p) || s.abroad p

end Sys2Proof.Machine
end

