-- ==== Sys2Proof/Machine/Dqu.lean ====
section
/-! DEFINITION. The Doorbell and Queue Unit (R297 to R316): doorbells and kicks, fetching, the commands of the host rings,
completions, interrupt messages, enabling and disabling, and the answers to writes of fault entries (R313). -/

namespace Sys2Proof.Machine

/-! ## Rings (R301, R309) -/

def State.cmdCap (s : State) (f : Nat) : Nat := ringCap 16 (s.fld (R.dqRingSize f) 4 0)
def State.cplCap (s : State) (f : Nat) : Nat := ringCap 16 (s.fld (R.dqRingSize f) 20 16)

/-- The queues of f run: enabled, not in ERROR, the block awake (R299, R315, R316). -/
def State.fnRuns (s : State) (f : Nat) : Bool :=
  s.up && decide (s.rst.kst < 2) && s.flag (R.dqCtrl f) 0 && s.fEn f && s.fld (R.pfmFstate f) 1 0 == 1

/-- A command producer index is delivered (R301). -/
def State.prodIn (s : State) (f v : Nat) : State :=
  let x := s.fn f
  let d := (v + 65536 - x.cmdCons.toNat) % 65536
  if s.cmdCap f < d then s.fnError f Fc.descFormat v
  else if d < (x.cmdProd - x.cmdCons).toNat then s
  else s.setFn f { x with cmdProd := BitVec.ofNat 16 v }

/-- A completion consumer index is delivered (R301): neither more entries consumed than written, nor backward. -/
def State.consIn (s : State) (f u : Nat) : State :=
  let x := s.fn f
  let w := x.cplProd.toNat % 65536
  let d := (w + 65536 - u) % 65536
  let used := (w + 65536 - x.cplCons.toNat) % 65536
  if s.cplCap f < d then s.fnError f Fc.descFormat u
  else if used < d then s
  else s.setFn f { x with cplCons := BitVec.ofNat 16 u }

/-- Both indices of a doorbell record or a kick (R300, R301): [15:0] CMD_PROD, [31:16] CPL_CONS. A function that does not
run takes none. -/
def State.kickIn (s : State) (f w : Nat) : State :=
  if !s.fnRuns f then s
  else
    let s := s.prodIn f (w % 65536)
    if s.fnRuns f then s.consIn f (w / 65536 % 65536) else s

/-- The address of f's doorbell record (R298). -/
def State.dbAddr (s : State) (f : Nat) : Nat := s.pair (R.dqDbAddr f)

/-- Read f's doorbell record (R299). -/
def State.doorbell (s : State) (f : Nat) : State :=
  (s.memRd (.doorbell f) (s.dbAddr f) 64 (some f)).modFn f (fun x =>
    { x with dbReads := x.dbReads + 1, lastPoll := s.clk.kclk })

/-- The functions whose records are read each grid tick (R299). -/
def State.polledFns (s : State) : List Nat := (List.range s.nFunc).filter (fun f => s.flag (R.dqCtrl f) 0 && s.fEn f)

/-- The reads of a grid tick boundary. -/
def State.tickDoorbells (s : State) : State := s.polledFns.foldl State.doorbell s

/-- The reads of a grid slot boundary: FASTPOLL, and 1,024 kclk after the read before. -/
def State.slotDoorbells (s : State) : State :=
  (s.polledFns.filter (fun f => s.flag (R.pfmFcfg f) 29 && decide ((s.fn f).lastPoll + 1024 ≤ s.clk.kclk))).foldl
    State.doorbell s

/-- DOORBELL_READ_DONE (R301, R315): `rec` is the record's first 32 bits. -/
def execDoorbellReadDone (f : BitVec 8) (rec : W32) (resp : BitVec 2) (s : State) : Host.Outcome State Fault Refusal :=
  let f := f.toNat
  if (s.fn f).dbReads = 0 then .next s
  else
    let s := (s.memGot (.doorbell f)).modFn f (fun x => { x with dbReads := x.dbReads - 1 })
    if badResp resp then .next ((s.fnError f Fc.busFault (s.dbAddr f)).sysError (s.dbAddr f) true false resp)
    else .next (s.kickIn f rec.toNat)

/-! ## Fetching (R297, R302) -/

/-- The ring index of the next command to fetch. -/
def Fn.fetchIdx (x : Fn) : Nat := (x.cmdReads.foldl (fun a r => a + r.2) x.cmdCons.toNat) % 65536

/-- The address of command slot i (R302). -/
def State.cmdAddr (s : State) (f i : Nat) : Nat := s.pair (R.dqCmdBase f) + 64 * (i % 2 ^ s.fld (R.dqRingSize f) 4 0)

/-- Completion ring entries that no command has a claim on (R302, R309). -/
def State.cplRoom (s : State) (f : Nat) : Nat :=
  let x := s.fn f
  s.cplCap f - (x.cplProd.toNat + 65536 - x.cplCons.toNat) % 65536
    - (x.cmds.length + x.flight.length + x.waits.length + x.cpls.length + x.cmdReads.foldl (fun a r => a + r.2) 0)

/-- How many commands f may fetch with one read: one contiguous run of the ring. -/
def State.fetchSize (s : State) (f : Nat) : Nat :=
  let x := s.fn f
  let i := x.fetchIdx
  let n := 2 ^ s.fld (R.dqRingSize f) 4 0
  min (min 8 ((x.cmdProd.toNat + 65536 - i) % 65536)) (min (s.cplRoom f) (n - i % n))

/-- f may fetch: not while its partition is QUIESCING or its fetching is held (R294, R297), nor in a STOP (R365). -/
def State.canFetch (s : State) (f : Nat) : Bool :=
  s.fnRuns f && !s.stopped && !(s.fn f).stalled && (f == 0 || s.pstate (s.fPart f) != 3) && decide (0 < s.fetchSize f)

/-- Command reads outstanding on the die. -/
def State.readsOut (s : State) : Nat := s.fns.foldl (fun n e => n + e.2.cmdReads.length) 0

/-- COMMAND_FETCH (R302): one read for the function whose turn it is. -/
def execCommandFetch (s : State) : Host.Outcome State Fault Refusal :=
  if 16 ≤ s.readsOut then .next s
  else match (rotate s.nFunc s.fetchTurn).find? s.canFetch with
    | none => .next s
    | some f =>
      let i := (s.fn f).fetchIdx
      let n := s.fetchSize f
      let s := s.memRd (.command f) (s.cmdAddr f i) (64 * n) (some f)
      let s := s.modFn f (fun x => { x with cmdReads := x.cmdReads ++ [(i, n)] })
      .next { s with fetchTurn := (f + 1) % s.nFunc }

/-- The reads that f has outstanding will be discarded. -/
def Fn.stale (x : Fn) : Fn := { x with cmdReads := x.cmdReads.map (fun r => (r.1, 0)) }

/-- A command that fetching stops at: of a partition that is not in RUN, other than NOP and SCHED_LOAD (R297). -/
def State.stopsAt (s : State) (f : Nat) (w : BitVec 512) : Bool :=
  let opc := w.toNat % 256
  f != 0 && decide (s.pstate (s.fPart f) < 2) && opc != 0 && opc != 7

/-- A command is fetched: a malformed one completes at once (R303). -/
def State.accept (s : State) (f : Nat) (w : BitVec 512) : State :=
  let c : Cmd := ⟨w, (s.fn f).cmdCons.toNat⟩
  let s := s.modFn f (fun x => { x with cmdCons := x.cmdCons + 1 })
  if s.cmdOk f c then s.modFn f (fun x => { x with cmds := x.cmds ++ [c] }) else s.refuse f c Fc.descFormat

/-- The commands of a read, in ring order. -/
def State.acceptAll (s : State) (f : Nat) : List (BitVec 512) → State
  | [] => s
  | w :: t =>
    if s.stopsAt f w then s.modFn f (fun x => { x.stale with stalled := true }) else (s.accept f w).acceptAll f t

/-- COMMAND_READ_DONE (R297, R302, R303, R315): the oldest read of f. -/
def execCommandReadDone (f : BitVec 8) (cmds : List (BitVec 512)) (resp : BitVec 2) (s : State) :
    Host.Outcome State Fault Refusal :=
  let f := f.toNat
  match (s.fn f).cmdReads with
  | [] => .next s
  | (i, n) :: t =>
    let s := (s.memGot (.command f)).modFn f (fun x => { x with cmdReads := t })
    if badResp resp then
      .next (((if n = 0 then s else s.fnError f Fc.busFault (s.cmdAddr f i)).sysError (s.cmdAddr f i) true false resp)).settle
    else if n = 0 then .next s
    else if f ≠ 0 ∧ s.pstate (s.fPart f) = 3 then .next (s.modFn f Fn.stale)
    else .next (s.acceptAll f (cmds.take n)).settle

/-! ## Issuing commands (R303 to R307) -/

/-- The command of f that issues next, if it is of the kind `ok` (R304). -/
def State.nextCmd (s : State) (f : Nat) (ok : Cmd → Bool) : Option Cmd :=
  let x := s.fn f
  match x.cmds with
  | c :: _ => if ok c && s.fnRuns f && (!c.order || (x.flight.isEmpty && x.waits.isEmpty)) then some c else none
  | [] => none

/-- A command issues: it is in flight. -/
def State.fly (s : State) (f : Nat) (c : Cmd) (ph : Phase := .bank) : State :=
  s.modFn f (fun x => { x with cmds := x.cmds.tail, flight := x.flight ++ [⟨c, ph⟩] })

/-- The row of a command: the next command of f, if it is of that kind, is in flight and does its work. -/
def State.cmdStep (s : State) (f : BitVec 8) (ok : Cmd → Bool) (ph : Phase) (go : State → Nat → Cmd → State) :
    Host.Outcome State Fault Refusal :=
  match s.nextCmd f.toNat ok with
  | some c => .next (go (s.fly f.toNat c ph) f.toNat c).settle
  | none => .next s

/-- An operation on a cistern or a basin word that the DQU issues (R286). -/
def State.dquOp (s : State) (f : Nat) (c : Cmd) (opc space index gen : Nat) (a b : W64) (pay : Payload := 0) : BankOp :=
  { opc := opc, space := space, index := index, gen := gen, a := a, b := b, pay := pay, part := some (s.cmdPart f c),
    master := 0x1000 + f, origin := .dqu f c.cidx, func0 := f == 0 }

/-- Only function 0 and functions with CTL may do this (R303). -/
def State.fnCtl (s : State) (f : Nat) : Bool := f == 0 || s.flag (R.pfmFcfg f) 30

/-- NOP (R303). -/
def execNop (f : BitVec 8) (s : State) : Host.Outcome State Fault Refusal :=
  s.cmdStep f (fun c => c.opc == 0) .bank (fun s f c => s.complete f c {})

/-- ARM_COMMAND (R303): B is formed from LAYER and OPERATOR. -/
def execArmCommand (f : BitVec 8) (s : State) : Host.Outcome State Fault Refusal :=
  s.cmdStep f (fun c => c.opc == 1) .bank (fun s f c =>
    s.submit (s.dquOp f c Op.arm 0 c.cnum 0 c.a (BitVec.ofNat 64 (c.layer * 2 ^ 12 + c.oper))))

/-- A POST names an operation that its space does not have, or a word between words (R72, R80). -/
def postBad (c : Cmd) : Bool := headerBad 0 c.sub c.bop c.cnum

/-- POST (R303). -/
def execPost (f : BitVec 8) (s : State) : Host.Outcome State Fault Refusal :=
  s.cmdStep f (fun c => c.opc == 2) .bank (fun s f c =>
    let o := s.dquOp f c c.bop c.sub c.cnum c.gen c.a c.b
    if postBad c then s.refuseOp o { result := Res.badOp } else s.submit o)

/-- The payload of a REDUCE_FROM_HOST lies in host memory. -/
def Cmd.hostMem (c : Cmd) : Bool := (c.at 0x28 1).testBit 0

/-- REDUCE_FROM_HOST (R290, R303, R307). -/
def execReduceFromHost (f : BitVec 8) (s : State) : Host.Outcome State Fault Refusal :=
  s.cmdStep f (fun c => c.opc == 3) .payload (fun s f c =>
    let a := c.at 0x20 8
    if f ≠ 0 ∧ !c.hostMem ∧ !s.inWindow (s.fPart f) a 64 then s.refuse f c Fc.rights
    else s.memRd (.payload f) a 64 (if c.hostMem then some f else none))

/-- PAYLOAD_READ_DONE (R307): the oldest payload read of f. -/
def execPayloadReadDone (f : BitVec 8) (data : Payload) (resp : BitVec 2) (s : State) : Host.Outcome State Fault Refusal :=
  let f := f.toNat
  match (s.fn f).flight.find? (fun i => i.phase == .payload) with
  | none => .next s
  | some i =>
    let c := i.cmd
    let s := s.memGot (.payload f)
    if badResp resp then .next ((s.refuse f c Fc.busFault).sysError (c.at 0x20 8) c.hostMem false resp).settle
    else .next ((s.setPhase f c .bank).submit (s.dquOp f c Op.reduceInto 0 c.cnum c.gen c.a 0 data)).settle

/-- Poll for a WAIT. -/
def State.waitPoll (s : State) (f : Nat) (w : WaitEnt) : State :=
  s.submit (s.dquOp f w.cmd Op.poll 0 w.cmd.cnum w.cmd.gen 0 0)

/-- WAIT (R306): it takes a wait entry, if its quota has one, and polls. -/
def execWait (f : BitVec 8) (s : State) : Host.Outcome State Fault Refusal :=
  s.cmdStep f (fun c => c.opc == 4) .bank (fun s f c =>
    if s.fld (R.pfmFwait f) 10 0 ≤ (s.fn f).waits.length then s.refuse f c Fc.poolExhausted
    else
      let w : WaitEnt := { cmd := c, left := c.to, last := c.to == 0, polls := 1 }
      let s := s.modFn f (fun x => { x with
        flight := x.flight.filter (fun i => i.cmd != c), waits := x.waits ++ [w] })
      s.waitPoll f w)

/-- The polls of a boundary (R306): at a grid tick boundary the last one of some WAITs. -/
def State.waitPolls (s : State) (tick : Bool) : State :=
  let due := s.fns.flatMap (fun e => (e.2.waits.filter (fun w => !w.last)).map (fun w => (e.1, w)))
  due.foldl (fun s d =>
    let w := d.2
    let n := if tick then w.left - 1 else w.left
    let w' := { w with left := n, last := tick && n == 0, polls := w.polls + 1 }
    let s := s.modFn d.1 (fun x => { x with waits := x.waits.map (fun v => if v = w then w' else v) })
    s.waitPoll d.1 w') s

/-- The WAITs of p's functions end ABORTED (R306). -/
def State.abortWaits (s : State) (p : Nat) : State :=
  let due := s.fns.flatMap (fun e => if e.1 != 0 && s.fPart e.1 == p then e.2.waits.map (fun w => (e.1, w)) else [])
  due.foldl (fun s d => s.complete d.1 d.2.cmd { cstat := 3 }) s

/-- An operation on a well as the DQU issues it first. -/
def State.wellCmd (s : State) (f : Nat) (c : Cmd) (opc : Nat) (a b : W64) : State := s.submit (s.dquWell f c opc a b)

/-- SEM_READ (R303). -/
def execSemRead (f : BitVec 8) (s : State) : Host.Outcome State Fault Refusal :=
  s.cmdStep f (fun c => c.opc == 5 && c.sub == 0) .bank (fun s f c => s.wellCmd f c Op.read 0 0)

/-- SEM_ADD_COMMAND (R303). -/
def execSemAddCommand (f : BitVec 8) (s : State) : Host.Outcome State Fault Refusal :=
  s.cmdStep f (fun c => c.opc == 5 && c.sub == 1) .bank (fun s f c =>
    s.wellCmd f c Op.semAdd (BitVec.ofNat 64 (c.at 0x18 4)) 0)

/-- LOCK_CAS (R305). -/
def execLockCas (f : BitVec 8) (s : State) : Host.Outcome State Fault Refusal :=
  s.cmdStep f (fun c => c.opc == 6 && c.sub == 0) .bank (fun s f c => s.wellCmd f c Op.cas c.a c.b)

/-- LOCK_SWAP (R305). -/
def execLockSwap (f : BitVec 8) (s : State) : Host.Outcome State Fault Refusal :=
  s.cmdStep f (fun c => c.opc == 6 && c.sub == 1) .bank (fun s f c => s.wellCmd f c Op.swap c.a 0)

/-- CLAIM (R305): its READ. -/
def execClaim (f : BitVec 8) (s : State) : Host.Outcome State Fault Refusal :=
  s.cmdStep f (fun c => c.opc == 6 && c.sub == 2) .lockRead (fun s f c => s.wellCmd f c Op.read 0 0)

/-- LOCK_RELEASE (R305): its READ. -/
def execLockRelease (f : BitVec 8) (s : State) : Host.Outcome State Fault Refusal :=
  s.cmdStep f (fun c => c.opc == 6 && c.sub == 3) .lockRead (fun s f c => s.wellCmd f c Op.read 0 0)

/-- CLRAB (R305): its READ. -/
def execClrab (f : BitVec 8) (s : State) : Host.Outcome State Fault Refusal :=
  s.cmdStep f (fun c => c.opc == 6 && c.sub == 4) .lockRead (fun s f c => s.wellCmd f c Op.read 0 0)

/-- FORCE (R231, R305). -/
def execForce (f : BitVec 8) (s : State) : Host.Outcome State Fault Refusal :=
  s.cmdStep f (fun c => c.opc == 6 && c.sub == 5) .bank (fun s f c => s.wellCmd f c opForce c.a 0)

/-- SCHED_LOAD (R106, R307): one per partition at a time. -/
def execSchedLoad (f : BitVec 8) (s : State) : Host.Outcome State Fault Refusal :=
  s.cmdStep f (fun c => c.opc == 7 && (s.prt (s.cmdPart f.toNat c)).load.isNone) .load (fun s f c =>
    if !s.fnCtl f then s.refuse f c Fc.rights
    else s.loadStart (s.cmdPart f c) f c.cidx (c.at 0x18 8) (c.at 0x20 6))

/-- SNAPSHOT (R275, R307). -/
def execSnapshot (f : BitVec 8) (s : State) : Host.Outcome State Fault Refusal :=
  s.cmdStep f (fun c => c.opc == 9) .snap (fun s f c =>
    let p := s.cmdPart f c
    if !s.fnCtl f then s.refuse f c Fc.rights
    else if s.pstate p ≠ 2 then s.refuse f c Fc.cfgLocked
    else s.modPrt p (fun x => { x with snapReq := true, snapCmds := x.snapCmds ++ [(f, c.cidx)] }))

/-! ## Completions and interrupts (R308, R313 to R316) -/

/-- COMPLETION_WRITE_DONE (R308, R314, R315): the oldest completion of f. -/
def execCompletionWriteDone (f : BitVec 8) (resp : BitVec 2) (s : State) : Host.Outcome State Fault Refusal :=
  let f := f.toNat
  match (s.fn f).cpls with
  | [] => .next s
  | c :: t =>
    let a := s.pair (R.dqCplBase f) + 32 * ((s.fn f).cplProd.toNat % 2 ^ s.fld (R.dqRingSize f) 20 16)
    let s := (s.memAck (.completion f)).modFn f (fun x => { x with cpls := t })
    if badResp resp then .next ((s.fnError f Fc.busFault a).sysError a true true resp)
    else
      let s := s.modFn f (fun x => { x with cplProd := x.cplProd + 1 })
      .next (if c.irq then s.irqEvent f c.vec else s)

/-- HOLDOFF_EXPIRY (R314). -/
def execHoldoffExpiry (f : BitVec 8) (v : BitVec 5) (s : State) : Host.Outcome State Fault Refusal :=
  let f := f.toNat
  let v := v.toNat
  if !s.holding f v then .next s
  else
    let wait := (s.fn f).waitVec.contains v
    let s := s.modFn f (fun x => { x with held := x.held.erase v, waitVec := x.waitVec.erase v })
    .next (if wait then s.irqEvent f v else s)

/-- The vectors that f has (R319). -/
def State.vecMask (s : State) (f : Nat) : Nat := 2 ^ s.fNvec f - 1

/-- A write of DQ_VMASK (R314): each pending vector that is unmasked by it raises its event. -/
def State.vmaskSet (s : State) (f v : Nat) : State :=
  let m := s.vecMask f
  let old := s.reg (R.dqVmask f)
  let s := s.setReg (R.dqVmask f) ((old &&& (2 ^ 32 - 1 - m)) ||| (v &&& m))
  (List.range (s.fNvec f)).foldl (fun s i =>
    if old.testBit i && !v.testBit i && s.flag (R.dqVpend f) i then (s.setFlag (R.dqVpend f) i false).irqEvent f i else s) s

/-- No command of f is in flight (R316). -/
def Fn.idle (x : Fn) : Bool :=
  x.cmds.isEmpty && x.flight.isEmpty && x.waits.isEmpty && x.cmdReads.isEmpty && x.cpls.isEmpty

/-- A write of 1 to DQ_CTRL.EN (R316). -/
def State.queueOn (s : State) (f : Nat) : State :=
  if !(s.fn f).idle then s
  else
    let s := (s.setFlag (R.dqCtrl f) 0 true).modFn f (fun x => { x with
      cmdProd := 0, cmdCons := 0, cplProd := 0, cplCons := 0, stalled := false })
    (s.setFld (R.pfmFstate f) 1 0 1).setFld (R.pfmFstate f) 15 8 0

/-- A write of 0 to DQ_CTRL.EN (R316). -/
def State.queueOff (s : State) (f : Nat) : State :=
  let s := (s.setFlag (R.dqCtrl f) 0 false).setFld (R.pfmFstate f) 1 0 0
  s.modFn f (fun x => { x.stale with cmds := [], waits := [] })

/-- A function reset (R415): its setup page goes to its reset values. -/
def State.fnReset (s : State) (f : Nat) : State :=
  let s := s.queueOff f
  let base := 0x100000 + 0x1000 * f
  let s := { s with regs := tclear s.regs base (base + 0x1000) }
  let s := s.modFn f (fun x => { x with held := [], waitVec := [], cmdProd := 0, cmdCons := 0, cplProd := 0, cplCons := 0 })
  { s with holds := tset {} s.holds (2 * f) {} }.raiseFree [0x1000 + f]

/-- FAULT_ENTRY_WRITE_DONE (R311, R313, R323). -/
def execFaultEntryWriteDone (p : BitVec 5) (resp : BitVec 2) (s : State) : Host.Outcome State Fault Refusal :=
  let p := p.toNat
  match (s.prt p).faultQ with
  | [] => .next s
  | e :: t =>
    let prod := s.fld (R.pfmPfltProd p) 15 0
    let a := s.pair (R.pfmPfltAddr p) + 32 * (prod % 2 ^ s.fld (R.pfmPfltCfg p) 4 0)
    let s := (s.memAck (.fault p)).modPrt p (fun x => { x with faultQ := t })
    let s := if badResp resp then (s.bump (R.pfmPfltDrop p) 1).sysError a false true resp
      else
        let s := s.setFld (R.pfmPfltProd p) 15 0 (prod + 1)
        if e.2 then s.irqEvent (s.fld (R.pfmPfltCfg p) 23 16) (s.fld (R.pfmPfltCfg p) 12 8) else s
    .next (s.faultIssue p)

end Sys2Proof.Machine
end

