-- ==== Sys2Proof/Machine/Part.lean ====
section
/-! DEFINITION. The partition state machine (R291 to R297) and the configuration of functions (R318). -/

namespace Sys2Proof.Machine

/-! ## The checks of RESTARTING (R43, R292) -/

/-- The fabric barrier latency of R266 over p's tree, in femtoseconds. -/
def barrierLatency (p : Nat) : Nat :=
  let h := Config.treeHops p
  2 * h * 62000000 + 2 * (h - 1) * 9000000 + Config.treeRsHops p * 100000000 + 53 * Config.kclkPeriod
    + 4 * Config.tclkPeriod

/-- D_skew (R36), in femtoseconds. -/
def skew : Nat := 8000000 + 2 * Config.kclkPeriod

/-- The least CLOSE of a partition on more than one die: the barrier latency and D_skew over the slot length, rounded up
(R43). A slot is TICK_LEN / N, in units of 1/256 ns. -/
def State.minClose (s : State) (p : Nat) : Nat :=
  let t := s.pair R.hgTickLen % 2 ^ 40 * 1000000
  ((barrierLatency p + skew) * 256 * s.nSlot + t - 1) / t

/-- The checks of R43. -/
def State.closeOk (s : State) (p : Nat) : Bool :=
  decide (s.closeReg p + s.tail p < s.nSlot ∧ s.stretchMax p < s.nSlot)
    && (!s.multiDie p || decide (max 1 (s.minClose p) ≤ s.closeReg p))

/-- A multi-die partition under STRETCH needs a tick-close channel (R292). -/
def State.closeChannelOk (s : State) (p : Nat) : Bool :=
  !s.multiDie p || !s.stretchPolicy p || (s.tcloseOf p).isSome

/-- The conditions that RESTARTING waits for (R292). -/
def State.startReady (s : State) (p : Nat) : Bool :=
  s.grid.running && !s.cst.initd.any (fun e => e.1 == p) && !(s.prt p).restoring && (!s.multiDie p || s.insync)

/-- PFM_PSTATE.WAITING (R292). -/
def State.waiting (s : State) (p : Nat) : Bool := s.pstate p == 1 && !s.startReady p

/-- The checks of R292: CFG_ERR and CHK_ERR show those that fail; whether all conditions hold is answered. -/
def State.startChecks (s : State) (p : Nat) : State × Bool :=
  let a := s.closeOk p
  let b := s.faultRingOk p && s.closeChannelOk p
  let w := s.startReady p
  let s := if a then s else s.setFlag (R.hgPovrCfg p) 30 true
  (if a && b then s else s.setFlag (R.pfmPstate p) 6 true, a && b && w)

/-! ## Commands (R291) -/

/-- CMD START. -/
def State.partStart (s : State) (p : Nat) : State :=
  if s.pstate p = 0 then ((s.setPstate p 1).startChecks p).1
  else s.setFlag (R.pfmPstate p) 3 true

/-- CMD QUIESCE. -/
def State.partQuiesce (s : State) (p : Nat) : State :=
  if s.pstate p = 2 then s.modPrt p (fun x => { x with quiesceReq := true })
  else s.setFlag (R.pfmPstate p) 3 true

/-- CMD ABORT. -/
def State.partAbort (s : State) (p : Nat) : State :=
  if s.pstate p = 1 then s.setPstate p 0
  else s.setFlag (R.pfmPstate p) 3 true

/-- A write of PFM_PCTRL. -/
def State.pctrl (s : State) (p cmd : Nat) : State :=
  if cmd = 1 then s.partStart p else if cmd = 2 then s.partQuiesce p else if cmd = 3 then s.partAbort p else s

/-! ## Entering RUN (R293) -/

/-- The tables of p as RUN begins with tick n (R293, step 2). -/
def State.startTables (s : State) (p n : Nat) : State :=
  let x := s.prt p
  match x.next with
  | some (_, sw) =>
    if sw ≤ n then s.switchTable p n else s.modPrt p (fun x => { x with tbl := x.tbl.map (fun t => (t.1, n)) })
  | none => s.modPrt p (fun x => { x with tbl := x.tbl.map (fun t => (t.1, n)) })

/-- p enters RUN at the grid tick boundary of tick n (R55, R293). -/
def State.enterRun (s : State) (p n : Nat) : State :=
  let s := (s.summaries p).setPstate p 2
  let s := if s.patOf p < n then s.setFlag (R.pfmPstate p) 4 true else s
  let s := ((s.setReg (R.hgPshift p) 0).setReg (R.hgPovrCnt p) 0).setReg (R.hgPstretchSum p) 0
  let s := s.setFld (R.culPepoch p) 15 0 s.epoch
  let s := (s.channelsOf p).foldl (fun s c => s.setFlag (R.culFchStat c) 31 false) s
  let s := s.modPrt p (fun x => { x with
    tick := BitVec.ofNat 48 n, slot := 0, begun := true, payback := 0, late := false, sent := false, lateDown := false,
    stretch := none, capped := false, alone := false, dl := [], dlNext := [], spans := [], cut := false, quiesceReq := false,
    staged := [], reads := x.reads.map (fun r => (noTick, r.2)), stTick := n, stIdx := 0, stSlot := 0, stErr := false })
  let s := (s.startTables p n).dumpTimeouts p n
  let s := { s with fns := tmap {} s.fns (fun f x => if f ≠ 0 ∧ s.fPart f = p then { x with stalled := false } else x) }
  s.slotBegin p true

/-- At a grid tick boundary, a partition in RESTARTING checks again and enters RUN if it may (R291, R292). -/
def State.restartStep (s : State) (p n : Nat) : State :=
  if s.pstate p ≠ 1 then s
  else
    let r := s.startChecks p
    if r.2 && decide (s.patOf p ≤ n) then r.1.enterRun p n else r.1

/-! ## Entering STOPPED (R295, R296) -/

/-- Armed dumps of p end ABORTED (R372). -/
def State.abortDumps (s : State) (p : Nat) : State :=
  (List.range 16).foldl (fun s d => match tget none s.obs.dumps d with
    | some x => if x.armed && x.part == p then s.dumpEnd d { cstat := 3 } else s
    | none => s) s

/-- p enters STOPPED: its tick ends, its fabric channels freeze, WAITs and armed dumps end. -/
def State.enterStopped (s : State) (p : Nat) : State :=
  let s := (s.summaries p).setPstate p 0
  let s := s.modPrt p (fun x => { x with begun := false, quiesceReq := false })
  ((s.freezeAll p).abortWaits p).abortDumps p

/-- A delay store holds a token of p's taps. -/
def State.delays (s : State) (p : Nat) : Bool := s.pipe.leafs.any (fun e => e.2.store.any (fun d => s.tapPart d.tap == some p))

/-- A Pump channel is idle in the sense of R295 (R344). -/
def State.chanIdle (s : State) (c : Nat) : Bool :=
  (s.chan c).quiet && (s.cstate c == 0 || s.cstate c == 1 || s.cstate c == 4 || s.cstate c == 5)

/-- p is drained (R295). -/
def State.drained (s : State) (p : Nat) : Bool :=
  !s.pipe.ctxs.any (fun c => c.note.part == p) && !s.pipe.notices.any (fun n => n.part == p)
    && !s.pipe.und.any (fun u => s.ctxPart u.rid == some p) && !s.delays p
    && s.fns.all (fun e => e.1 == 0 || s.fPart e.1 != p || (e.2.flight.isEmpty && e.2.cmds.isEmpty))
    && (s.prt p).snap.isNone
    && (List.range s.nChan).all (fun c => s.chanPart c != some p || s.chanIdle c)

/-- DRAINED (R295). -/
def execDrained (p : BitVec 5) (s : State) : Host.Outcome State Fault Refusal :=
  let p := p.toNat
  if s.pstate p = 3 ∧ s.drained p then .next (s.enterStopped p) else .next s

/-- Tokens of p in delay stores are discarded (R296). -/
def State.dropDelays (s : State) (p : Nat) : State :=
  { s with pipe := { s.pipe with leafs := tmap {} s.pipe.leafs (fun _ x =>
    { x with store := x.store.filter (fun d => s.tapPart d.tap != some p) }) } }

/-- QUIESCE_TIMEOUT (R296). -/
def execQuiesceTimeout (p : BitVec 5) (s : State) : Host.Outcome State Fault Refusal :=
  let p := p.toNat
  let lim := s.fld (R.pfmPqto p) 15 0
  if s.pstate p = 3 ∧ lim ≠ 0 ∧ (s.prt p).qTick + lim ≤ s.grid.tick then
    let s := (s.pipe.ctxs.filter (fun c => c.note.part == p)).foldl (fun s c => s.lateRelease c) s
    .next ((s.setFlag (R.pfmPstate p) 5 true).dropDelays p |>.enterStopped p)
  else .next s

/-! ## Functions (R318) -/

/-- More wait entries or fast-poll places are given out than the die has. -/
def State.poolOut (s : State) : Bool :=
  let on := (List.range s.nFunc).filter s.fEn
  decide (1024 < (on.map (fun f => s.fld (R.pfmFwait f) 10 0)).sum)
    || decide (32 < on.countP (fun f => s.flag (R.pfmFcfg f) 29))

/-- A write of PFM_FCFG or PFM_FWAIT of f that would make `t`: refused with POOL, or taken. -/
def State.poolJudge (s t : State) (f : Nat) : State :=
  if t.fEn f && t.poolOut then s.setFlag (R.pfmFstate f) 2 true
  else if s.fEn f && !t.fEn f then t.fnReset f
  else t

/-- The word that a write of PFM_FCFG leaves: PART, HOSTPORT and NVEC only while EN is 0, and no reserved encoding
(R13, R318). -/
def State.fcfgWord (s : State) (f v : Nat) : Nat :=
  let old := s.reg (R.pfmFcfg f)
  let keep := s.fWas f
  let part := if keep ∨ s.nPart ≤ bits v 20 16 then bits old 20 16 else bits v 20 16
  let nvec := if keep ∨ bits v 5 0 = 0 ∨ 32 < bits v 5 0 then bits old 5 0 else bits v 5 0
  bits v 31 29 * 2 ^ 29 + (if keep then bits old 25 24 else bits v 25 24) * 2 ^ 24 + part * 2 ^ 16 + nvec

/-- A write of PFM_FCFG. -/
def State.fcfgWrite (s : State) (f v : Nat) : State := s.poolJudge (s.setReg (R.pfmFcfg f) (s.fcfgWord f v)) f

/-- A write of PFM_FWAIT: an enabled function may not have more entries than the die (R318). -/
def State.fwaitWrite (s : State) (f v : Nat) : State := s.poolJudge (s.setReg (R.pfmFwait f) (bits v 10 0)) f

end Sys2Proof.Machine
end

