-- ==== Sys2Proof/Machine/Obs.lean ====
section
/-! DEFINITION. Observation and debug: settings of sumps (R349) and counters (R352, R376), samples (R353) and the records of
a grid tick (R354), tap clock windows (R359), halts (R360 to R363), the global STOP (R364 to R368), and tensor dumps (R369
to R372). -/

namespace Sys2Proof.Machine

/-! ## Settings (R349, R352, R376) -/

/-- Buffer units of a sump, as a half-open range. -/
def State.sumpUnits (s : State) (i : Nat) : Nat × Nat :=
  if i = 0 then (0, 8) else (s.fld (R.obsScfg i) 5 0, s.fld (R.obsScfg i) 5 0 + s.fld (R.obsScfg i) 17 12)

/-- The ring of an enabled sump that a partition owns lies in that partition's window. -/
def State.sumpRingOk (s : State) (i : Nat) : Bool :=
  let w := s.reg (R.obsScfg i)
  let n := s.fld (R.obsSrsize i) 4 0
  !w.testBit 31 || !w.testBit 28 || n == 0
    || s.inWindow (bits w 27 23) (s.pair (R.obsSring i)) (2 ^ n * recBytes (bits w 30 29))

/-- A write of OBS_SCFG of sump i that would make `t` (R349). -/
def State.sumpJudge (s t : State) (i : Nat) : State :=
  let u := t.sumpUnits i
  let dup := (List.range 16).any (fun j => j != i && rangesMeet u (t.sumpUnits j))
  if dup || decide (u.1 < u.2 ∧ 64 < u.2) || !t.sumpRingOk i then s.setFlag R.obsStatus 3 true else t

/-- An event code of R352. -/
def evtDefined (e : Nat) : Bool :=
  decide (e ≤ 4) || (decide (0x08 ≤ e) && decide (e ≤ 0x12)) || (decide (0x18 ≤ e) && decide (e ≤ 0x1D))
    || (decide (0x20 ≤ e) && decide (e ≤ 0x24)) || (decide (0x28 ≤ e) && decide (e ≤ 0x2A))
    || (decide (0x30 ≤ e) && decide (e ≤ 0x33))

/-- The word that a write of a select register leaves: a reserved event keeps the field, and a partition's set has no event
of the die alone (R13, R352). -/
def State.selWord (s : State) (glob : Bool) (old v : Nat) : Nat :=
  let e := bits v 7 0
  let e := if evtDefined e ∧ (glob ∨ e < 0x30) then e else bits old 7 0
  let p := if bits v 28 24 < s.nPart then bits v 28 24 else bits old 28 24
  (if glob then bits v 30 30 * 2 ^ 30 + p * 2 ^ 24 else 0) + bits v 11 8 * 2 ^ 8 + e

/-- A write of a select register, with CLR (R376). `k` is the counter's key. -/
def State.selWrite (s : State) (glob : Bool) (off k v : Nat) : State :=
  let s := s.setReg off (s.selWord glob (s.reg off) v)
  if v.testBit 31 then { s with obs := { s.obs with cnt := tset 0 s.obs.cnt k 0 } } else s

/-! ## Samples (R353, R362) -/

/-- The sample sump of a set: partition p, or the global set. -/
def State.sampleSump (s : State) (p : Option Nat) : Option Nat :=
  (List.range 16).find? (fun i =>
    let w := s.reg (R.obsScfg i)
    w.testBit 31 && bits w 30 29 == 1 && (match p with | some p => w.testBit 28 && bits w 27 23 == p | none => !w.testBit 28))

/-- The key of counter 0 of a set, its number in a sample, and its records. -/
def setKey (p : Option Nat) : Nat := match p with | some p => 0x1000 + 64 * p | none => 0
def setNum (p : Option Nat) : Nat := p.getD 0xFF
def setRecs (p : Option Nat) : Nat := if p.isSome then 8 else 32

/-- A set is in the smear interval for its sample. -/
def State.setSmear (s : State) (p : Option Nat) : Bool :=
  match p with
  | some p => s.smeared p
  | none => s.obs.smearTick || s.obs.smear != 0

/-- Sample record g of a set. -/
def State.sampleWord (s : State) (p : Option Nat) (g : Nat) : Nat :=
  (List.range 8).foldl (fun a i => a + tget 0 s.obs.cnt (setKey p + 8 * g + i) * 2 ^ (128 + 48 * i)) 0
    + s.now % 2 ^ 64 * 2 ^ 64 + s.tickno * 2 ^ 16 + setNum p * 2 ^ 8 + g * 2 ^ 3 + bit (s.setSmear p) * 2

/-- The sample of one set. -/
def State.sampleSet (s : State) (p : Option Nat) : State :=
  match s.sampleSump p with
  | some i => (List.range (setRecs p)).foldl (fun s g => s.sumpRecord i (s.sampleWord p g)) s
  | none => s

/-- A grid tick boundary is a sample point, or not (R353). -/
def State.samplePoint (s : State) : State :=
  let n := s.fld R.obsSample 15 0
  if n = 0 ∨ s.tickno % n ≠ 0 then s
  else
    let s := ((List.range s.nPart).map some).foldl State.sampleSet s
    let s := s.sampleSet none
    { s with obs := { s.obs with smearTick := s.obs.smear != 0 } }

/-! ## Records of a grid tick (R354) -/

/-- CORR and RETRY records of the tick that ended. -/
def State.tickRecords (s : State) : State :=
  let c := s.obs.corr
  let r := s.obs.retry
  let s := { s with obs := { s.obs with corr := [], retry := [] } }
  let s := c.foldl (fun s e =>
    s.ao { type := 0x02, unit := if e.1 < 64 then 3 else 9, aux := if e.1 < 64 then e.1 else e.1 - 64, info := e.2 }) s
  r.foldl (fun s e => s.ao { type := 0x06, unit := 9, aux := e.1, info := e.2 }) s

/-- The UTIL record: its four fractions are free values (assumption 4). -/
def State.utilRecord (s : State) : State :=
  if s.tickno % s.fld R.obsAoCfg 15 0 = 0 then s.nextFree.ao { type := 0x0C, unit := 11, info := s.free } else s

/-! ## Tap clocks (R359) -/

/-- Filter f's tap range meets region r. -/
def State.filterRegion (s : State) (f r : Nat) : Bool :=
  let a := s.reg (R.obsTftap f)
  s.flag (R.obsTfcfg f) 31 && (List.range s.nTap).any (fun t => s.regionOf (t / 4) == r && (match s.logical t with
    | some l => decide (bits a 11 0 ≤ l ∧ l ≤ bits a 27 16)
    | none => false))

/-- The sumps that learn of a restart of region r. -/
def State.restartSumps (s : State) (r : Nat) : List Nat :=
  (((List.range 8).filter (fun f => s.filterRegion f r)).filterMap (fun f =>
    let i := s.fld (R.obsTfcfg f) 30 27
    if s.traceSumpOk i (s.fld (R.obsTfcfg f) 26 22) then some i else none)).eraseDups

/-- Region r restarts. -/
def State.restart (s : State) (r : Nat) : State :=
  let s := s.ao { type := 0x10, unit := 11, aux := r, info := tget 0 s.obs.stopTb r }
  (s.restartSumps r).foldl (fun s i => s.sumpRecord i (s.traceWord { evt := 0x12, part := 0, arg := r })) s

/-- The state that a window's count gives. -/
def tclkState (nom n : Nat) : Nat := if nom = 0 ∨ 15 * nom ≤ 16 * n then 0 else if 0 < n then 1 else 2

/-- TCLK_WINDOW (R359). -/
def execTclkWindow (r : BitVec 3) (count : BitVec 16) (s : State) : Host.Outcome State Fault Refusal :=
  let r := r.toNat
  if !s.up then .next s
  else
    let old := s.fld (R.obsTclk r) 31 30
    let new := tclkState (s.fld (R.obsTclk r) 15 0) count.toNat
    let s := s.setFld (R.obsTclk r) 31 30 new
    let s := if new = 2 ∧ old ≠ 2 then { s with obs := { s.obs with stopTb := tset 0 s.obs.stopTb r s.now } } else s
    .next (if old = 2 ∧ new ≠ 2 then s.restart r else s)

/-! ## Halts (R360 to R363) -/

/-- The payload of a HALT or RESUME beat (R361). -/
def haltPay (op : Nat) (glob : Bool) (chip id mask e : Nat) : Nat :=
  op + bit glob * 2 ^ 4 + chip % 4096 * 2 ^ 16 + id % 65536 * 2 ^ 28 + mask % 2 ^ 32 * 2 ^ 44 + e % 2 ^ 48 * 2 ^ 76

/-- Partitions of the build in a mask. -/
def State.maskParts (s : State) (m : Nat) : List Nat := (List.range s.nPart).filter (fun p => m.testBit p)

/-- A HALT reaches the Headgate for partition p (R361, R362). -/
def State.haltOne (s : State) (p : Nat) : State :=
  if s.pstate p = 2 ∧ !(s.prt p).halted then
    let s := s.modPrt p (fun x => { x with haltPend := true })
    { s with obs := { s.obs with smear := s.obs.smear ||| BitVec.ofNat 32 (2 ^ p), smearTick := true } }
  else s

/-- A RESUME reaches the Headgate for partition p (R363). -/
def State.resumeOne (s : State) (p : Nat) : State :=
  if (s.prt p).halted then s.modPrt p (fun x => { x with resumePend := true }) else s

/-- A received beat concerns partition p (R361). -/
def State.reached (s : State) (p chip : Nat) : Bool := s.multiDie p && s.spans p (s.trayOf chip)

/-- The seen table of 16 entries holds the pair; the oldest makes way. -/
def State.haltSeen (s : State) (chip id : Nat) : State :=
  let l := s.obs.seen ++ [(chip, id)]
  { s with obs := { s.obs with seen := l.drop (l.length - 16) } }

/-- The next halt ID. -/
def State.haltIdNext (s : State) : State := { s with obs := { s.obs with haltId := s.obs.haltId + 1 } }

/-- The HALT record of a halt or RESUME formed or received (R354). -/
def State.haltRecord (s : State) (op id chip : Nat) : State :=
  s.ao { type := 0x11, unit := 11, aux := op, info := id % 65536 + chip % 4096 * 2 ^ 16 }

/-- This die forms a HALT. -/
def State.raiseHalt (s : State) (mask : Nat) : State :=
  let id := s.obs.haltId.toNat
  let s := ((s.haltIdNext.haltSeen s.chip id).haltRecord 8 id s.chip).flood none 1 0 (haltPay 8 false s.chip id mask 0)
  (s.maskParts mask).foldl State.haltOne s

/-- E of a RESUME, STOP or START formed now. -/
def State.leadTick (s : State) : Nat := (s.tickno + s.fld R.culMcfg 3 0) % 2 ^ 48

/-- A RESUME with effective tick E for the partitions `m` of this die: it waits for boundary E - 1, or is late. -/
def State.resumeAt (s : State) (e m : Nat) : State :=
  if s.tickno + 1 < e then { s with obs := { s.obs with resumes := s.obs.resumes ++ [(e, BitVec.ofNat 32 m)] } }
  else (s.maskParts m).foldl State.resumeOne (s.setFlag R.obsStatus 5 true)

/-- This die forms a RESUME. -/
def State.raiseResume (s : State) (mask : Nat) : State :=
  let id := s.obs.haltId.toNat
  let e := s.leadTick
  let s := ((s.haltIdNext.haltSeen s.chip id).haltRecord 9 id s.chip).flood none 1 0 (haltPay 9 false s.chip id mask e)
  s.resumeAt e mask

/-- RESUMEs whose boundary E - 1 is this one reach the Headgate (R363). -/
def State.resumesDue (s : State) : State :=
  let due := s.obs.resumes.filter (fun r => decide (r.1 ≤ s.tickno + 1))
  let s := { s with obs := { s.obs with resumes := s.obs.resumes.filter (fun r => decide (s.tickno + 1 < r.1)) } }
  due.foldl (fun s r => (s.maskParts r.2.toNat).foldl State.resumeOne s) s

/-- TAP_BREAK (R360): the tap is a physical one; in K3 the edge is captured and wakes the die (R410). -/
def execTapBreak (tap : BitVec 12) (s : State) : Host.Outcome State Fault Refusal :=
  match s.tapPart tap.toNat with
  | some p =>
    let m := s.reg (R.obsPbrk p)
    if !s.up || m == 0 then .next s
    else if s.rst.kst = 3 then .next { s with held := s.held ++ [.tapBreak tap], rst := { s.rst with waking := true } }
    else .next (s.raiseHalt m).settle
  | none => .next s

/-! ## The global STOP (R364 to R368) -/

/-- Put an entry among those that wait, in the order of their ticks and behind those of its own tick. -/
def insertTick (x : Nat × Bool × Bool) : List (Nat × Bool × Bool) → List (Nat × Bool × Bool)
  | [] => [x]
  | y :: t => if x.1 < y.1 then x :: y :: t else y :: insertTick x t

/-- A STOP, or a START, with effective tick E is known to this die; one that is late takes effect at the next boundary. -/
def State.stopKnown (s : State) (e : Nat) (start : Bool) : State :=
  { s with stop := { s.stop with pend := insertTick (e, start, decide (e ≤ s.tickno)) s.stop.pend } }

/-- A STOP with effective tick E. -/
def State.stopAt (s : State) (e : Nat) : State := s.stopKnown e false

/-- A START with effective tick E. -/
def State.startAt (s : State) (e : Nat) : State := s.stopKnown e true

/-- This die raises a STOP. -/
def State.raiseStop (s : State) : State :=
  let id := s.obs.haltId.toNat
  ((s.haltIdNext.haltSeen s.chip id).flood none 1 0 (haltPay 8 true s.chip id 0 s.leadTick)).stopAt s.leadTick

/-- This die raises a START. -/
def State.raiseStart (s : State) : State :=
  let id := s.obs.haltId.toNat
  ((s.haltIdNext.haltSeen s.chip id).flood none 1 0 (haltPay 9 true s.chip id 0 s.leadTick)).startAt s.leadTick

/-- A write of OBS_HCMD (R360, R363, R364). -/
def State.hcmd (s : State) (cmd : Nat) : State :=
  if cmd = 1 then s.raiseHalt (s.reg R.obsHmask)
  else if cmd = 2 then s.raiseResume (s.reg R.obsHmask)
  else if cmd = 3 then s.raiseStop
  else if cmd = 4 then s.raiseStart
  else s

/-- A STOP record (R354). -/
def State.stopRecord (s : State) (aux e : Nat) : State := s.ao { type := 0x0E, unit := 11, aux := aux, info := e }

/-- The STOP record of a STOP or START that takes effect late, with LATE_STOP (R364). -/
def State.stopLate (s : State) (e : Nat) : State := (s.setFlag R.obsStatus 4 true).stopRecord 2 e

/-- A STOP takes effect, after step 3 of its boundary (R365). One that comes while another is in force is applied like it. -/
def State.stopEffect (s : State) (e : Nat) (late : Bool) : State :=
  let s := { s with stop := { s.stop with inForce := true, e := BitVec.ofNat 48 e, cut := false } }
  let s := if late then s.stopLate e else s.stopRecord 0 e
  ((List.range s.nPart).filter s.active).foldl (fun s p => (s.endBinds p).modPrt p (fun x => { x with cut := true })) s

/-- A START takes effect (R368): waiting frames go in the order formed, then the waiting releases and the retries. -/
def State.startEffect (s : State) (e : Nat) (late : Bool) : State :=
  let s := if late then s.stopLate e else s
  if !s.stop.inForce then s
  else
    let s := { s with stop := { s.stop with inForce := false, cut := false, left := some s.grid.tick } }
    let s := s.upPorts.foldl (fun s k => (s.sendFormed k).drainPort k) s
    let free := (List.range s.nPart).filter (fun p => !(s.prt p).halted)
    let s := free.foldl State.releaseWaiting s
    free.foldl State.reissue s

/-- A STOP or START whose boundary has come takes effect. -/
def State.stopOne (s : State) (x : Nat × Bool × Bool) : State :=
  if x.2.1 then s.startEffect x.1 x.2.2 else s.stopEffect x.1 x.2.2

/-- The STOPs and STARTs of this boundary take effect, in the order of their ticks. -/
def State.stopBoundary (s : State) : State :=
  let due := s.stop.pend.filter (fun x => decide (x.1 ≤ s.tickno))
  due.foldl State.stopOne
    { s with stop := { s.stop with pend := s.stop.pend.filter (fun x => !decide (x.1 ≤ s.tickno)) } }

/-- A beat is the TICK_MARK of the STOP's E. -/
def State.isCutMark (s : State) (b : Beat) : Bool :=
  b.btype == 1 && b.pay % 16 == 0xA && b.pay / 2 ^ 16 % 65536 == s.stop.e.toNat % 65536

/-- The TICK_MARK of E of port k does not wait any longer, and it stands at the head of the port's replay buffer or is
acknowledged (R367). -/
def State.markAcked (s : State) (k : Nat) : Bool :=
  !(s.port k).queue.any (fun f => f.any s.isCutMark)
    && (match (s.port k).replay.findIdx? (fun f => s.isCutMark (flitBeat f.2)) with
        | some i => i == 0
        | none => true)

/-- Port k has received the TICK_MARK of E, or a later one. -/
def State.markCame (s : State) (k : Nat) : Bool :=
  match (s.port k).mark with
  | some m => decide ((m.toNat + 65536 - s.stop.e.toNat % 65536) % 65536 < 32768)
  | none => false

/-- No report of an undelivered target waits in a leaf: a release that was issued has been served at each other target in the step
that issued it. -/
def State.reportsIn (s : State) : Bool :=
  s.pipe.leafs.all (fun e => e.2.lost.isEmpty && e.2.reports.all (fun r => r.ack))

/-- STOP_CUT (R367). -/
def execStopCut (s : State) : Host.Outcome State Fault Refusal :=
  if s.stop.inForce && !s.stop.cut && s.upPorts.all (fun k => s.markCame k && s.markAcked k) && s.reportsIn then
    .next (({ s with stop := { s.stop with cut := true } } : State).stopRecord 1 s.stop.e.toNat)
  else .next s

/-! ## Beats of other dies (R361, R363, R364) -/

/-- A HALT or RESUME beat goes on, if its pair is new. -/
def State.haltForward (s : State) (k : Nat) (b : Beat) : State :=
  let chip := bits b.pay 27 16
  let id := bits b.pay 43 28
  if s.obs.seen.contains (chip, id) then s else (s.haltSeen chip id).flood (some k) 1 0 b.pay

/-- HALT_TOKEN (R361, R364). -/
def execHaltToken (port : BitVec 3) (s : State) : Host.Outcome State Fault Refusal :=
  s.onHop port (fun b => b.btype == 1 && b.pay % 16 == 8) (fun s b =>
    let chip := bits b.pay 27 16
    let s := s.haltForward port.toNat b
    if b.pay.testBit 4 then s.stopAt (bits b.pay 123 76)
    else ((s.maskParts (bits b.pay 75 44)).filter (fun p => s.reached p chip)).foldl State.haltOne
      (s.haltRecord 8 (bits b.pay 43 28) chip))

/-- RESUME_TOKEN (R363, R364). -/
def execResumeToken (port : BitVec 3) (s : State) : Host.Outcome State Fault Refusal :=
  s.onHop port (fun b => b.btype == 1 && b.pay % 16 == 9) (fun s b =>
    let chip := bits b.pay 27 16
    let s := s.haltForward port.toNat b
    if b.pay.testBit 4 then s.startAt (bits b.pay 123 76)
    else
      let m := ((s.maskParts (bits b.pay 75 44)).filter (fun p => s.reached p chip)).foldl (fun a p => a + 2 ^ p) 0
      (s.haltRecord 9 (bits b.pay 43 28) chip).resumeAt (bits b.pay 123 76) m)

/-- HALT_SEEN_ENTRY_RETIRE (R361). -/
def execHaltSeenEntryRetire (chip : BitVec 12) (id : BitVec 16) (s : State) : Host.Outcome State Fault Refusal :=
  .next { s with obs := { s.obs with seen := s.obs.seen.erase (chip.toNat, id.toNat) } }

/-! ## Tensor dumps (R369 to R372) -/

def Dump.d1 (d : Dump) : Nat := d.f 0x24 2
def Dump.d2 (d : Dump) : Nat := d.f 0x26 2
def Dump.munit (d : Dump) : Nat := d.f 0x36 2

/-- Bytes from BASE to the last byte that the runs cover. -/
def Dump.extent (d : Dump) : Nat := (d.d2 - 1) * d.f 0x2C 4 + (d.d1 - 1) * d.f 0x28 4 + d.d0

/-- A field is out of range, the tensor is too large, or MUNIT is another partition's (R370). -/
def State.dumpFormat (s : State) (d : Dump) : Bool :=
  !(decide (1 ≤ d.d0 ∧ d.d0 ≤ 16777216 ∧ 1 ≤ d.d1 ∧ 1 ≤ d.d2 ∧ d.total ≤ 2 ^ 28 ∧ d.munit < s.nGood))
    || (match s.physical d.munit with
        | some t => (match s.tapPart t with | some q => q != d.part | none => false)
        | none => true)

/-- The bytes that the dump names lie in the window of its function's partition (R290, R370). -/
def State.dumpInside (s : State) (d : Dump) : Bool :=
  d.func == 0 || (s.inWindow d.part (d.f 0x10 8) d.extent && (d.host.isSome || s.inWindow d.part d.dst (64 + d.total)))

/-- DUMP_TENSOR (R303, R370). -/
def execDumpTensor (f : BitVec 8) (s : State) : Host.Outcome State Fault Refusal :=
  s.cmdStep f (fun c => c.opc == 8) .bank (fun s f c =>
    let x : Dump := { func := f, cidx := c.cidx, part := s.cmdPart f c, cmd := c.data, order := s.obs.dumpOrder }
    if !s.fnCtl f then s.refuse f c Fc.rights
    else if s.dumpFormat x then s.refuse f c Fc.descFormat
    else if !s.dumpInside x then s.refuse f c Fc.rights
    else match (List.range 16).find? (fun d => (tget none s.obs.dumps d).isNone) with
      | none => s.refuse f c Fc.poolExhausted
      | some d =>
        let s := s.setPhase f c (.dump d)
        { s with obs := { s.obs with dumps := tset none s.obs.dumps d (some x), dumpOrder := s.obs.dumpOrder + 1 } })

/-- DUMP_DONE (R372): every write of the copy is answered. -/
def execDumpDone (d : BitVec 4) (s : State) : Host.Outcome State Fault Refusal :=
  match tget none s.obs.dumps d.toNat with
  | some x =>
    if !x.armed && x.read == x.total && x.answered == x.total + 64 then .next (s.dumpEnd d.toNat { data := x.tick }).settle
    else .next s
  | none => .next s

end Sys2Proof.Machine
end

