-- ==== Sys2Proof/Machine/Snapshot.lean ====
section
/-! DEFINITION. Snapshots of a partition: when one begins (R275), the background copier (R276), the end (R277), and RESTORE
(R278). -/

namespace Sys2Proof.Machine

/-! ## The area (R276, R277) -/

/-- The number of block keys of the words lo to hi - 1. -/
def nBlocks (lo hi : Nat) : Nat := if lo < hi then (((hi - 1) / 64 - lo / 64) / 4 + 1) * 64 else 0

/-- The block keys of p, as ranges. -/
def State.snapBlocks (s : State) (p : Nat) : List (Nat × Nat) :=
  [(2 ^ 20, 2 ^ 20 + nBlocks (s.resBase p) (s.resEnd p)),
   (2 * 2 ^ 20, 2 * 2 ^ 20 + 64 * s.nBasinUnit p),
   (4 * 2 ^ 20, 4 * 2 ^ 20 + nBlocks (s.dirBase p / 2) (s.dirEnd p / 2)),
   (5 * 2 ^ 20, 5 * 2 ^ 20 + nBlocks (s.bodyBase p) (s.bodyEnd p))]

/-- The header, with COMPLETE 0. -/
def State.snapHeader (s : State) (p : Nat) : Nat :=
  1 + p * 2 ^ 8 + s.epoch * 2 ^ 16 + s.chip * 2 ^ 32 + s.tickno * 2 ^ 64 + s.reg (R.pfmPcstRes p) * 2 ^ 128
    + s.reg (R.pfmPbasin p) * 2 ^ 160 + s.reg (R.pfmPrldir p) * 2 ^ 192 + s.reg (R.pfmPrlbody p) * 2 ^ 224
    + s.reg (R.pfmPcstFrame p) * 2 ^ 256 + s.spillNum p * 2 ^ 288

/-- Frame tag i of p as section 6 has it. -/
def State.snapTag (s : State) (p i : Nat) : Nat :=
  let t := tget 0 s.cst.tags (s.resEnd p - s.nFrames p + i)
  if t = 0 then 2 ^ 32 - 1 else t - 1

/-- Section 6 in writes of 1,024 tags. -/
def State.tagWrites (s : State) (p : Nat) : List (Nat × Nat × Nat) :=
  let n := s.nFrames p
  (List.range ((n + 1023) / 1024)).map (fun j =>
    let m := min 1024 (n - 1024 * j)
    (s.snapOff p 6 + 4096 * j, 4 * m, (List.range m).foldl (fun a i => a + s.snapTag p (1024 * j + i) * 2 ^ (32 * i)) 0))

/-- The SP_BMODE half of a basin unit. -/
def State.modeHalf (s : State) (u : Nat) : Nat := s.fld (R.spBmode (u / 2)) (16 * (u % 2) + 15) (16 * (u % 2))

/-- Section 7 in one write. -/
def State.modeWrites (s : State) (p : Nat) : List (Nat × Nat × Nat) :=
  let n := s.nBasinUnit p
  if n = 0 then []
  else [(s.snapOff p 7, 2 * n, (List.range n).foldl (fun a i => a + s.modeHalf (s.basinBase p / 64 + i) * 2 ^ (16 * i)) 0)]

/-! ## The start (R275) -/

/-- The commands that asked for a snapshot end ABORTED (R307). -/
def State.snapCmdsAbort (s : State) (p : Nat) : State :=
  let l := (s.prt p).snapCmds
  let s := s.modPrt p (fun x => { x with snapCmds := [], snapReq := false, snapDefer := false })
  l.foldl (fun s q => match (s.fn q.1).findFlight q.2 with
    | some i => s.complete q.1 i.cmd { cstat := 3 }
    | none => s) s

/-- The snapshot begins: the state of this boundary is held from here on. -/
def State.snapStart (s : State) (p : Nat) : State :=
  let area := 1 - s.fld (R.culPsnapStatus p) 30 30
  if s.fld (R.culPsnapSize p) 15 0 * 2 ^ 20 < s.snapOff p 9 then
    (s.setFlag (R.culPsnapStatus p) 27 true).snapCmdsAbort p
  else
    let n : Snap := { tick := BitVec.ofNat 48 s.tickno, area := area, todo := s.snapBlocks p, cmds := (s.prt p).snapCmds,
                      head := (0, 64, s.snapHeader p) :: (s.tagWrites p ++ s.modeWrites p) }
    (s.setFlag (R.culPsnapStatus p) 31 true).modPrt p (fun x =>
      { x with snap := some n, snapReq := false, snapDefer := false, snapCmds := [] })

/-- A periodic snapshot of p falls due at this boundary. -/
def State.snapPeriodic (s : State) (p : Nat) : Bool :=
  let n := s.fld R.culSnapCfg 15 0
  s.flag (R.culPsnapCtrl p) 29 && n != 0 && s.tickno % n == 0

/-- What a grid tick boundary does for the snapshots of p, between steps 3 and 4 of R50 (R275, R276): the outcome of a tick that
ended here belongs to the state that is held. -/
def State.snapBoundary (s : State) (p : Nat) : State :=
  let x := s.prt p
  if !(x.snapReq || x.snapDefer || s.snapPeriodic p) then s
  else if s.shift p ≠ 0 then (if s.snapPeriodic p then s.modPrt p (fun x => { x with snapDefer := true }) else s)
  else if x.snap.isSome then (s.setFlag (R.culPsnapStatus p) 28 true).snapCmdsAbort p
  else (s.closeFlush p).snapStart p

/-! ## The background copier (R276) -/

/-- Read the next spill images. -/
def State.copyImages (s : State) (p : Nat) (n : Snap) : State :=
  let t := s.imageRead p n
  let s := (s.memIssue t).modChan s.snapChan (fun x => { x with
    work := x.work ++ [.snapRead p (16 * n.images) t.len], credit := x.credit - (t.len : Nat) })
  s.modPrt p (fun x => { x with snap := some { n with images := n.images + t.len / 16 } })

/-- Send some writes of p's snapshot, which then stands as `n`. -/
def State.snapWrites (s : State) (p : Nat) (n : Snap) (ws : List (Nat × Nat × Nat)) : State :=
  ws.foldl (fun s w => s.snapSend p n.area w) (s.modPrt p (fun x => { x with snap := some n }))

/-- The copier's next piece of work for p. -/
def State.copyNext (s : State) (p : Nat) (n : Snap) : State :=
  match n.buf with
  | b :: t => s.snapWrites p { n with buf := t } b.2.2
  | [] =>
    if n.images < s.spillNum p then s.copyImages p n
    else match n.head with
      | w :: t => s.snapWrites p { n with head := t } [w]
      | [] => match n.next with
        | none => s
        | some (key, rest) =>
          let ws := s.blockWrites p key
          (s.cycles 4).snapWrites p { n with todo := rest } ws

/-- SNAPSHOT_BLOCK_COPY (R276, R339): the snapshot channel is chosen, and sends its next piece of p's snapshot. A write that waited
for a place in a bank's snapshot buffer goes on. -/
def execSnapshotBlockCopy (p : BitVec 5) (s : State) : Host.Outcome State Fault Refusal :=
  let p := p.toNat
  match (s.prt p).snap with
  | none => .next s
  | some n =>
    if s.chosen = some s.snapChan ∧ s.snapDue p n ∧ !s.snapWritten p n then
      .next ((s.copyNext p n).served s.snapChan).settle
    else .next s

/-- SNAPSHOT_COMPLETE (R277): every section is written and answered, and COMPLETE is written; its answer ends the
snapshot. -/
def execSnapshotComplete (p : BitVec 5) (s : State) : Host.Outcome State Fault Refusal :=
  let p := p.toNat
  match (s.prt p).snap with
  | none => .next s
  | some n =>
    if s.chosen = some s.snapChan ∧ s.snapDue p n ∧ s.snapWritten p n then
      .next ((s.snapWrites p { n with finishing := true } [(0x3C, 4, 1)]).served s.snapChan)
    else .next s

/-! ## RESTORE (R278) -/

/-- The area passes its checks. -/
def State.areaOk (s : State) (p : Nat) (m : List Byte) : Bool :=
  bytesAt m 0x3C 4 == 1 && bytesAt m 1 1 == p && bytesAt m 0x10 4 == s.reg (R.pfmPcstRes p)
    && bytesAt m 0x14 4 == s.reg (R.pfmPbasin p) && bytesAt m 0x18 4 == s.reg (R.pfmPrldir p)
    && bytesAt m 0x1C 4 == s.reg (R.pfmPrlbody p) && bytesAt m 0x20 4 == s.reg (R.pfmPcstFrame p)
    && bytesAt m 0x24 4 == s.spillNum p

/-- The lane state of 8 bytes (R277). -/
def laneOf (w : Nat) : LaneState :=
  { fill := BitVec.ofNat 16 w, stamp := BitVec.ofNat 16 (w / 2 ^ 16), v := w.testBit 32, e := w.testBit 33 }

/-- Sections 1 to 5 and 7 go back; every frame is left empty. -/
def State.restoreWords (s : State) (p : Nat) (m : List Byte) : State :=
  let off := s.snapOff p
  let r0 := s.resBase p
  let nr := s.resEnd p - r0
  let b0 := s.basinBase p
  let nb := s.basinEnd p - b0
  let d0 := s.dirBase p / 2
  let nd := s.dirEnd p / 2 - d0
  let w0 := s.bodyBase p
  let nw := s.bodyEnd p - w0
  let word := fun o => BitVec.ofNat 128 (bytesAt m o 16)
  let s := (((s.clearErrs 0 r0 (r0 + nr)).clearErrs 1 (4 * b0) (4 * (b0 + nb))).clearErrs 2 d0 (d0 + nd)).clearErrs 2 w0
    (w0 + nw)
  let ent := fun i => if s.isFrame (r0 + i) then Cistern.fresh p true else Cistern.unpack (word (off 1 + 16 * i))
  let c := s.cst
  { s with cst := { c with
      ent := tfill {} c.ent r0 nr ent
      bad := tclear c.bad r0 (r0 + nr)
      tags := tclear c.tags r0 (r0 + nr)
      basins := tfill 0 c.basins b0 nb (fun i => BitVec.ofNat 512 (bytesAt m (off 2 + 64 * i) 64))
      lanes := tfill {} c.lanes b0 nb (fun i => laneOf (bytesAt m (off 3 + 8 * i) 8))
      badBasin := tclear c.badBasin b0 (b0 + nb)
      rl := tfill 0 (tfill 0 c.rl d0 nd (fun i => word (off 4 + 16 * i))) w0 nw (fun i => word (off 5 + 16 * i)) } }

/-- The mode entries go back. -/
def State.restoreModes (s : State) (p : Nat) (m : List Byte) : State :=
  (List.range (s.nBasinUnit p)).foldl (fun s i =>
    let u := s.basinBase p / 64 + i
    s.setFld (R.spBmode (u / 2)) (16 * (u % 2) + 15) (16 * (u % 2)) (bytesAt m (s.snapOff p 7 + 2 * i) 2)) s

/-- The spill images go back, then the occupant of each frame tag, with SPILLED 1. -/
def State.restoreImages (s : State) (p : Nat) (m : List Byte) : State :=
  let off := s.snapOff p
  let s := (List.range (s.spillNum p)).foldl (fun s i =>
    s.memWr (.restore p) (s.pair (R.pfmPspillAddr p) + 16 * i) 16 (bytesAt m (off 8 + 16 * i) 16) none) s
  (List.range (s.nFrames p)).foldl (fun s i =>
    let t := bytesAt m (off 6 + 4 * i) 4
    if t = 2 ^ 32 - 1 then s
    else
      let k := s.resEnd p - s.nFrames p + i - s.resBase p
      let e := Cistern.unpack (BitVec.ofNat 128 (bytesAt m (off 1 + 16 * k) 16))
      s.memWr (.restore p) (s.imageAddr p t) 16 ({ e with spilled := true } : Cistern).pack.toNat none) s

/-- The words that a restore writes at the banks. -/
def State.restoreSize (s : State) (p : Nat) : Nat :=
  s.resEnd p - s.resBase p + 4 * (s.basinEnd p - s.basinBase p) + (s.dirEnd p / 2 - s.dirBase p / 2) + (s.bodyEnd p - s.bodyBase p)

/-- A write of 1 to RESTORE with what the area that RSEL selects holds: its header is read, then its sections. -/
def State.restoreGo (s : State) (p : Nat) (m : List Byte) : State :=
  let a := s.areaBase p (s.fld (R.culPsnapCtrl p) 30 30)
  if s.pstate p ≠ 0 ∨ (s.prt p).restoring then s
  else if !s.areaOk p m then (s.memRd (.restore p) a 64 none).setFlag (R.culPsnapStatus p) 29 true
  else
    let s := (s.memRd (.restore p) a 64 none).memRd (.restore p) (a + 4096) (s.snapOff p 9 - 4096) none
    let s := (((s.restoreWords p m).restoreModes p m).restoreImages p m).cycles (s.restoreSize p)
    (s.setFlag (R.culPsnapCtrl p) 31 true).modPrt p (fun x => { x with restoring := true })

/-- RESTORE_DONE (R278): the last restore write is answered. -/
def execRestoreDone (p : BitVec 5) (s : State) : Host.Outcome State Fault Refusal :=
  let p := p.toNat
  if (s.prt p).restoring then
    let s := { s with pump := { s.pump with writes := s.pump.writes.filter (fun t => t.who != MemWho.restore p) } }
    let s := (s.setFlag (R.culPsnapCtrl p) 31 false).modPrt p (fun x => { x with restoring := false })
    .next s.memFlush
  else .next s

end Sys2Proof.Machine
end

