-- ==== Sys2Proof/Machine/PumpOp.lean ====
section
/-! DEFINITION. OP descriptors of the Pump (R331): the operation they issue and its response. -/

namespace Sys2Proof.Machine

/-- The request of an OP descriptor, as the CNP sees it (R331). -/
def pumpReq (c : Nat) (d : PDesc) : CnpReq :=
  { attach := 0, space := BitVec.ofNat 2 d.space, resp := true, tag := 0, master := BitVec.ofNat 13 (0x1100 + c),
    index := BitVec.ofNat 24 d.index, gen := BitVec.ofNat 16 d.gen, rsv := 0, a := BitVec.ofNat 64 d.dst, b := 0 }

/-- The operation itself; its answer goes to the channel. -/
def State.pumpOp (s : State) (c : Nat) (d : PDesc) : State :=
  let q := pumpReq c d
  let o := { s.reqOp q d.opc 0 with origin := .pump c }
  if reqBad q d.opc then s.refuseOp o { result := Res.badOp }
  else if o.part.isNone then s.refuseOp o { result := Res.rights }
  else s.submit o

/-- OP_ISSUE (R331, R333): the oldest open descriptor of the channel is an OP that waits. -/
def execOpIssue (c : BitVec 6) (s : State) : Host.Outcome State Fault Refusal :=
  let c := c.toNat
  let x := s.chan c
  match x.descs with
  | d :: _ =>
    if d.isOp && d.bad == 0 && s.cstate c == 2 && !s.pumpStopped && !s.chanHeld c && !x.opOut && x.opRsp.isNone
        && x.wb.isNone && decide (c < s.snapChan) && s.up && !s.asleep && !s.clk.lostC then
      .next ((s.modChan c (fun x => { x with opOut := true })).pumpOp c d).settle
    else .next s
  | [] => .next s

/-- OP_RESPONSE (R331, R334): the RESULT is shown and written back, and the descriptor completes. Under an
abort or a stop the channel then has none in progress (R338). -/
def execOpResponse (c : BitVec 6) (s : State) : Host.Outcome State Fault Refusal :=
  let c := c.toNat
  let x := s.chan c
  match x.opRsp, x.descs with
  | some r, d :: _ =>
    let s := s.modChan c (fun x => { x with opRsp := none })
    if s.cstate c = 6 then .next s else
    let s := s.setFld (R.pmpCstatus c) 15 12 r.result
    let s := if s.cstate c = 2 ∧ !s.pumpStopped then s
      else s.modChan c (fun x => { x with descs := [d], noProg := true })
    if d.wb then .next (s.descWb c d 1 r.result 0) else .next ((s.descFinish c d 1).chanAdvance c 4)
  | some _, [] => .next (s.modChan c (fun x => { x with opRsp := none }))
  | none, _ => .next s

/-- A write of 1 to PMP_CTRL.RESUME (R343, R346). -/
def State.pumpResume (s : State) : State := s.setFlag R.pmpCtrl 0 true

end Sys2Proof.Machine
end

