-- ==== Sys2Proof/Machine/Scrub.lean ====
section
/-! DEFINITION. The scrubber (R421): each bank's pass over its CST words and the well words beside it. -/

namespace Sys2Proof.Machine

/-- Resident words of a bank. -/
def State.resPerBank (s : State) : Nat := s.nResident / 64

/-- Words of a bank's pass: resident words, 4,096 basin words, 4,096 release-list words, 512 well words (R421, R426). -/
def State.scrubWords (s : State) : Nat := s.resPerBank + 4096 + 4096 + 512

/-- Class and index of the word at a place of a bank's pass (DESIGN CHOICE: the manual gives no order, assumption 60). -/
def State.scrubAt (s : State) (bank pos : Nat) : Nat × Nat :=
  let n := s.resPerBank
  if pos < n then (0, pos * 64 + bank)
  else if pos < n + 4096 then (1, 4 * ((pos - n) / 4 * 64 + bank) + (pos - n) % 4)
  else if pos < n + 8192 then (2, (pos - n - 4096) * 64 + bank)
  else (3, 512 * bank + (pos - n - 8192))

/-- The cistern that a slot of p holds: its own number, or the spilled one that occupies the frame. -/
def State.slotCnum (s : State) (slot : Nat) : Nat :=
  let t := tget 0 s.cst.tags slot
  if t = 0 then slot else t - 1

/-- An uncorrectable word that no partition holds takes its initial value. -/
def State.scrubInit (s : State) (cls idx : Nat) : State :=
  let s := s.clearErr cls idx
  if cls = 0 then { s with cst := { s.cst with ent := tset {} s.cst.ent idx {} } }
  else if cls = 1 then
    let keep := (s.basin (idx / 4)).toNat - (s.basin (idx / 4)).toNat >>> (128 * (idx % 4)) % 2 ^ 128 * 2 ^ (128 * (idx % 4))
    { s with cst := { s.cst with basins := tset 0 s.cst.basins (idx / 4) (BitVec.ofNat 512 keep) } }
  else { s with cst := { s.cst with rl := tset 0 s.cst.rl idx 0 } }

/-- What a scrub read of a word does (R97, R241, R421). -/
def State.scrubWord (s : State) (cls idx : Nat) : State :=
  if cls = 3 then
    (if s.wellBad (wellOf idx 0) && s.wellBad (wellOf idx 1) then s
     else (s.readWell (if s.wellBad (wellOf idx 0) then wellOf idx 1 else wellOf idx 0)).1)
  else if cls = 0 then
    if tget false s.cst.bad idx then s
    else
      let r := s.codeRead 0 idx
      if r.2 then r.1
      else if (s.ownerRes idx).isSome then r.1.poison idx (s.slotCnum idx) else r.1.scrubInit 0 idx
  else if cls = 1 then
    match s.ownerBasin (idx / 4) with
    | some _ => (s.readBasin (idx / 4)).1
    | none =>
      let r := s.codeRead 1 idx
      if r.2 then r.1 else r.1.scrubInit 1 idx
  else
    let r := s.codeRead 2 idx
    if r.2 then r.1
    else match s.ownerRl idx with
      | some p => r.1.fault p { code := Fc.codeUncorrectable, unit := 5 }
      | none => r.1.scrubInit 2 idx

/-- Every bank has finished its pass. -/
def State.scrubDone (s : State) : Bool := (List.range 64).all (fun b => decide (s.scrubWords ≤ tget 0 s.cst.scrubPos b))

/-- SCRUB_WORD_DUE (R421). -/
def execScrubWordDue (bank : BitVec 6) (s : State) : Host.Outcome State Fault Refusal :=
  if s.up then .next { s with cst := { s.cst with scrubDue := tmod 0 s.cst.scrubDue bank.toNat (· + 1) } } else .next s

/-- SCRUB_READ (R421): in K0 or K1 the bank's next due word is read, in one cycle of the bank. The pass that ends last is
counted; one that ends after its period makes way for the next. -/
def execScrubRead (bank : BitVec 6) (s : State) : Host.Outcome State Fault Refusal :=
  let b := bank.toNat
  let pos := tget 0 s.cst.scrubPos b
  if !s.up || decide (2 ≤ s.rst.kst) || tget 0 s.cst.scrubDue b == 0 || decide (s.scrubWords ≤ pos) then .next s
  else
    let w := s.scrubAt b pos
    let s := (s.scrubWord w.1 w.2).cycles 1
    let s := { s with cst := { s.cst with
      scrubPos := tset 0 s.cst.scrubPos b (pos + 1), scrubDue := tmod 0 s.cst.scrubDue b (· - 1) } }
    if s.scrubDone then
      let s := s.setFld R.pfmScrubStatus 31 16 (s.fld R.pfmScrubStatus 31 16 + 1)
      .next (if s.cst.scrubLate then { s with cst := { s.cst with scrubPos := [], scrubLate := false } } else s)
    else .next s

/-- SCRUB_PERIOD_END (R421). -/
def execScrubPeriodEnd (s : State) : Host.Outcome State Fault Refusal :=
  if !s.up then .next s
  else
    let s := { s with cst := { s.cst with scrubFrom := s.now } }
    if s.scrubDone then .next { s with cst := { s.cst with scrubPos := [] } }
    else
      let s := s.setFlag R.pfmScrubStatus 0 true
      .next ({ s with cst := { s.cst with scrubLate := true } } : State).wakeFor

end Sys2Proof.Machine
end

