-- ==== Sys2Proof/Machine/Reset.lean ====
section
/-! DEFINITION. Resets (R412 to R419): what each kind returns to its reset value, what it discards, and when it is
complete. -/

namespace Sys2Proof.Machine

/-! ## Completion and absorption (R412) -/

/-- A master is in a freeing pass, or waits for one. -/
def State.beingFreed (s : State) (m : Nat) : Bool := s.freeing s.chip m

/-- Functions 1 to 255 of p. -/
def State.partFns (s : State) (p : Nat) : List Nat :=
  (List.range s.nFunc).filter (fun f => f != 0 && s.fEn f && s.fPart f == p)

/-- Pump channels of p. -/
def State.partChans (s : State) (p : Nat) : List Nat :=
  (List.range s.nChan).filter (fun c => (s.pair (R.pfmPpump p)).testBit c)

/-- The masters of p: its logical taps, its functions and its channels (R219, R414). -/
def State.partMasters (s : State) (p : Nat) : List Nat :=
  (List.range s.nGood).filter (s.hasTap p) ++ (s.partFns p).map (0x1000 + ·) ++ (s.partChans p).map (0x1100 + ·)

/-- A reset of KIND k and INDEX i has work left. KIND 7 stands for a function-level reset from the host endpoint. -/
def State.resetBusy (s : State) (r : Nat × Nat) : Bool :=
  if r.1 = 2 then s.cst.initd.any (fun e => e.1 == r.2) || (s.partMasters r.2).any s.beingFreed
      || (s.partChans r.2).any (fun c => (s.chan c).reset)
  else if r.1 = 3 ∨ r.1 = 7 then s.beingFreed (0x1000 + r.2)
  else if r.1 = 4 then s.beingFreed r.2 || (match s.physical r.2 with | some t => (s.tap t).resetPin | none => false)
  else if r.1 = 6 then s.beingFreed (0x1100 + r.2) || (s.chan r.2).reset
  else false

/-- A command that raises a reset. -/
def isReset : Instr → Bool
  | .partitionReset .. => true
  | .functionReset .. => true
  | .tapReset .. => true
  | .culvertPortReset .. => true
  | .pumpChannelReset .. => true
  | _ => false

/-- A command that raises a reset by a write of PFM_RST. -/
def isResetWrite : Instr → Bool
  | .partitionReset .. => true
  | .functionReset (.write _) _ => true
  | .tapReset (.write _) _ => true
  | .culvertPortReset .. => true
  | .pumpChannelReset .. => true
  | _ => false

/-- The function whose function-level reset a command is. -/
def flrOf : Instr → Option Nat
  | .functionReset .pin f => some f.toNat
  | _ => none

/-- PFM_RST_STATUS.BUSY (R412). -/
def State.rstBusy (s : State) : Bool :=
  s.rst.por || s.rst.blk || s.rst.blkPin || s.held.any isResetWrite
    || s.rst.raised.any (fun r => r.1 != 7 && s.resetBusy r)

/-- Forget the resets that have completed; FLR_ACK answers a function-level reset (R434). -/
def State.pruneResets (s : State) : State :=
  if s.rst.raised.isEmpty || s.held.any isReset then s
  else
    let done := s.rst.raised.filter (fun r => !s.resetBusy r)
    let s := { s with rst := { s.rst with raised := s.rst.raised.filter s.resetBusy } }
    done.foldl (fun s r => if r.1 = 7 then s.emit (.flrAck r.2) else s) s

/-- Note a reset. -/
def State.raised (s : State) (k i : Nat) : State :=
  if s.rst.raised.contains (k, i) then s else { s with rst := { s.rst with raised := s.rst.raised ++ [(k, i)] } }

/-- A partition reset of p is running. -/
def State.partResetting (s : State) (p : Nat) : Bool := s.rst.raised.contains (2, p) && s.resetBusy (2, p)

/-- A running partition reset absorbs a reset of what belongs to its partition (R412). -/
def State.absorbed (s : State) (p : Option Nat) : Bool := match p with | some p => s.partResetting p | none => false

/-! ## Power-on reset and block reset (R413, R419) -/

/-- What a block reset leaves of the registers: the identity and the map, OBS_TB_INC and OBS_TBMODE, and the copy of
the Gauge window; CUL_CHIPID comes from the record. -/
def State.keptRegs (s : State) : Tab W32 :=
  let keep := s.regs.filter (fun e => decide (e.1 ≤ 0x10 ∨ (0x2400 ≤ e.1 ∧ e.1 < 0x2600) ∨ (0xC0000 ≤ e.1 ∧ e.1 < 0xD0000))
    || e.1 == R.obsTbInc || e.1 == R.obsTbmode)
  tset 0 keep R.culChipid (BitVec.ofNat 32 (s.fld R.pfmCfgId 11 0))

/-- The function-level resets that a block reset absorbs: FLR_ACK answers them when it has completed (R412, R434). -/
def State.flrs (s : State) : List (Nat × Nat) :=
  s.rst.raised.filter (fun r => r.1 == 7) ++ (s.held.filterMap flrOf).map (fun f => (7, f))

/-- Taps whose TAP_RST_N is low stay in reset (R412). -/
def pinnedTaps (t : Tab TapSt) : Tab TapSt :=
  tmap {} t (fun _ x => if x.resetPin then { reset := true, resetPin := true } else {})

/-- A block reset begins, or goes on: all but the survivors of R419 is at its reset value. -/
def State.blockReset (s : State) (pin : Bool) : State :=
  let job := match s.rst.job with
    | .load => CfgJob.load
    | .reload => .reload
    | _ => .none
  { pending := s.pending, out := s.out, freeCtr := s.freeCtr, build := s.build, regs := s.keptRegs,
    clk := { s.clk with estimate := false, lowTicks := 0, waitM := [], waitC := [], cred := [] },
    pipe := { taps := pinnedTaps s.pipe.taps }, island := s.island,
    rst := {
      por := s.rst.por, blkPin := s.rst.blkPin || pin, blk := true, raised := s.flrs, job := job, record := s.rst.record } }

/-- PO_RST_N is low (R413, R428): the record and the TB are gone too. -/
def State.porReset (s : State) : State :=
  { pending := s.pending, out := s.out, freeCtr := s.freeCtr, build := s.build,
    clk := { kclk := s.clk.kclk, lostTb := s.clk.lostTb, lostM := s.clk.lostM, lostC := s.clk.lostC },
    pipe := { taps := pinnedTaps s.pipe.taps }, island := s.island,
    rst := { por := true, blkPin := s.rst.blkPin, blk := true } }

/-- PO_RST_N_ASSERTION (R428). -/
def execPoRstNAssertion (s : State) : Host.Outcome State Fault Refusal := .next s.porReset

/-- POWER_ON_RESET (R402): PO_RST_N is released and the record is read. -/
def execPowerOnReset (s : State) : Host.Outcome State Fault Refusal :=
  if s.rst.por then .next (({ s with rst := { s.rst with por := false, job := .load } } : State).emit .cfgRead) else .next s

/-- BLK_RST_N falls; a power-on reset in progress absorbs it (R412). -/
def State.blockPin (s : State) : State :=
  if s.rst.por ∨ s.rst.job = .load then { s with rst := { s.rst with blkPin := true } } else s.blockReset true

/-- BLK_RST_N_RELEASE (R413). -/
def execBlkRstNRelease (s : State) : Host.Outcome State Fault Refusal :=
  .next { s with rst := { s.rst with blkPin := false } }

/-- BLOCK_INIT_DONE (R413): every word is written, and TP_READY rises. In CFG_FAULT the block stays in reset (R403). -/
def execBlockInitDone (s : State) : Host.Outcome State Fault Refusal :=
  if s.rst.blk && !s.rst.por && !s.rst.blkPin && s.fld R.pfmState 1 0 == 1 then
    .next { s with rst := { s.rst with blk := false }, cst := { s.cst with scrubFrom := s.now } }
  else .next s

/-! ## Function, channel, port and tap resets (R415 to R418) -/

/-- Channel 63 is stopped by the disable (R339, R418): the writes of records under way are not waited for, and their records are
written again. -/
def State.sumpStop (s : State) (c : Nat) : State :=
  (s.chan c).work.foldl (fun s w => match w with
    | .sump i n len =>
      let x := tget {} s.obs.sumps i
      (s.modChan c (fun y => { y with work := y.work.map (fun v => if v = .sump i n len then .sump i 0 len else v) })).setSump i
        { x with sent := 0 }
    | _ => s) s

/-- A Pump channel reset (R418): ABORT in Kyordol-F, the disable in Kyordol-C; then DISABLED with CNT 0 and CUR := HEAD. A
reserved channel goes on; a snapshot that it copied is abandoned. -/
def State.chanReset (s : State) (c : Nat) : State :=
  let s :=
    if c = s.snapChan then (List.range s.nPart).foldl State.snapAbandon s
    else if c = s.sumpChan then (if s.isC then s.sumpStop c else s)
    else
      let s := s.setFlag (R.pmpCcfg c) 31 false
      let st := s.cstate c
      if s.isC then
        if st = 1 ∨ st = 2 ∨ st = 5 ∨ st = 6 then
          (s.modChan c (fun x => { x with reset := true })).setCstate c 6
        else (s.chanOff c).setPair (R.pmpCcur c) (s.pair (R.pmpChead c))
      else if st = 2 ∨ st = 3 then
        let s := s.modChan c (fun x => { x with endDis := true, reset := true })
        if s.pumpStopped then s else s.setCstate c 3
      else (s.chanOff c).setPair (R.pmpCcur c) (s.pair (R.pmpChead c))
  s.raiseFree [0x1100 + c]

/-- A Culvert port reset (R417): the effects of a move into DOWN, through OFF; counters and state to 0. -/
def State.portReset (s : State) (k : Nat) : State :=
  let s := if s.linkState k = 0 then s else s.downRecords k
  let s := s.linkReset k
  let s := { s with regs := (tclear (tclear s.regs (R.culPstatus k) (R.culPasym k)) (R.culPrtt k) (R.culPdropCnt k + 4)) }
  let s := s.setPort k {}
  if s.flag (R.culPcfg k) 31 then s.setLink k 1 else s

/-- The requests that wait in the request queue of tap t, and their responses, are discarded (R416). -/
def State.dropRequests (s : State) (t : Nat) : State :=
  { s with
    held := s.held.filter (fun i => tapBeats t i == 0)
    pipe := { s.pipe with multi := s.pipe.multi.filter (fun m => m.tap != t) } }

/-- A tap reset (R416) of a physical tap: handled as fenced, without fault entries, until TP_READY returns; what the fence
drops is dropped, and its wells are freed, from the release of TAP_RST_N where that is low (R412). -/
def State.tapReset (s : State) (t : Nat) : State :=
  match s.logical t with
  | none => s
  | some l =>
    let s := (((s.modTap t (fun x => { x with reset := true })).dropRequests t).fenceTap t)
    if (s.tap t).resetPin then s else s.raiseFree [l]

/-- A command is the fall of TAP_RST_N of tap t. -/
def isTapPin (t : Nat) : Instr → Bool
  | .tapReset .pin tap => tap.toNat == t
  | _ => false

/-- TAP_RST_N_RELEASE (R412): the work behind the discarding begins; behind a reset that waits for a wake, it does too. A block
reset has absorbed the reset. -/
def execTapRstNRelease (tap : BitVec 12) (s : State) : Host.Outcome State Fault Refusal :=
  let t := tap.toNat
  let x := s.tap t
  if !x.resetPin then .next s
  else
    let s := s.modTap t (fun x => { x with resetPin := false })
    if !s.up then .next (s.modTap t (fun x => { x with reset := false }))
    else if s.held.any (isTapPin t) then .next { s with held := s.held ++ [.tapRstNRelease tap] }
    else match s.logical t with
      | some l => .next (if x.reset then s.raiseFree [l] else s)
      | none => .next s

/-- TP_READY_RETURN (R416): 64 kclk after the end of the reset. -/
def execTpReadyReturn (tap : BitVec 12) (s : State) : Host.Outcome State Fault Refusal :=
  let t := tap.toNat
  if (s.tap t).resetPin || (match s.logical t with | some l => s.beingFreed l | none => false) then .next s
  else .next (s.modTap t (fun x => { x with reset := false })).settle

/-! ## Partition reset (R414) -/

/-- Every binding of p ends without a residual write, and its tokens are discarded with the counting of R141. -/
def State.dropBinds (s : State) (p : Nat) : State :=
  let mine := fun (b : Option Bind) => match b with | some b => b.part == p | none => false
  let s := ((List.range 18).filter (fun c => mine (s.act c))).foldl (fun s c => (s.setAct c none).discardTokens c) s
  let gone := (List.range 18).filter (fun c => mine (tget none s.pipe.shadow c))
  { s with pipe := { s.pipe with
    shadow := gone.foldl (fun t c => tset none t c none) s.pipe.shadow,
    strobed := s.pipe.strobed.filter (fun c => !gone.contains c) } }

/-- Release contexts, notices, undelivered entries, held copies and delayed tokens of p are discarded. -/
def State.dropReleases (s : State) (p : Nat) : State :=
  let rids := (s.pipe.ctxs.filter (fun c => c.note.part == p)).map (·.rid)
  let keep := fun (k : Tok) => !(k.part == p && k.rid.isSome)
  { s with pipe := { s.pipe with
      notices := s.pipe.notices.filter (fun n => n.part != p),
      ctxs := s.pipe.ctxs.filter (fun c => c.note.part != p),
      und := s.pipe.und.filter (fun u => !rids.contains u.rid),
      taps := tmap {} s.pipe.taps (fun _ x => { x with hold := x.hold.filter keep }),
      leafs := tmap {} s.pipe.leafs (fun _ x => { x with
        store := x.store.filter (fun d => d.tok.part != p),
        reports := x.reports.filter (fun r => !rids.contains r.rid),
        lost := x.lost.filter (fun r => !rids.contains r.1) }) } }

/-- The tables, staged rows, reads, requests and halt of p are gone; a load that function 0 asked for ends ABORTED. -/
def State.dropSchedule (s : State) (p : Nat) : State :=
  let s := match (s.prt p).load with
    | some (f, cidx, _, _) => s.loadEnd p f cidx { cstat := 3 }
    | none => s
  let s := s.modPrt p (fun x => { x with
    begun := false, dl := [], dlNext := [], closing := none, loadAsked := false, late := false, sent := false, lateDown := false, stretch := none, capped := false,
    alone := false, payback := 0, quiesceReq := false, haltPend := false, halted := false, cut := false, resumePend := false,
    tbl := none, next := none, staged := [], spans := [], stErr := false, reads := x.reads.map (fun r => (noTick, r.2)) })
  s.unsmear p

/-- Forwarded requests of p are answered BUSY. -/
def State.busyForwards (s : State) (p : Nat) : State :=
  (s.cul.fwds.filter (fun x => x.op.part == some p)).foldl
    (fun s x => (s.dropFwd x).deliver x.op { result := Res.busy }) s

/-- The grant entries of p go to NONE and their slots are purged. -/
def State.dropGrants (s : State) (p : Nat) : State :=
  let u := s.reg (R.hgPcredUnits p)
  ((s.pipe.grants.map (·.1)).filter (fun e => within (64 * bits u 6 0) e (64 * bits u 6 0 + 64 * bits u 23 16))).foldl
    (fun s e => (s.grantStop e).setGrant e {}) s

/-- Every unit of p is initialised, every frame left empty; what waited for a fill is answered BUSY. -/
def State.initAll (s : State) (p : Nat) : State :=
  let mine := s.cst.fills.filter (fun x => x.part == p)
  let s := { s with cst := { s.cst with
    fills := s.cst.fills.filter (fun x => x.part != p),
    initd := s.cst.initd.filter (fun e => e.1 != p) ++ (List.range 3).flatMap (fun r => (s.units p r).map (fun u => (p, r, u))) } }
  mine.foldl (fun s x => s.refuseMisses x.cnum Res.busy) s

/-- A partition reset of p (R414), all in one cycle. -/
def State.partReset (s : State) (p : Nat) : State :=
  let s := s.setPstate p 0
  let s := ((s.dropBinds p).dropReleases p).summaries p
  let s := ((s.partFns p).foldl State.fnReset s).dropSchedule p
  let s := (s.freezeAll p).busyForwards p
  let s := (s.partChans p).foldl State.chanReset s
  let s := s.raiseFree ((List.range s.nGood).filter (s.hasTap p))
  let s := ((s.dropGrants p).abortDumps p).snapCmdsAbort p
  (s.snapAbandon p).initAll p

/-! ## A write of PFM_RST (R412, R424) -/

/-- A reset that must wait for the die to wake (R411). -/
def State.resetAsleep (s : State) (i : Instr) : State :=
  { s with held := s.held ++ [i], rst := { s.rst with waking := true } }

/-- The reset of KIND k and INDEX i, in K0. -/
def State.resetGo (s : State) (k i : Nat) : State :=
  if k = 2 then (s.partReset i).raised 2 i
  else if k = 3 then (if s.absorbed (if i = 0 then none else some (s.fPart i)) then s else (s.fnReset i).raised 3 i)
  else if k = 4 then
    (if s.absorbed (s.tapOwner i) then s
     else match s.physical i with | some t => (s.tapReset t).raised 4 i | none => s)
  else if k = 5 then s.portReset i
  else if s.absorbed (s.chanPart i) then s else (s.chanReset i).raised 6 i

/-- The targets of a KIND. -/
def State.resetTargets (s : State) (k : Nat) : Nat :=
  if k = 2 then s.nPart else if k = 3 then s.nFunc else if k = 4 then s.nGood else if k = 5 then s.nPort
  else if k = 6 then s.nChan else 0

/-- The command that a held reset waits as. -/
def resetInstr (acc : Acc) (k i : Nat) : Instr :=
  if k = 2 then .partitionReset acc (BitVec.ofNat 5 i)
  else if k = 3 then .functionReset (.write acc) (BitVec.ofNat 8 i)
  else if k = 4 then .tapReset (.write acc) (BitVec.ofNat 12 i)
  else if k = 5 then .culvertPortReset acc (BitVec.ofNat 3 i)
  else .pumpChannelReset acc (BitVec.ofNat 6 i)

/-- A write of PFM_RST: KIND 0 does nothing, KIND 1 is a block reset whatever INDEX holds, a reserved KIND or an absent
target sets ERR. -/
def State.rstWrite (s : State) (acc : Acc) (v : Nat) : State :=
  let k := bits v 31 28
  let i := bits v 11 0
  if k = 0 then s
  else if k = 1 then s.blockReset false
  else if s.resetTargets k ≤ i then s.setFlag R.pfmRstStatus 1 true
  else if s.rst.kst ≠ 0 then s.resetAsleep (resetInstr acc k i)
  else (s.resetGo k i).settle

/-- A function-level reset from the host endpoint (R415, R434); a block reset absorbs it. -/
def State.flr (s : State) (f : Nat) : State :=
  if s.nFunc ≤ f then s
  else if !s.up then s.raised 7 f
  else if s.rst.kst ≠ 0 then s.resetAsleep (.functionReset .pin (BitVec.ofNat 8 f))
  else if s.absorbed (if f = 0 then none else some (s.fPart f)) then s.raised 7 f
  else ((s.fnReset f).raised 7 f).settle

/-- TAP_RST_N of a physical tap falls: the tap is in reset for as long as it stays low (R412), and the reset discards what it
discards once the die is awake (R411). A block reset or a reset of its partition absorbs that work. -/
def State.tapPin (s : State) (t : Nat) : State :=
  if s.nTap ≤ t then s
  else
    let s := s.modTap t (fun x => { x with resetPin := true })
    if !s.up ∨ !s.tapGood t ∨ s.absorbed (s.tapPart t) then s.modTap t (fun x => { x with reset := true })
    else if s.rst.kst ≠ 0 then s.resetAsleep (.tapReset .pin (BitVec.ofNat 12 t))
    else (s.tapReset t).settle

end Sys2Proof.Machine
end

