-- ==== Sys2Proof/Machine/CfgStore.lean ====
section
/-! DEFINITION. The configuration record (R401 to R406): its check, its load, and its rewrite. -/

namespace Sys2Proof.Machine

/-- Every byte of a range is 0. -/
def zeroAt (m : List Byte) (i n : Nat) : Bool := ((m.drop i).take n).all (· == 0)

/-- Set bits of the record's map. -/
def mapCount (m : List Byte) : Nat := ((m.drop 0x20).take 512).foldl (fun a b => a + popcount 8 b.toNat) 0

/-- The CAUSE of a record's first failed check, 0 where it passes; `c` for Kyordol-C (R402). -/
def recordCause (c : Bool) (m : List Byte) : Nat :=
  let build := bytesAt m 2 2
  if m.length ≠ 576 ∨ crc32 (m.take 0x23C) ≠ bytesAt m 0x23C 4 then 1
  else if bytesAt m 0 2 ≠ 1 ∨ !(build == 1 || build == 2) ∨ bytesAt m 6 2 / 4096 ≠ 0 ∨ 1 < bytesAt m 8 4
      ∨ !zeroAt m 0x0E 18 ∨ !zeroAt m 0x220 28 ∨ (c ∧ bits (bytesAt m 6 2) 11 8 ≠ 0) then 2
  else if build ≠ (if c then 2 else 1) then 3
  else if bytesAt m 0xC 2 = 0 ∨ bytesAt m 0xC 2 ≠ mapCount m ∨ (c ∧ !zeroAt m 0xA0 384) then 4
  else 0

/-- A record that passed becomes the loaded record (R402, R423, R425). -/
def State.takeRecord (s : State) (m : List Byte) : State :=
  let s := ((s.setReg R.pfmBuild (bytesAt m 2 2)).setReg R.pfmGrade (bytesAt m 0xC 2 * 2 ^ 16 + bytesAt m 4 2)).setReg
    R.pfmCfgId (bytesAt m 8 4 % 2 * 2 ^ 13 + bytesAt m 6 2)
  let s := (List.range 128).foldl (fun s w => s.setReg (R.pfmCfgMap w) (bytesAt m (0x20 + 4 * w) 4)) s
  let s := (s.setReg R.pfmState 1).setReg R.culChipid (bytesAt m 6 2)
  { s with rst := { s.rst with record := m } }

/-- RECORD_LOAD_DONE (R402, R406): the load of a power-on reset or of RELOAD. -/
def execRecordLoadDone (rec : List Byte) (s : State) : Host.Outcome State Fault Refusal :=
  let go := s.rst.job == .load || s.rst.job == .reload
  if !go then .next s
  else
    let cause := recordCause s.isC rec
    let again := s.rst.job == .reload
    let s := { s with rst := { s.rst with job := .none } }
    let s := if again then s.setFlag R.pfmCfgCtrl 1 false else s
    if cause = 0 then .next (s.takeRecord rec)
    else
      let s := s.setReg R.pfmState (cause * 16 + 2)
      .next (if again then s.setFlag R.pfmCfgStatus 2 true else s)

/-- The presence condition of a rewrite (R393). -/
def State.rewriteOk (s : State) : Bool := s.presOpen && s.flag R.gauStatus 5

/-- A rewrite fails with a fault code. -/
def State.cfgFail (s : State) (code : Nat) : State := (s.setFld R.pfmCfgStatus 15 8 code).setFlag R.pfmCfgStatus 2 true

/-- The staged record. -/
def State.staged (s : State) : List Byte := (List.range 144).flatMap (fun w => toBytes 4 (s.reg (R.pfmCfgStage w)))

/-- COMMIT (R393, R406). -/
def State.cfgCommit (s : State) : State :=
  if s.rst.job ≠ .none then s
  else if !s.rewriteOk then (s.privRefuse).cfgFail Fc.presenceRequired
  else if recordCause s.isC s.staged ≠ 0 then s.cfgFail Fc.descFormat
  else
    let m := s.staged
    let s := (s.setIsland (s.island.presence 2)).setFlag R.pfmCfgCtrl 0 true
    ({ s with rst := { s.rst with job := .rewrite m } } : State).emit (.cfgWrite m)

/-- CONFIG_REWRITE_DONE (R406): `timeout` where an erase or a page took too long. -/
def execConfigRewriteDone (timeout : Bool) (readback : List Byte) (s : State) : Host.Outcome State Fault Refusal :=
  match s.rst.job with
  | .rewrite m =>
    let s := ({ s with rst := { s.rst with job := .none } } : State).setFlag R.pfmCfgCtrl 0 false
    if timeout ∨ readback ≠ m then .next (s.cfgFail Fc.busFault)
    else .next ((s.setFld R.pfmCfgStatus 15 8 0).setFlag R.pfmCfgStatus 1 true)
  | _ => .next s

/-- RELOAD (R406): in CFG_FAULT only. -/
def State.cfgReload (s : State) : State :=
  if s.fld R.pfmState 1 0 = 2 ∧ s.rst.job = .none then
    (({ s with rst := { s.rst with job := .reload } } : State).setFlag R.pfmCfgCtrl 1 true).emit .cfgRead
  else s

/-- PFM_CFG_STATUS.BUSY (R425). -/
def State.cfgBusy (s : State) : Bool :=
  match s.rst.job with
  | .reload => true
  | .rewrite _ => true
  | _ => false

end Sys2Proof.Machine
end

