-- ==== Sys2Proof/Machine/Power.lean ====
section
/-! DEFINITION. Clock monitors and power states (R400, R407 to R411). -/

namespace Sys2Proof.Machine

/-! ## Monitored clocks (R400): 0 tbclk, 1 mclk, 2 cclk -/

def Clk.lose (c : Clk) (k : Nat) (b : Bool) : Clk :=
  if k = 0 then { c with lostTb := b } else if k = 1 then { c with lostM := b } else { c with lostC := b }

/-- CLOCK_LOSS (R400). -/
def execClockLoss (clk : BitVec 2) (s : State) : Host.Outcome State Fault Refusal :=
  let k := clk.toNat
  if k = 3 then .next s
  else
    let s := { s with clk := s.clk.lose k true }
    .next (if s.up then s.setFlag R.pfmClkStatus k true else s)

/-- CLOCK_RETURN (R400): what waited goes out. -/
def execClockReturn (clk : BitVec 2) (s : State) : Host.Outcome State Fault Refusal :=
  let k := clk.toNat
  if k = 3 then .next s
  else
    let out := if k = 1 then s.clk.waitM else []
    let c := s.clk.lose k false
    let c := if k = 1 then { c with waitM := [] } else c
    .next ({ s with clk := c, out := s.out ++ out } : State).sendRsps

/-! ## What each state allows (R408) -/

/-- A grant entry may send a message now. -/
def State.grantDue (s : State) (e : Nat) (g : Grant) : Bool :=
  g.state == 1 && g.owed != 0 && (match s.grantOwner e with
    | some (p, _) => !((s.prt p).halted || s.stopped || s.pstate p == 3)
    | none => false)

def State.k1Ok (s : State) : Bool :=
  (List.range 18).all (fun c => (s.act c).isNone) && s.pipe.tokens.isEmpty && s.pipe.notices.isEmpty && s.pipe.multi.isEmpty
    && s.pipe.taps.all (fun e => e.2.hold.isEmpty) && s.pipe.leafs.all (fun e => e.2.store.isEmpty)
    && s.pipe.grants.all (fun e => !s.grantDue e.1 e.2)

/-- No command of the function is anywhere but waiting, and no read of its doorbell is out. -/
def Fn.quiet (x : Fn) : Bool :=
  x.cmds.isEmpty && x.flight.isEmpty && x.cmdReads.isEmpty && x.cpls.isEmpty && x.dbReads == 0

def PartRt.quiet (x : PartRt) : Bool :=
  x.reads.isEmpty && x.load.isNone && x.snap.isNone && !x.restoring && x.closing.isNone

/-- Pump channel c is ACTIVE or ABORTING; a reserved one is ACTIVE while it has work (R325). -/
def State.chanBusy (s : State) (c : Nat) : Bool := s.cstate c == 2 || s.cstate c == 3 || !(s.chan c).work.isEmpty

/-- K2 also waits for a late scrub pass, whose words are bank operations (R421). -/
def State.k2Ok (s : State) : Bool :=
  s.pipe.ctxs.isEmpty && s.pipe.und.isEmpty && s.cst.hold.isEmpty && s.cst.next.isEmpty && s.cst.miss.isEmpty
    && s.cst.fills.isEmpty && s.cst.polls.isEmpty && s.cst.initd.isEmpty && s.cul.fwds.isEmpty && s.wel.pass.isNone
    && s.wel.pend.isEmpty && s.parts.all (fun e => e.2.quiet) && s.fns.all (fun e => e.2.quiet)
    && (List.range s.nChan).all (fun c => !s.chanBusy c) && !s.chanBusy s.snapChan && !s.chanBusy s.sumpChan
    && s.obs.sumps.all (fun e => e.2.recs.isEmpty) && !s.cst.scrubLate

/-- No frame and no count for this die waits at a port (R408). -/
def State.k3Ok (s : State) : Bool :=
  s.fns.all (fun e => e.2.waits.isEmpty)
    && s.cul.ports.all (fun e => e.2.rx.all (fun b => !(routed b.btype && b.dst == s.chip) && b.btype != 15))

/-- The conditions of state k and of every shallower one hold, and MAXSTATE permits it. -/
def State.kAllowed (s : State) (k : Nat) : Bool :=
  decide (k ≤ s.fld R.pfmPwrCtrl 1 0) && s.k1Ok && (decide (k < 2) || s.k2Ok) && (decide (k < 3) || s.k3Ok)

/-! ## The next event (R409), as grid slot indices -/

/-- The grid slot index of slot k of p's tick n, as far as it is decided. -/
def State.posAt (s : State) (p n k : Nat) : Nat :=
  if n ≤ (s.prt p).tick.toNat then s.partPos p k
  else (s.partTick p + (n - (s.prt p).tick.toNat)) * s.nSlot + (s.shift p - (s.prt p).payback) + k

/-- The events of a partition that executes: rows and samples, staging, close points, an open stretch, and the boundary at which
it leaves RUN or a halt. -/
def State.partEvents (s : State) (p : Nat) : List Nat :=
  let x := s.prt p
  let t := x.tick.toNat
  let rows := x.staged.map (fun r => s.posAt p r.tick r.row.slot)
  let spans := if x.spans.isEmpty then [] else [s.partPos p (x.slot + 1)]
  let stage := match s.nextRow p 66 x.stTick x.stIdx with
    | some (n, i, tb, n0) => [s.posAt p n (tb.slots.getD (tb.place n0 n i) 0) - s.fld R.raeCtrl 6 0]
    | none => []
  let close := if x.slot < s.closePoint p then s.partPos p (s.closePoint p) else s.posAt p (t + 1) (s.nSlot - s.closeReg p)
  let open_ := if s.stretching p then [s.partPos p (x.slot + 1)] else []
  let stop := if x.quiesceReq then [s.posAt p (max (t + 1) (s.patOf p)) 0] else []
  let resume := if x.resumePend then [s.posAt p (t + 1) 0] else []
  rows ++ spans ++ stage ++ [close] ++ open_ ++ stop ++ resume

/-- The grid slot index of the first tick boundary to come whose number is `e` in `w` bits, or of the next one where that has
passed. -/
def State.tickAhead (s : State) (w e : Nat) : Nat :=
  let d := (e + 2 ^ w - s.tickno % 2 ^ w) % 2 ^ w
  (s.grid.tick + (if d = 0 ∨ 2 ^ (w - 1) ≤ d then 1 else d)) * s.nSlot

/-- The grid slot index of the next tick boundary whose number is a multiple of n. -/
def State.tickMultiple (s : State) (n : Nat) : Nat := (s.grid.tick + (n - s.tickno % n)) * s.nSlot

/-- The grid tick boundaries at which partition p waits for a change of state (R291, R293, R296) or a snapshot (R275). -/
def State.partWaits (s : State) (p : Nat) : List Nat :=
  let x := s.prt p
  let next := (s.grid.tick + 1) * s.nSlot
  let enter := if s.pstate p = 1 then [if s.patOf p ≤ s.tickno then next else s.tickAhead 48 (s.patOf p)] else []
  let lim := s.fld (R.pfmPqto p) 15 0
  let leave := if s.pstate p = 3 ∧ lim ≠ 0 then [(x.qTick + lim) * s.nSlot] else []
  let snap := if x.snapReq || x.snapDefer then [next] else []
  let period := s.fld R.culSnapCfg 15 0
  let periodic := if s.flag (R.culPsnapCtrl p) 29 && period != 0 then [s.tickMultiple period] else []
  enter ++ leave ++ snap ++ periodic

/-- The effective ticks of the messages that wait: membership, RESUME, STOP and START. -/
def State.effectives (s : State) : List Nat :=
  s.cul.seen.map (fun m => s.tickAhead 32 m.e) ++ s.obs.resumes.map (fun r => s.tickAhead 48 r.1)
    ++ s.stop.pend.map (fun x => s.tickAhead 48 x.1)

/-- Every event of the grid that is known, as slot indices after the current one. -/
def State.events (s : State) : List Nat :=
  let g := s.gridIdx
  let parts := ((List.range s.nPart).filter (fun p => s.active p && (s.prt p).begun)).flatMap s.partEvents
  let waits := (List.range s.nPart).flatMap s.partWaits
  let bells := if s.polledFns.isEmpty then []
    else if s.polledFns.any (fun f => s.flag (R.pfmFcfg f) 29) then [g + 1] else [(s.grid.tick + 1) * s.nSlot]
  let n := s.fld R.obsSample 15 0
  let sample := if n = 0 then [] else [s.tickMultiple n]
  let polls := if s.fns.all (fun e => e.2.waits.isEmpty) then [] else [g + 1]
  (parts ++ waits ++ bells ++ sample ++ s.effectives ++ polls).map (fun i => max i (g + 1))

/-- The end of the current scrub period in units of the Headgate's view (R421). -/
def State.scrubEnd (s : State) : Nat := 256 * (s.cst.scrubFrom + 10 ^ 9 * s.fld R.pfmScrubPeriod 15 0)

/-- t_next in units of the Headgate's view. -/
def State.tNext (s : State) : Nat :=
  if !s.grid.running then s.scrubEnd
  else if !s.grid.begun then min s.scrubEnd (s.gridB s.gridIdx)
  else s.events.foldl (fun t i => min t (s.gridB i)) s.scrubEnd

/-! ## The choice (R409) -/

/-- The wake of state k with the guard, in units of the Headgate's view. -/
def State.wakeTime (s : State) (k : Nat) : Nat := 256 * (s.reg (R.pfmPwrCtrl + 4 + 4 * k) + s.reg R.pfmPwrGuard)

/-- The deepest state that is allowed and fits. -/
def State.deepest (s : State) : Nat :=
  let fits := fun k => decide (s.view + s.wakeTime k ≤ s.tNext)
  if s.kAllowed 3 && fits 3 then 3 else if s.kAllowed 2 && fits 2 then 2 else if s.kAllowed 1 && fits 1 then 1 else 0

/-- A power state is left: its time is counted (R424). -/
def Rst.leave (r : Rst) (now : Nat) : Rst :=
  { r with spent := tset 0 r.spent r.kst (tget 0 r.spent r.kst + (now - r.entered)), entered := now }

/-- The Headgate's choice: a deeper state is entered with its wake timer set; a state that is no longer allowed is left
by a wake. -/
def State.powerChoose (s : State) : State :=
  if !s.up || s.rst.waking || !s.held.isEmpty then s
  else
    let k := s.deepest
    if k < s.rst.kst then { s with rst := { s.rst with waking := true } }
    else
      let timer := if k = 0 then none else some (s.tNext - s.wakeTime k)
      let r := if k = s.rst.kst then s.rst else s.rst.leave s.now
      { s with rst := { r with kst := k, timer := timer } }

/-- WAKE_TIMER (R409). -/
def execWakeTimer (s : State) : Host.Outcome State Fault Refusal :=
  match s.rst.timer with
  | some t =>
    if s.rst.kst ≠ 0 ∧ t ≤ s.view then .next { s with rst := { s.rst with timer := none, waking := true } } else .next s
  | none => .next s

/-- WAKE_DONE (R407, R383): the block is in K0; a meter frame that fell due in K3 is sent, and the counts that waited at the ports
are taken (R410). -/
def execWakeDone (s : State) : Host.Outcome State Fault Refusal :=
  if s.rst.kst ≠ 0 ∧ s.rst.waking then
    let s := { s with rst := { s.rst.leave s.now with kst := 0, waking := false, timer := none } }
    let s := if s.glink.due then ({ s with glink := { s.glink with due := false } } : State).gauPeriodic else s
    .next ((List.range s.nPort).foldl State.takeCounts s).settle
  else .next s

/-- PFM_PWR_RESk (R424): microseconds in state k. -/
def State.residence (s : State) (k : Nat) : Nat :=
  (tget 0 s.rst.spent k + (if s.rst.kst = k then s.now - s.rst.entered else 0)) / 1000

/-! ## One idle kclk cycle (assumption 1) -/

/-- How far the servo moves the TB at one tbclk edge: toward an offset of 0 (R259), by at most 100 ppm of the increment
(R25); how far within that is not given (a free value). -/
def slewBy (off : Int) (inc free : Nat) : Int :=
  let d : Int := (min (free % (inc / 10000 + 1)) off.natAbs : Nat)
  if 0 < off then d else -d

/-- The Time Base after one tbclk edge (R22, R23, R25, R259). -/
def State.tbStep (s : State) : State :=
  let inc := s.reg R.obsTbInc
  if !Config.tbclkEdge s.clk.kclk || s.clk.lostTb || inc == 0 || s.rst.por then s
  else if s.slewing then
    let d := slewBy s.clk.off inc s.free
    { s.nextFree with clk := { s.clk with tb := s.clk.tb + BitVec.ofInt 88 (inc + d), off := s.clk.off - d } }
  else { s with clk := { s.clk with tb := s.clk.tb + BitVec.ofNat 88 inc } }

/-- What the kclk cycle ends with: the second pass over its ARRIVE_Ns (R138), the outcomes of its boundaries (R41) and the dumps
that they end (R372), the counts at the ports (R410), the next word of a freeing pass (R233), one word of each PHY (R248), and the response
credits of the control network (R431). -/
def State.cycleWork (s : State) : State :=
  let s := s.judgeMulti (fun _ => true)
  let s := (List.range s.nPart).foldl State.closeFlush s
  let s := ((List.range s.nPart).filter (fun p => s.active p && (s.prt p).begun)).foldl
    (fun s p => s.dumpTimeouts p (s.prt p).tick.toNat) s
  let s := ((List.range s.nPort).foldl State.takeCounts s).passStep.settle
  ((List.range s.nPort).foldl State.phyStep s).rspCredits

/-- The cycle: its work is done, the views of the TB move, the TB and the Gauge's time count, the counter of kclk cycles does, and
the Headgate chooses a power state. -/
def State.cycle (s : State) : State :=
  let s := if s.up then s.cycleWork else s
  let s := { s with clk := { s.clk with h3 := s.clk.h2, h2 := s.clk.h1, h1 := s.clk.tb } }
  let s := s.tbStep
  let s := if Config.gclkMs s.clk.kclk && s.island.up then
      s.setIsland { s.island with gtime := s.island.gtime + 1 } else s
  let s := { s with clk := { s.clk with kclk := s.clk.kclk + 1 } }
  (if s.up then (s.count { evt := 0x32 }).pruneResets.powerChoose else s).beginCycle

/-- What the queue and the held commands become in an idle step. -/
def State.unhold (s : State) : State :=
  if s.rst.kst ≠ 0 ∨ s.rst.waking then s
  else if s.clk.lostC then
    { s with pending := s.held.filter (fun i => !isCnp i) ++ s.pending, held := s.held.filter isCnp }
  else { s with pending := s.held ++ s.pending, held := [] }

/-- What step does on an empty queue. -/
def State.idle (s : State) : State := s.cycle.unhold

end Sys2Proof.Machine
end

