-- ==== Sys2Proof/Machine/Grid.lean ====
section
/-! DEFINITION. The grid (chapter 1): its start and stop, loads of the Time Base, and what its tick and slot boundaries
do (R24, R30 to R35, R50). -/

namespace Sys2Proof.Machine

/-! ## Settings (R24, R33, R34) -/

/-- A write is ignored since the grid runs (R24, R34). -/
def State.gridLocked (s : State) : State := s.setFlag R.hgStatus 2 true

/-- HG_CTRL.EN. -/
def State.gridEn (s : State) : Bool := s.flag R.hgCtrl 0
/-- HG_CTRL.EN at the start of the kclk cycle, which locks the grid's settings (R445). -/
def State.gridWas (s : State) : Bool := s.atStart.gridEn

/-- A load of the Time Base (R24, R28): the fraction clears. -/
def State.tbLoad (s : State) (v : Nat) : State :=
  if s.gridWas then s.gridLocked
  else { s with clk := { s.clk with tb := BitVec.ofNat 88 (v % 2 ^ 64 * 2 ^ 24) } }

/-- The settings pass the checks of R33. -/
def State.gridOk (s : State) : Bool :=
  let len := s.pair R.hgTickLen % 2 ^ 40
  let f := s.reg R.hgTickFrac
  decide (256000 ≤ len) && decide (len ≤ 256000000000) && decide (bits f 15 0 < bits f 31 16)
    && decide (s.fld R.hgMinSlot 23 0 ≤ len / s.nSlot)

/-- The number of the first t(n) that is not earlier than the Time Base (R29, R33). -/
def State.firstTick (s : State) : Nat :=
  let den := s.fld R.hgTickFrac 31 16
  let d := (s.clk.tb.toNat + 2 ^ 16 - 1) / 2 ^ 16 - 256 * s.pair R.hgEpoch
  let per := s.pair R.hgTickLen % 2 ^ 40 * den + s.fld R.hgTickFrac 15 0
  (d * den + per - 1) / per

/-- A write of 1 to EN (R33). -/
def State.gridStart (s : State) : State :=
  if s.gridEn then s
  else if s.gridOk then
    { s.setFlag R.hgCtrl 0 true with grid := { running := true, begun := false, tick := s.firstTick, slot := 0 } }
  else s.setFlag R.hgStatus 1 true

/-- A write of 0 to EN (R34, R53). What HG_TICKNO and HG_SLOTNO read from then on is not given: DESIGN CHOICE, they keep the last
tick and slot (assumption 10). -/
def State.gridStop (s : State) : State :=
  if !s.gridEn then s
  else if (List.range s.nPart).any s.wasLocked then s.gridLocked
  else
    let s := s.finalMarks.setFlag R.hgCtrl 0 false
    { s with grid := { s.grid with running := false } }

/-- A write of HG_CTRL. -/
def State.gridCtrl (s : State) (v : Nat) : State := if v.testBit 0 then s.gridStart else s.gridStop

/-! ## Boundaries (R30, R35, R50) -/

/-- The grid slot index of the next boundary. -/
def State.gridNext (s : State) : Nat := if s.grid.begun then s.gridIdx + 1 else s.gridIdx

/-- The next boundary has come, and it is a tick boundary or not. -/
def State.gridDue (s : State) (tick : Bool) : Bool :=
  s.up && s.grid.running && decide (s.gridB s.gridNext ≤ s.view) && ((s.gridNext % s.nSlot == 0) == tick)

/-- A tick of p ends at the grid boundary that has just come. -/
def State.endsHere (s : State) (p : Nat) : Bool :=
  s.active p && (s.prt p).begun && s.partPos p ((s.prt p).slot + 1) == s.gridIdx && s.endsAt p ((s.prt p).slot + 1)

/-- Step 3 of R50 for one partition: the outcome of its tick, where it ends here. The partitions that did are collected. -/
def State.outcomeStep (r : State × List Nat) (p : Nat) : State × List Nat :=
  let t := r.1.closeAtEnd p
  if t.endsHere p then (t.tickOutcome p, r.2 ++ [p]) else r

/-- TICKS of the partitions that are not STOPPED (R381). -/
def State.tickUsage (s : State) : State :=
  ((List.range s.nPart).filter s.locked).foldl (fun s p => s.usage p .ticks 1) s

/-- Step 4 of R50: the first slot of the ticks that begin, and the partitions that enter RUN. Under a STOP no
partition enters RUN (R365). -/
def State.ticksBegin (s : State) (ended : List Nat) : State :=
  let s := ended.foldl State.tickBegin s
  if s.stopped then s
  else (List.range s.nPart).foldl (fun s p => s.restartStep p (s.tickno)) s

/-- The SUMMARY entries of the partitions that run no ticks of their own: a grid tick ends (R312, assumption 47). -/
def State.idleSummaries (s : State) : State :=
  ((List.range s.nPart).filter (fun p => !s.active p && !(s.prt p).events.isEmpty)).foldl State.summaries s

/-- What a grid tick boundary does, in the order of R50. -/
def State.gridTick (s : State) : State :=
  let n := if s.grid.begun then s.grid.tick + 1 else s.grid.tick
  let s := s.tickRecords.idleSummaries
  let s := { s with grid := { s.grid with begun := true, tick := n, slot := 0 } }
  let s := s.samplePoint.epochChange.tickMarks
  let r := (List.range s.nPart).foldl State.outcomeStep (s, [])
  let s := r.1.stopBoundary
  let s := (List.range s.nPart).foldl State.snapBoundary s
  let s := (s.ticksBegin r.2).resumesDue
  let s := (s.tickDoorbells.waitPolls true).utilRecord.graceCheck
  s.tickUsage.gauDue

/-- GRID_TICK_BOUNDARY (R50). -/
def execGridTickBoundary (s : State) : Host.Outcome State Fault Refusal :=
  if s.gridDue true then .next s.gridTick.settle else .next s

/-- GRID_SLOT_BOUNDARY (R30): polls of WAIT and the doorbells of fast-poll functions (R299, R306). -/
def execGridSlotBoundary (s : State) : Host.Outcome State Fault Refusal :=
  if s.gridDue false then
    let s := { s with grid := { s.grid with slot := s.grid.slot + 1 } }
    .next (s.slotDoorbells.waitPolls false).settle
  else .next s

end Sys2Proof.Machine
end

