-- ==== Sys2Proof/Machine/RegWrite.lean ====
section
/-! DEFINITION. Writes of the register window (R10 to R16, R443 to R447): who reaches an offset and when, the holding
registers, and what a write of each register does. Commands of a row of their own come here too, with their register's
offset. -/

namespace Sys2Proof.Machine

/-! ## Who reaches what (R290, R403, R411, R435, R444) -/

/-- How an access is answered: `dead` reads 0 or is ignored, `wait` waits for a wake. -/
inductive Access where
  | silent
  | denied
  | dead
  | wait
  | answered
  deriving DecidableEq, Repr

/-- The function that makes an access: the debug port acts as function 0 (R435, R444). -/
def accFn (a : Acc) : Nat := if a.dbg then 0 else a.func.toNat

/-- The debug port is closed on a production part (R435). -/
def State.dbgClosed (s : State) : Bool := s.flag R.pfmCfgId 13 && !s.flag R.pfmGauStatus 0

/-- Offsets that are answered in every power state (R411). -/
def alwaysOn (off : Nat) : Bool :=
  decide (off < 0x3000) || (decide (0xA0000 ≤ off) && decide (off < 0xA0018))
    || (decide (0xC0000 ≤ off) && decide (off < 0xC1800))

/-- The setup page of function f (R18). -/
def inPage (f off : Nat) : Bool := decide (0x100000 + 0x1000 * f ≤ off) && decide (off < 0x101000 + 0x1000 * f)

/-- A function other than 0 reaches its own setup page alone (R290). -/
def State.reaches (s : State) (f off : Nat) : Bool := f == 0 || (decide (f < s.nFunc) && inPage f off)

/-- How an access to `off` is answered. While PO_RST_N is asserted, nothing is (R428). -/
def State.regGate (s : State) (acc : Acc) (off : Nat) (write : Bool) : Access :=
  let f := accFn acc
  if s.rst.por then .silent
  else if acc.dbg && s.dbgClosed then .denied
  else if s.fld R.pfmState 1 0 = 2 then
    (if f = 0 ∧ (off < 0x100 ∨ (0x2000 ≤ off ∧ off < 0x3000)) then .answered else .dead)
  else if !s.up then (if f = 0 ∧ off < 0x3000 ∧ !write then .answered else .dead)
  else if !s.reaches f off then .dead
  else if s.rst.kst ≠ 0 ∧ !alwaysOn off then .wait
  else .answered

/-- The key of the holding registers that serve an access (R443, R446): those of who makes it, or for a view pair those of
the function that owns the page. -/
def holdKey (acc : Acc) (off : Nat) : Nat :=
  if 0x100000 ≤ off ∧ 0x200 ≤ off % 0x1000 then 2 * ((off - 0x100000) / 0x1000)
  else if acc.dbg then 1
  else 2 * acc.func.toNat

/-! ## Field types (R10, R13) -/

/-- Bits that Kyordol-C reserves in a register of both builds (R284, R447, 11 Kyordol-C). -/
def cReserved (off : Nat) : Nat :=
  if off = 0x76004 then 0xF00
  else if 0x60000 ≤ off ∧ off < 0x64000 ∧ (off % 16 = 0 ∨ off % 16 = 4) then 0xFFFFFF00
  else if off = R.obsHmask ∨ off = R.obsHalted ∨ (0xA0200 ≤ off ∧ off < 0xA0280) then 0xFFFFFF00
  else if 0x10000 ≤ off ∧ off < 0x12000 ∧ off % 256 = 0x34 then 0xC000
  else if 0x10000 ≤ off ∧ off < 0x12000 ∧ off % 256 = 0x38 then 0xFFFFFFFF
  else if 0x76100 ≤ off ∧ off < 0x76500 then (if off % 32 = 0 then 0xFFFF0000 else 0xFFFFFFFF)
  else if off = 0x76040 then 0xFFFF0000
  else 0

/-- The word a write of `v` leaves: RW bits are stored, W1C bits cleared by a 1, but for those that the block set in the
same kclk cycle (R12). -/
def mix (d : Desc) (fresh : W32) (old v : Nat) : Nat :=
  let o := BitVec.ofNat 32 old
  let w := BitVec.ofNat 32 v
  let rw := BitVec.ofNat 32 d.rw
  (((o &&& ~~~rw) &&& ~~~(w &&& BitVec.ofNat 32 d.w1c &&& ~~~fresh)) ||| (w &&& rw)).toNat

/-- Store a word by the types of its fields. -/
def State.plain (s : State) (off v : Nat) : State :=
  match descOf s.isC off with
  | some d => s.setReg off (mix d (s.freshBits off) (s.reg off) v)
  | none => s

/-- Store both words of a pair. -/
def State.plainPair (s : State) (off v : Nat) : State := (s.plain off (v % 2 ^ 32)).plain (off + 4) (v / 2 ^ 32)

/-- `v` with its field [hi:lo] as the register holds it, where `bad` says that the encoding is reserved (R13). -/
def State.keepFld (s : State) (off hi lo : Nat) (bad : Nat → Bool) (v : Nat) : Nat :=
  if bad (bits v hi lo) then setBits v hi lo (s.fld off hi lo) else v

/-- A locked setting of p (R292, R445): ignored and counted while p did not stand in STOPPED at the
start of the kclk cycle, else `t`. -/
def State.lockedBy (s : State) (p unit off : Nat) (t : State) : State := if s.wasLocked p then s.cfgLocked p unit off else t

/-- A setting that more than one partition may lock: counted in each that does. -/
def State.lockedByAny (s : State) (ps : List Nat) (unit off : Nat) (t : State) : State :=
  match ps.eraseDups.filter s.wasLocked with
  | [] => t
  | l => l.foldl (fun s p => s.cfgLocked p unit off) s

/-! ## Below 0x1_0000: identity, Gauge commands, power, resets, configuration -/

def State.pfmWrite (s : State) (acc : Acc) (off v : Nat) : State :=
  if off = R.pfmGauMark then s.gauMark v
  else if off = R.pfmPriv then s.privWrite v
  else if off = R.pfmPwrWake1 ∨ off = R.pfmPwrWake2 ∨ off = R.pfmPwrWake3 then
    (if v % 2 ^ 24 < resetNat off then s else s.plain off v)
  else if off = R.pfmRst then s.rstWrite acc v
  else if off = R.pfmScrubPeriod then (if v % 2 ^ 16 < 60 then s else s.plain off v)
  else if off = R.pfmCfgCtrl then
    let s := if v.testBit 0 then s.cfgCommit else s
    if v.testBit 1 then s.cfgReload else s
  else if off = R.pfmCfgDiv then (if v % 256 < 4 then s else s.plain off v)
  else s.plain off v

/-! ## 0x1_0000: the partition table (R98, R99, R289, R317) -/

def State.partWrite (s : State) (p o off v : Nat) : State :=
  if o = 0 then s.pctrl p (v % 4)
  else if 0x14 ≤ o ∧ o < 0x34 then s.lockedBy p 2 off (s.tapRangeJudge (s.plain off v) p ((o - 0x14) / 4))
  else if o = 0x54 then
    s.lockedBy p 2 off (s.plain off (s.keepFld off 23 16 (fun f => decide (s.nFunc ≤ f)) v))
  else if o < 0x80 then s.plain off v
  else
    let bad := (o == 0x84 && !(v % 32 == 0 || (decide (6 ≤ v % 32) && decide (v % 32 ≤ 16))))
      || (o == 0x90 && decide (v % 2 ^ 24 < 0x200000))
    let t := if bad then s else s.plain off v
    s.lockedBy p 3 off (if bad || o == 0xA4 || o == 0xA8 then t else s.allocJudge t p)

def State.partPair (s : State) (p o off v : Nat) : State :=
  if o = 0x08 then s.plainPair off v
  else if o = 0x34 then s.lockedBy p 2 (off + 4) (s.pumpJudge (s.plainPair off v) p)
  else if o = 0x88 then s.lockedBy p 3 (off + 4) (s.plainPair off v)
  else s.lockedBy p 2 (off + 4) (s.plainPair off v)

/-! ## 0x2_0000: the function table (R318) -/

def State.fnWrite (s : State) (f o off v : Nat) : State :=
  if o = 0 then
    let t := s.fcfgWrite f v
    if s.fEn f && !t.fEn f then t.raised 3 f else t
  else if o = 4 then s.fwaitWrite f v
  else s.plain off v

/-! ## 0x3_0000: Headgate and run-ahead engine (R54, R55, R129, R130, R216, R217) -/

def State.hgWrite (s : State) (off v : Nat) : State :=
  if off = R.hgCtrl then s.gridCtrl v
  else if off = R.hgTickFrac then
    (if s.gridWas then s.gridLocked else s.plain off (s.keepFld off 31 16 (fun d => d == 0) v))
  else if off = R.hgSlots ∨ off = R.hgMinSlot then (if s.gridWas then s.gridLocked else s.plain off v)
  else if off = R.raeCtrl then s.plain off (s.keepFld off 6 0 (fun d => d == 0 || decide (64 < d)) v)
  else if off < 0x30100 then s.plain off v
  else if off < 0x30800 then
    (if off % 32 < 8 then s.lockedBy ((off - 0x30100) / 32) 5 off (s.plain off v) else s.plain off v)
  else if off < 0x31000 then
    let p := (off - 0x30800) / 64
    let o := off % 64
    if o = 4 then s.lockedBy p 5 off (s.chanQuotaJudge (s.plain off v) p)
    else if o = 8 then
      s.lockedBy p 5 off (s.stageQuotaJudge (s.plain off (s.keepFld off 7 0 (fun u => decide (128 < u)) v)) p)
    else if o = 0xC then
      s.lockedBy p 5 off (s.plain off
        (s.keepFld off 4 0 (fun n => !(n == 0 || (decide (6 ≤ n) && decide (n ≤ 20)))) v))
    else s.plain off v
  else if off < 0x31200 then
    let p := (off - 0x31000) / 16
    if off % 16 = 0 then s.lockedBy p 5 off (s.creditJudge (s.plain off v) p)
    else if off % 16 = 4 then s.lockedBy p 5 off (s.creditJudge (s.plain off v) p)
    else s.plain off v
  else s.plain off v

def State.hgPair (s : State) (off v : Nat) : State :=
  if off = R.hgTickLen ∨ off = R.hgEpoch then (if s.gridWas then s.gridLocked else s.plainPair off v)
  else if off = R.hgCredClr then s.credClr (v % 2 ^ 20) (bits v 44 32)
  else if 0x30800 ≤ off ∧ off < 0x31000 ∧ off % 64 = 0x10 then
    s.lockedBy ((off - 0x30800) / 64) 5 (off + 4) (s.plainPair off v)
  else s

/-! ## 0x4_0000 to 0x6_FFFF: Standpipe, reductions, wells (R153, R157, R191, R230, R243) -/

/-- A delay register of logical tap t (R157). -/
def State.pbdWrite (s : State) (t off v : Nat) : State :=
  if s.nGood ≤ t then s
  else match s.tapOwner t with
    | some p => s.lockedBy p 7 off (s.plain off v)
    | none => s.plain off v

def State.spWrite (s : State) (off v : Nat) : State :=
  if 0x40100 ≤ off ∧ off < 0x40300 then s.fenceWrite ((off - 0x40100) / 4) v
  else if 0x48000 ≤ off ∧ off < 0x50000 then s.pbdWrite ((off - 0x48000) / 8) off v
  else if 0x51000 ≤ off then s.bmodeWrite ((off - 0x51000) / 4) v
  else s.plain off v

def State.welWrite (s : State) (off v : Nat) : State :=
  if off < 0x64000 then
    let g := (off - 0x60000) / 16
    let w := off % 16 / 4
    if w = 3 then (if v.testBit 0 then s.groupInit g else s)
    else if w = 2 then
      s.rightsWrite g w (s.keepFld off 7 0 (fun f => decide (s.nFunc ≤ f)) v - 2 ^ 30 * bits v 30 30)
    else s.rightsWrite g w v
  else if off = R.welRto then (if v % 2 ^ 16 = 0 then s else s.plain off v)
  else s.plain off v

/-! ## 0x7_0000: Culvert (R249, R279 to R283) -/

/-- CUL_PSNAP_CTRL (R278, R281): RSEL is stored, PEN is a locked setting, and a 1 in RESTORE restores the selected area,
which holds `area`. -/
def State.snapCtrl (s : State) (p off v : Nat) (area : List Byte) : State :=
  let s := s.setFld off 30 30 (bit (v.testBit 30))
  let s := if s.flag off 29 == v.testBit 29 then s else s.lockedBy p 9 off (s.setFld off 29 29 (bit (v.testBit 29)))
  if v.testBit 31 then s.restoreGo p area else s

/-- CUL_PSNAP_CTRL by a plain register write: what the area holds is not known (assumption 4). -/
def State.snapCtrlWord (s : State) (p off v : Nat) : State :=
  if v.testBit 31 then s.nextFree.snapCtrl p off v (Config.areaContent s.freeCtr) else s.snapCtrl p off v []

/-- A word of a fabric channel: a locked setting of PART, before the write and after it (R282). -/
def State.channelWrite (s : State) (c w off v : Nat) : State :=
  if w = 0 then
    let t := s.plain off (s.keepFld off 28 24 (fun p => decide (s.nPart ≤ p)) v)
    s.lockedByAny [s.fchPart c, t.fchPart c] 9 off (s.channelJudge t c)
  else if w = 3 then s
  else s.lockedBy (s.fchPart c) 9 off (s.plain off v)

/-- A word of a remote release entry (R283). -/
def State.remoteWrite (s : State) (e w off v : Nat) : State :=
  let part := fun (s : State) => s.fld (R.culRrtSrc e) 30 26
  if w = 0 then
    let t := s.plain off (s.keepFld off 30 26 (fun p => decide (s.nPart ≤ p)) v)
    s.lockedByAny [part s, part t] 9 off (s.remoteJudge t e)
  else if w = 3 then s
  else s.lockedBy (part s) 9 off (s.plain off v)

def State.culWrite (s : State) (off v : Nat) : State :=
  if off < 0x76000 then
    let k := (off - 0x70000) / 0x1000
    if off % 0x1000 = 0 then s.portConfig (s.plain off v) k else s.plain off v
  else if off = R.culTcfg then (s.plain off v).syncRecord s.insync
  else if off = R.culMcfg then s.plain off (s.keepFld off 3 0 (fun l => decide (l < 2)) v)
  else if off = R.culJoin then s.joinWrite v
  else if off < 0x76100 then s.plain off v
  else if off < 0x76500 then s.lockedBy ((off - 0x76100) / 32) 9 off (s.plain off v)
  else if off < 0x76900 then
    let p := (off - 0x76500) / 32
    if off % 32 = 0xC then s.lockedBy p 9 off (s.plain off v)
    else if off % 32 = 0x10 then s.snapCtrlWord p off v
    else s.plain off v
  else if off < 0x77000 then s
  else if off < 0x78000 then s.channelWrite ((off - 0x77000) / 16) (off % 16 / 4) off v
  else s.remoteWrite ((off - 0x78000) / 16) (off % 16 / 4) off v

def State.culPair (s : State) (off v : Nat) : State :=
  if 0x76500 ≤ off ∧ off < 0x76900 then
    (if off % 32 = 4 then s.lockedBy ((off - 0x76500) / 32) 9 (off + 4) (s.plainPair off v) else s)
  else if 0x76900 ≤ off ∧ off < 0x77000 then s.lockedBy ((off - 0x76900) / 32) 9 (off + 4) (s.plainPair off v)
  else s

/-! ## 0x8_0000: Pump (R325, R332, R339, R345, R346) -/

/-- PMP_CCFG: PRIO, FUNC and VEC are stored, then EN acts. A reserved channel ignores FUNC and a 0 in EN (R325). -/
def State.ccfgWrite (s : State) (c off v : Nat) : State :=
  let v' := if s.snapChan ≤ c then setBits v 23 16 (s.fld off 23 16)
    else s.keepFld off 23 16 (fun f => decide (s.nFunc ≤ f)) v
  let s := s.plain off (setBits v' 31 31 (s.fld off 31 31))
  if v.testBit 31 then s.chanEnable c else s.chanDisable c

def State.pmpWrite (s : State) (off v : Nat) : State :=
  if off < 0x84000 then
    let c := (off - 0x80000) / 256
    let o := off % 256
    if o = 0 then s.ccfgWrite c off v
    else if o = 4 then s.plain off (s.keepFld off 8 0 (fun n => n == 0 || decide (256 < n)) v)
    else if o = 0x1C then s.chanCmd c v
    else s.plain off v
  else if off = R.pmpCtrl then (if v.testBit 0 then s.pumpResume else s)
  else s.plain off v

/-- A HEAD word as the register stores it. -/
def headOf (v : Nat) : Nat := v % 2 ^ 48 / 32 * 32 + v % 2

def State.pmpPair (s : State) (off v : Nat) : State :=
  if off < 0x84000 ∧ off % 256 = 8 then s.headWrite ((off - 0x80000) / 256) (headOf v) else s

/-! ## 0xA_0000: observation (R28, R349, R352, R376) -/

/-- The partition that owns sump i, if one does. -/
def State.sumpOwner (s : State) (i : Nat) : List Nat :=
  if s.flag (R.obsScfg i) 28 then [s.fld (R.obsScfg i) 27 23] else []

/-- OBS_SCFG of sump i (R349). -/
def State.scfgWrite (s : State) (i off v : Nat) : State :=
  if i = 0 then s
  else
    let v := s.keepFld off 30 29 (fun k => k == 3) v
    let v := s.keepFld off 17 12 (fun n => decide (56 < n)) v
    let v := s.keepFld off 27 23 (fun p => decide (s.nPart ≤ p)) v
    let t := s.plain off v
    s.lockedByAny (s.sumpOwner i ++ t.sumpOwner i) 11 off (s.sumpJudge t i)

def State.obsWrite (s : State) (off v : Nat) : State :=
  if off = R.obsTbmode then
    (if s.gridWas then s.setFlag R.obsStatus 2 true else (s.plain off v).syncRecord s.insync)
  else if off = R.obsAoCfg then (if v % 2 ^ 16 = 0 then s else s.plain off v)
  else if off = R.obsHcmd then s.hcmd (v % 8)
  else if 0xA0400 ≤ off ∧ off < 0xA0600 then
    let i := (off - 0xA0400) / 32
    if off % 32 = 0 then s.scfgWrite i off v
    else if off % 32 = 0xC then
      s.lockedByAny (s.sumpOwner i) 11 off (s.plain off
        (s.keepFld off 4 0 (fun n => !(n == 0 || (decide (8 ≤ n) && decide (n ≤ 24)))) v))
    else s.plain off v
  else if 0xA0800 ≤ off ∧ off < 0xA0900 ∧ off % 32 = 0 then
    s.plain off (s.keepFld off 26 22 (fun p => decide (s.nPart ≤ p)) v)
  else if 0xA1000 ≤ off ∧ off < 0xA2000 then
    (if off % 16 = 0 then s.selWrite true off ((off - 0xA1000) / 16) v else s)
  else if 0xA4000 ≤ off then
    (if off % 16 = 0 then
      s.selWrite false off (0x1000 + (off - 0xA4000) / 16) v
     else s)
  else s.plain off v

def State.obsPair (s : State) (off v : Nat) : State :=
  if off = R.obsTbSet then s.tbLoad v
  else if 0xA0400 ≤ off ∧ off < 0xA0600 ∧ off % 32 = 4 then
    s.lockedByAny (s.sumpOwner ((off - 0xA0400) / 32)) 11 (off + 4) (s.plainPair off v)
  else s

/-! ## 0x10_0000: setup pages (R319, R326, R347, R377) -/

/-- The channel that the Pump window of page g acts on: one of the function's own partition (R326). -/
def State.viewChan (s : State) (g : Nat) : Option Nat :=
  let c := s.fld (R.pmpFsel g) 5 0
  if g ≠ 0 ∧ s.fEn g ∧ c < s.nChan ∧ s.chanPart c = some (s.fPart g) then some c else none

/-- The select register that the window of page g acts on (R377). -/
def State.viewSel (s : State) (g : Nat) : Option Nat :=
  if g ≠ 0 ∧ s.fEn g then some (R.obsPsel (s.fPart g) (s.fld (R.obsFcsel g) 5 0)) else none

/-- The sump that the window of page g acts on: one owned by the function's partition (R377). -/
def State.viewSump (s : State) (g : Nat) : Option Nat :=
  let i := s.fld (R.obsFssel g) 3 0
  if g ≠ 0 ∧ s.fEn g ∧ s.sumpOwner i = [s.fPart g] then some i else none

/-- DQ_CTRL.EN of page g. -/
def State.qEn (s : State) (g : Nat) : Bool := s.flag (R.dqCtrl g) 0
/-- DQ_CTRL.EN at the start of the kclk cycle (R445). -/
def State.qWas (s : State) (g : Nat) : Bool := s.atStart.qEn g

def State.pageWrite (s : State) (acc : Acc) (g o off v : Nat) : State :=
  if o = 0x18 then
    let bad := fun (n : Nat) => decide (n < 4) || decide (16 < n)
    if s.qWas g then s else s.plain off (s.keepFld off 20 16 bad (s.keepFld off 4 0 bad v))
  else if o = 0x1C then (if v.testBit 0 then s.queueOn g else s.queueOff g)
  else if o = 0x2C then s.vmaskSet g v
  else if o = 0x30 then s.plain off (v &&& s.vecMask g)
  else if o = 0x100 then s.kickIn g v
  else if o = 0x204 then (match s.viewChan g with | some c => s.chanCmd c v | none => s)
  else if o = 0x304 then
    (match s.viewSel g with
     | some r =>
       if accFn acc = 0 ∨ s.flag (R.pfmFcfg g) 30 then s.selWrite false r (0x1000 + (r - 0xA4000) / 16) v else s
     | none => s)
  else if o = 0x318 then (match s.viewSump g with | some i => s.setReg (R.obsScons i) v | none => s)
  else s.plain off v

def State.pagePair (s : State) (g o off v : Nat) : State :=
  if o < 0x18 then (if s.qWas g then s else s.plainPair off v)
  else if o = 0x208 then (match s.viewChan g with | some c => s.headWrite c (headOf v) | none => s)
  else s

/-! ## A write of one register or pair -/

/-- A write of a register that is no word of a pair. -/
def State.wordWrite (s : State) (acc : Acc) (off v : Nat) : State :=
  if off < 0x10000 then s.pfmWrite acc off v
  else if off < 0x20000 then s.partWrite ((off - 0x10000) / 256) (off % 256) off v
  else if off < 0x30000 then s.fnWrite ((off - 0x20000) / 64) (off % 64) off v
  else if off < 0x40000 then s.hgWrite off v
  else if off < 0x60000 then s.spWrite off v
  else if off < 0x70000 then s.welWrite off v
  else if off < 0x80000 then s.culWrite off v
  else if off < 0xA0000 then s.pmpWrite off v
  else if off < 0xC0000 then s.obsWrite off v
  else if off < 0x100000 then s
  else s.pageWrite acc ((off - 0x100000) / 4096) (off % 4096) off v

/-- A pair takes effect with all its 64 bits (R16). -/
def State.pairWrite (s : State) (off v : Nat) : State :=
  if off = R.pfmGauCfgw then s.gauCfgw (v % 2 ^ 32) (v / 2 ^ 32)
  else if off < 0x10000 then s
  else if off < 0x20000 then s.partPair ((off - 0x10000) / 256) (off % 256) off v
  else if off < 0x40000 then s.hgPair off v
  else if off < 0x80000 then s.culPair off v
  else if off < 0xA0000 then s.pmpPair off v
  else if off < 0xC0000 then s.obsPair off v
  else if off < 0x100000 then s
  else s.pagePair ((off - 0x100000) / 4096) (off % 4096) off v

/-- The holding register for writes (R443). -/
def State.setHeldWrite (s : State) (k : Nat) (w : Option (Nat × Nat)) : State :=
  { s with holds := tmod {} s.holds k (fun h => { h with wr := w }) }

/-- The _LO half that a _HI write commits (R443): the held write of that pair, else the half that the pair holds. -/
def State.loHalf (s : State) (k off : Nat) : Nat :=
  match (tget {} s.holds k).wr with
  | some (o, w) => if o = off then w else s.reg off
  | none => s.reg off

/-- A write that is answered (R10, R14, R16). Bits that the build reserves are not written. -/
def State.regStore (s : State) (acc : Acc) (off v : Nat) : State :=
  match descOf s.isC off with
  | none => s
  | some d =>
    let v := if s.isC then (BitVec.ofNat 32 v &&& ~~~(BitVec.ofNat 32 (cReserved off))).toNat else v % 2 ^ 32
    let k := holdKey acc off
    match d.pair with
    | .single => s.wordWrite acc off v
    | .lo => s.setHeldWrite k (some (off, v))
    | .hi => (s.setHeldWrite k none).pairWrite (off - 4) (s.loHalf k (off - 4) + v * 2 ^ 32)

/-- The block can hold an access until it wakes (R411). -/
def State.holdAccess (s : State) (i : Instr) : State :=
  { s with held := s.held ++ [i], rst := { s.rst with waking := true } }

/-- The kclk cycle in which an access takes effect: this one, or a new one (R452). -/
def State.crossing (s : State) (acc : Acc) : State := if acc.same then s else s.beginCycle

/-- A write of `off` by `acc`, with what follows from it in the same step. `i` is the command, which waits where the die
sleeps. An access that is not an aligned word is refused
(R14); any other is acknowledged once it has taken effect (R452). -/
def State.regWrite (s : State) (i : Instr) (acc : Acc) (off v : Nat) (word : Bool := true) :
    Host.Outcome State Fault Refusal :=
  match s.regGate acc off true with
  | .silent => .next s
  | .denied => .next (s.emit .dbgError)
  | .dead => .next (s.emit (if word then .regAck else .regError))
  | .wait => .next (if word then s.holdAccess i else s.emit .regError)
  | .answered => .next (if word then ((s.crossing acc).regStore acc off v).settle.emit .regAck else s.emit .regError)

end Sys2Proof.Machine
end

