-- ==== Sys2Proof/Machine/RegRead.lean ====
section
/-! DEFINITION. Reads of the register window (R10, R14, R15, R443, R444, R446): the words as they read, with the fields that
the block derives from its state, and the capture of a pair. -/

namespace Sys2Proof.Machine

/-- A field [hi:lo] as it reads, over a stored word. -/
def withFld (w hi lo v : Nat) : Nat := setBits w hi lo v

/-- The mask of the partitions that satisfy `f`. -/
def State.partMask (s : State) (f : PartRt → Bool) : Nat :=
  (List.range s.nPart).foldl (fun m p => m + bit (f (s.prt p)) * 2 ^ p) 0

/-- OBS_STOP_TICK: E of the STOP in force or pending (R376). -/
def State.stopTick (s : State) : Nat :=
  if s.stop.inForce then s.stop.e.toNat
  else match s.stop.pend.find? (fun x => !x.2.1) with
    | some x => x.1 % 2 ^ 48
    | none => 0

/-- OBS_DUMP_STATUS. -/
def State.dumpMask (s : State) : Nat :=
  (List.range 16).foldl (fun m d => m + bit (tget none s.obs.dumps d).isSome * 2 ^ d) 0

/-- Both words of a pair that holds no word of its own: `off` is its _LO. -/
def State.livePair (s : State) (off : Nat) : Option Nat :=
  if off = R.hgTickno then some s.tickno
  else if off = R.obsTb then some (s.clk.tb.toNat / 2 ^ 24)
  else if off = R.obsStopTick then some s.stopTick
  else if 0x30800 ≤ off ∧ off < 0x31000 then
    match (s.prt ((off - 0x30800) / 64)).tbl with
    | some (t, n0) => if off % 64 = 0x24 then some t.base else if off % 64 = 0x30 then some n0 else none
    | none => none
  else if 0xA1000 ≤ off ∧ off < 0xA2000 then some (tget 0 s.obs.cnt ((off - 0xA1000) / 16))
  else if 0xA4000 ≤ off ∧ off < 0xAC000 then some (tget 0 s.obs.cnt (0x1000 + (off - 0xA4000) / 16))
  else if off < 0x100000 then none
  else
    let g := (off - 0x100000) / 4096
    if off % 4096 = 0x218 then (s.viewChan g).map (fun c => s.pair (R.pmpCcur c))
    else if off % 4096 = 0x308 then (s.viewSel g).map (fun r => tget 0 s.obs.cnt (0x1000 + (r - 0xA4000) / 16))
    else none

/-- A word below 0x1_0000. -/
def State.pfmRead (s : State) (off w : Nat) : Nat :=
  if off = R.pfmBuild then withFld w 31 16 (if s.isC then 2 else 1)
  else if off = R.pfmGauStatus then withFld w 4 4 (bit (s.glink.flight.isSome || !s.glink.queue.isEmpty))
  else if off = R.pfmPwrStatus then s.rst.kst % 4 + bit s.rst.waking * 4
  else if 0x1018 ≤ off ∧ off < 0x1024 then s.residence ((off - 0x1014) / 4) % 2 ^ 32
  else if off = R.pfmRstStatus then withFld w 0 0 (bit s.rstBusy)
  else if off = R.pfmCfgStatus then withFld w 0 0 (bit s.cfgBusy)
  else w

/-- A word of the Headgate's registers. -/
def State.hgRead (s : State) (off w : Nat) : Nat :=
  if off = R.hgStatus then withFld w 0 0 (bit s.grid.running)
  else if off = R.hgSlotno then s.grid.slot % 2 ^ 16
  else if off = R.raeStatus then bit ((List.range s.nPart).any (fun p => (s.prt p).load.isSome || !(s.prt p).reads.isEmpty))
  else if off = R.hgRelStatus then s.pipe.ctxs.length % 2 ^ 13 * 2 ^ 16 + s.pipe.notices.length % 2 ^ 11
  else if off = R.hgUndStatus then withFld w 11 0 s.pipe.und.length
  else if 0x30800 ≤ off ∧ off < 0x31000 then
    let x := s.prt ((off - 0x30800) / 64)
    if off % 64 = 0 then
      withFld w 4 0 (bit x.halted * 16 + bit x.next.isSome * 8 + bit x.load.isSome * 4 + bit x.tblSel * 2 + bit x.tbl.isSome)
    else if off % 64 = 0x2C then
      match x.tbl with
      | some (t, n0) => t.ntick % 2 ^ 16 * 2 ^ 16 + (x.tick.toNat - n0) % t.ntick % 2 ^ 16
      | none => 0
    else w
  else if 0x31000 ≤ off ∧ off < 0x31200 ∧ off % 16 = 8 then withFld w 31 16 (s.grantBound ((off - 0x31000) / 16))
  else w

/-- A word of the observation registers. -/
def State.obsRead (s : State) (off w : Nat) : Nat :=
  if off = R.obsTbStatus then
    s.offs % 2 ^ 16 * 2 ^ 16 + bit s.insync * 4 + bit s.slewing * 2 + bit (s.reg R.obsTbInc != 0)
  else if off = R.obsStatus then withFld w 1 0 (bit s.stop.cut * 2 + bit s.stop.inForce)
  else if off = R.obsHalted then s.partMask (fun x => x.halted)
  else if off = R.obsDumpStatus then s.dumpMask
  else if 0xA0400 ≤ off ∧ off < 0xA0600 ∧ off % 32 = 0x1C then
    let i := (off - 0xA0400) / 32
    let n := s.fld (R.obsSrsize i) 4 0
    bit (n != 0 && (s.reg (R.obsSprod i) + 2 ^ 32 - s.reg (R.obsScons i)) % 2 ^ 32 == 2 ^ n) * 2
      + bit (s.fld (R.obsScfg i) 17 12 != 0 && !s.sumpRoom i)
  else w

/-- A word of a setup page (R319, R347, R377). -/
def State.pageRead (s : State) (g o w : Nat) : Nat :=
  let x := s.fn g
  if o = 0x20 then s.fld (R.pfmFstate g) 15 8 * 2 ^ 24 + bit x.idle * 4 + s.fld (R.pfmFstate g) 1 0
  else if o = 0x24 then x.cmdProd.toNat * 2 ^ 16 + x.cmdCons.toNat
  else if o = 0x28 then x.cplCons.toNat * 2 ^ 16 + x.cplProd.toNat % 2 ^ 16
  else if o = 0x2C ∨ o = 0x30 then w &&& s.vecMask g
  else if o = 0x38 then x.waits.length % 2 ^ 11
  else if o = 0x210 then
    (match s.viewChan g with
     | some c => withFld (s.reg (R.pmpCstatus c)) 28 25 (bit (s.chan c).quiet * 8)
     | none => 0)
  else if o = 0x214 then (match s.viewChan g with | some c => s.reg (R.pmpCcnt c) | none => 0)
  else if o = 0x304 then (match s.viewSel g with | some r => s.reg r % 2 ^ 31 | none => 0)
  else if o = 0x314 then (match s.viewSump g with | some i => s.reg (R.obsSprod i) | none => 0)
  else if o = 0x318 then (match s.viewSump g with | some i => s.reg (R.obsScons i) | none => 0)
  else w

/-- Work of a reserved channel that is not complete: its internal descriptors, one for each read or write (R325, assumption 51). -/
def State.reservedWork (s : State) (c : Nat) : Nat := if c = s.snapChan ∨ c = s.sumpChan then (s.chan c).work.length else 0

/-- A channel register (R325, R345): a reserved channel is ACTIVE while it has work, and CNT counts it. -/
def State.chanRead (s : State) (off w : Nat) : Nat :=
  let c := (off - 0x80000) / 256
  let n := s.reservedWork c
  if off % 256 = 0x20 then
    withFld (if n ≠ 0 ∧ s.cstate c ≠ 4 then withFld w 31 29 2 else w) 28 28 (bit (s.chan c).quiet)
  else if off % 256 = 0x18 ∧ n ≠ 0 then withFld w 15 0 (min n 0xFFFF)
  else w

/-- A word that is no word of a pair without a store, as it reads; `w` is the stored word. -/
def State.liveWord (s : State) (off w : Nat) : Nat :=
  if off < 0x10000 then s.pfmRead off w
  else if off < 0x20000 then
    (if off % 256 = 4 then withFld w 7 7 (bit (s.waiting ((off - 0x10000) / 256)))
     else if off % 256 = 0xA8 then withFld w 2 2 (bit (s.cst.initd.any (fun e => e.1 == (off - 0x10000) / 256))) else w)
  else if off < 0x30000 then w
  else if off < 0x40000 then s.hgRead off w
  else if off = R.welStatus then
    withFld w 4 3 (bit (s.wel.pass.isSome || !s.wel.pend.isEmpty) * 2 + bit (!s.wel.notices.isEmpty))
  else if off = R.culEpoch then withFld w 16 16 (bit (!s.cul.seen.isEmpty))
  else if off < 0x80000 then w
  else if off < 0x84000 then s.chanRead off w
  else if off = R.pmpStatus then withFld w 2 2 (bit (s.pump.chans.all (fun e => e.2.quiet)))
  else if off < 0xA0000 then w
  else if off < 0x100000 then s.obsRead off w
  else s.pageRead ((off - 0x100000) / 4096) (off % 4096) w

/-- The word that a read of `off` returns, the live half for a word of a pair (R10, R14). -/
def State.wordRead (s : State) (off : Nat) : Nat :=
  match descOf s.isC off with
  | none => 0
  | some d =>
    let w := match d.pair with
      | .single => s.liveWord off (s.reg off)
      | .lo => (match s.livePair off with | some v => v % 2 ^ 32 | none => s.reg off)
      | .hi => (match s.livePair (off - 4) with | some v => v / 2 ^ 32 % 2 ^ 32 | none => s.reg off)
    if s.isC then (BitVec.ofNat 32 w &&& ~~~(BitVec.ofNat 32 (cReserved off))).toNat else w

/-- The holding register for captures (R443). -/
def State.setCapture (s : State) (k : Nat) (c : Option (Nat × Nat)) : State :=
  { s with holds := tmod {} s.holds k (fun h => { h with cap := c }) }

/-- A read that is answered, with the captures of R15 and R443: a read of a _LO word captures its pair, a read of its _HI
word uses the capture up. The words are those of the start of the kclk cycle (R452). -/
def State.regRead (s : State) (acc : Acc) (off : Nat) : State × Nat :=
  let k := holdKey acc off
  let v := s.atStart
  match descOf s.isC off with
  | none => (s, 0)
  | some d =>
    match d.pair with
    | .single => (s, v.wordRead off)
    | .lo => (s.setCapture k (some (off, v.wordRead (off + 4))), v.wordRead off)
    | .hi =>
      match (tget {} s.holds k).cap with
      | some (o, w) => if o + 4 = off then (s.setCapture k none, w) else (s, v.wordRead off)
      | none => (s, v.wordRead off)

/-- A read of `off` by `acc`, answered with its word. `i` is the command, which waits where the die sleeps. An access that is
not an aligned word is refused (R14). -/
def State.readAccess (s : State) (i : Instr) (acc : Acc) (off : Nat) (word : Bool) : Host.Outcome State Fault Refusal :=
  if !word then .next (if s.rst.por then s else if acc.dbg && s.dbgClosed then s.emit .dbgError else s.emit .regError)
  else match s.regGate acc off false with
    | .silent => .next s
    | .denied => .next (s.emit .dbgError)
    | .dead => .next (s.emit (.regData 0))
    | .wait => .next (s.holdAccess i)
    | .answered =>
      let r := (s.crossing acc).regRead acc off
      .next (r.1.emit (.regData (BitVec.ofNat 32 r.2)))

end Sys2Proof.Machine
end

