-- ==== Sys2Proof/Machine/RegRows.lean ====
section
/-! DEFINITION. The commands that are accesses of the register window: each writes its own register with its own word
(chapter 15), or reads it. -/

namespace Sys2Proof.Machine

/-- TB_LOAD (R24): a write of OBS_TB_SET_HI. -/
def execTbLoad (acc : Acc) (val : W32) (s : State) : Host.Outcome State Fault Refusal :=
  s.regWrite (.tbLoad acc val) acc (R.obsTbSet + 4) val.toNat

/-- GRID_START (R33): a write of 1 to HG_CTRL.EN. -/
def execGridStart (acc : Acc) (val : W32) (s : State) : Host.Outcome State Fault Refusal :=
  s.regWrite (.gridStart acc val) acc R.hgCtrl val.toNat

/-- GRID_STOP (R34): a write of 0 to HG_CTRL.EN. -/
def execGridStop (acc : Acc) (val : W32) (s : State) : Host.Outcome State Fault Refusal :=
  s.regWrite (.gridStop acc val) acc R.hgCtrl val.toNat

/-- CST_ALLOCATION_WRITE (R99): a write of an allocation register of p. -/
def execCstAllocationWrite (acc : Acc) (p : BitVec 5) (off : BitVec 8) (val : W32) (s : State) :
    Host.Outcome State Fault Refusal :=
  s.regWrite (.cstAllocationWrite acc p off val) acc (R.pfmPctrl p.toNat + off.toNat) val.toNat

/-- SP_FENCE_WRITE (R153): a write of SP_FENCEw. -/
def execSpFenceWrite (acc : Acc) (w : BitVec 7) (val : W32) (s : State) : Host.Outcome State Fault Refusal :=
  s.regWrite (.spFenceWrite acc w val) acc (R.spFence w.toNat) val.toNat

/-- SP_BMODE_WRITE (R191): a write of SP_BMODEk. -/
def execSpBmodeWrite (acc : Acc) (k : BitVec 9) (val : W32) (s : State) : Host.Outcome State Fault Refusal :=
  s.regWrite (.spBmodeWrite acc k val) acc (R.spBmode k.toNat) val.toNat

/-- HG_CRED_CLR (R209): a write of HG_CRED_CLR_HI. -/
def execHgCredClr (acc : Acc) (val : W32) (s : State) : Host.Outcome State Fault Refusal :=
  s.regWrite (.hgCredClr acc val) acc (R.hgCredClr + 4) val.toNat

/-- CREDIT_WINDOW_WRITE (R216): a write of HG_PCRED_FIRST or HG_PCRED_UNITS of p. -/
def execCreditWindowWrite (acc : Acc) (p : BitVec 5) (units : Bool) (val : W32) (s : State) :
    Host.Outcome State Fault Refusal :=
  s.regWrite (.creditWindowWrite acc p units val) acc
    (if units then R.hgPcredUnits p.toNat else R.hgPcredFirst p.toNat) val.toNat

/-- HG_QUOTA_WRITE (R130): a write of HG_PCHAN or HG_PSTAGE of p. -/
def execHgQuotaWrite (acc : Acc) (p : BitVec 5) (stage : Bool) (val : W32) (s : State) :
    Host.Outcome State Fault Refusal :=
  s.regWrite (.hgQuotaWrite acc p stage val) acc (if stage then R.hgPstage p.toNat else R.hgPchan p.toNat) val.toNat

/-- WELL_RIGHTS_WRITE (R230): a write of a word of a group's rights record. -/
def execWellRightsWrite (acc : Acc) (g : BitVec 10) (word : BitVec 2) (val : W32) (s : State) :
    Host.Outcome State Fault Refusal :=
  s.regWrite (.wellRightsWrite acc g word val) acc (R.welGacq g.toNat + 4 * word.toNat) val.toNat

/-- GROUP_INITIALISATION (R243): a write of 1 to WEL_GSTAT.INIT. -/
def execGroupInitialisation (acc : Acc) (g : BitVec 10) (s : State) : Host.Outcome State Fault Refusal :=
  s.regWrite (.groupInitialisation acc g) acc (R.welGstat g.toNat) 1

/-- CUL_JOIN (R271): a write of CUL_JOIN. -/
def execCulJoin (acc : Acc) (val : W32) (s : State) : Host.Outcome State Fault Refusal :=
  s.regWrite (.culJoin acc val) acc R.culJoin val.toNat

/-- FABRIC_CHANNEL_WRITE (R282): a write of a word of fabric channel n. -/
def execFabricChannelWrite (acc : Acc) (n : BitVec 6) (word : BitVec 2) (val : W32) (s : State) :
    Host.Outcome State Fault Refusal :=
  s.regWrite (.fabricChannelWrite acc n word val) acc (R.culFchCfg n.toNat + 4 * word.toNat) val.toNat

/-- REMOTE_RELEASE_WRITE (R283): a write of a word of remote release entry e. -/
def execRemoteReleaseWrite (acc : Acc) (e : BitVec 10) (word : BitVec 2) (val : W32) (s : State) :
    Host.Outcome State Fault Refusal :=
  s.regWrite (.remoteReleaseWrite acc e word val) acc (R.culRrtSrc e.toNat + 4 * word.toNat) val.toNat

/-- PARTITION_START (R291): CMD START. -/
def execPartitionStart (acc : Acc) (p : BitVec 5) (s : State) : Host.Outcome State Fault Refusal :=
  s.regWrite (.partitionStart acc p) acc (R.pfmPctrl p.toNat) 1

/-- PARTITION_QUIESCE (R291): CMD QUIESCE. -/
def execPartitionQuiesce (acc : Acc) (p : BitVec 5) (s : State) : Host.Outcome State Fault Refusal :=
  s.regWrite (.partitionQuiesce acc p) acc (R.pfmPctrl p.toNat) 2

/-- PARTITION_ABORT (R291): CMD ABORT. -/
def execPartitionAbort (acc : Acc) (p : BitVec 5) (s : State) : Host.Outcome State Fault Refusal :=
  s.regWrite (.partitionAbort acc p) acc (R.pfmPctrl p.toNat) 3

/-- PARTITION_RESOURCE_WRITE (R289): a write of a resource register of p. -/
def execPartitionResourceWrite (acc : Acc) (p : BitVec 5) (off : BitVec 8) (val : W32) (s : State) :
    Host.Outcome State Fault Refusal :=
  s.regWrite (.partitionResourceWrite acc p off val) acc (R.pfmPctrl p.toNat + off.toNat) val.toNat

/-- FUNCTION_CONFIG_WRITE (R318): a write of PFM_FCFG or PFM_FWAIT of f. -/
def execFunctionConfigWrite (acc : Acc) (f : BitVec 8) (wait : Bool) (val : W32) (s : State) :
    Host.Outcome State Fault Refusal :=
  s.regWrite (.functionConfigWrite acc f wait val) acc
    (if wait then R.pfmFwait f.toNat else R.pfmFcfg f.toNat) val.toNat

/-- DQ_KICK (R300): a write of DQ_KICK in page f. -/
def execDqKick (acc : Acc) (f : BitVec 8) (val : W32) (s : State) : Host.Outcome State Fault Refusal :=
  s.regWrite (.dqKick acc f val) acc (R.dqKick f.toNat) val.toNat

/-- VMASK_WRITE (R314): a write of DQ_VMASK in page f. -/
def execVmaskWrite (acc : Acc) (f : BitVec 8) (val : W32) (s : State) : Host.Outcome State Fault Refusal :=
  s.regWrite (.vmaskWrite acc f val) acc (R.dqVmask f.toNat) val.toNat

/-- QUEUE_ENABLE (R316): a write of 1 to DQ_CTRL.EN in page f. -/
def execQueueEnable (acc : Acc) (f : BitVec 8) (s : State) : Host.Outcome State Fault Refusal :=
  s.regWrite (.queueEnable acc f) acc (R.dqCtrl f.toNat) 1

/-- QUEUE_DISABLE (R316): a write of 0 to DQ_CTRL.EN in page f. -/
def execQueueDisable (acc : Acc) (f : BitVec 8) (s : State) : Host.Outcome State Fault Refusal :=
  s.regWrite (.queueDisable acc f) acc (R.dqCtrl f.toNat) 0

/-- CHANNEL_ENABLE (R332): a write of PMP_CCFG of c with EN 1. -/
def execChannelEnable (acc : Acc) (c : BitVec 6) (val : W32) (s : State) : Host.Outcome State Fault Refusal :=
  s.regWrite (.channelEnable acc c val) acc (R.pmpCcfg c.toNat) val.toNat

/-- CHANNEL_DISABLE (R332): a write of PMP_CCFG of c with EN 0. -/
def execChannelDisable (acc : Acc) (c : BitVec 6) (val : W32) (s : State) : Host.Outcome State Fault Refusal :=
  s.regWrite (.channelDisable acc c val) acc (R.pmpCcfg c.toNat) val.toNat

/-- PUMP_RESUME (R343): a write of 1 to PMP_CTRL.RESUME. -/
def execPumpResume (acc : Acc) (s : State) : Host.Outcome State Fault Refusal :=
  s.regWrite (.pumpResume acc) acc R.pmpCtrl 1

/-- SUMP_CONFIG_WRITE (R349): a write of OBS_SCFG. -/
def execSumpConfigWrite (acc : Acc) (sump : BitVec 4) (val : W32) (s : State) : Host.Outcome State Fault Refusal :=
  s.regWrite (.sumpConfigWrite acc sump val) acc (R.obsScfg sump.toNat) val.toNat

/-- COUNTER_CLEAR (R376): a write of a select register with CLR. -/
def execCounterClear (acc : Acc) (glob : Bool) (p : BitVec 5) (i : BitVec 8) (val : W32) (s : State) :
    Host.Outcome State Fault Refusal :=
  s.regWrite (.counterClear acc glob p i val) acc
    (if glob then R.obsGsel i.toNat else R.obsPsel p.toNat (i.toNat % 64)) val.toNat

/-- HALT_COMMAND (R360): HALT written to OBS_HCMD. -/
def execHaltCommand (acc : Acc) (s : State) : Host.Outcome State Fault Refusal :=
  s.regWrite (.haltCommand acc) acc R.obsHcmd 1

/-- RESUME_COMMAND (R363): RESUME written to OBS_HCMD. -/
def execResumeCommand (acc : Acc) (s : State) : Host.Outcome State Fault Refusal :=
  s.regWrite (.resumeCommand acc) acc R.obsHcmd 2

/-- STOP (R364): STOP written to OBS_HCMD. -/
def execStop (acc : Acc) (s : State) : Host.Outcome State Fault Refusal :=
  s.regWrite (.stop acc) acc R.obsHcmd 3

/-- START (R364): START written to OBS_HCMD. -/
def execStart (acc : Acc) (s : State) : Host.Outcome State Fault Refusal :=
  s.regWrite (.start acc) acc R.obsHcmd 4

/-- PFM_GAU_MARK (R385): a write of PFM_GAU_MARK. -/
def execPfmGauMark (acc : Acc) (val : W32) (s : State) : Host.Outcome State Fault Refusal :=
  s.regWrite (.pfmGauMark acc val) acc R.pfmGauMark val.toNat

/-- PFM_GAU_CFGW (R391): a write of PFM_GAU_CFGW_HI. -/
def execPfmGauCfgw (acc : Acc) (val : W32) (s : State) : Host.Outcome State Fault Refusal :=
  s.regWrite (.pfmGauCfgw acc val) acc (R.pfmGauCfgw + 4) val.toNat

/-- DBG_UNLOCK (R393): a write of PFM_PRIV.DBG_UNLOCK. -/
def execDbgUnlock (acc : Acc) (s : State) : Host.Outcome State Fault Refusal :=
  s.regWrite (.dbgUnlock acc) acc R.pfmPriv 1

/-- DBG_LOCK (R393): a write of PFM_PRIV.DBG_LOCK, with DBG_UNLOCK or without. -/
def execDbgLock (acc : Acc) (both : Bool) (s : State) : Host.Outcome State Fault Refusal :=
  s.regWrite (.dbgLock acc both) acc R.pfmPriv (2 + bit both)

/-- PARTITION_RESET (R414): KIND 2 written to PFM_RST. -/
def execPartitionReset (acc : Acc) (p : BitVec 5) (s : State) : Host.Outcome State Fault Refusal :=
  s.regWrite (.partitionReset acc p) acc R.pfmRst (2 * 2 ^ 28 + p.toNat)

/-- CULVERT_PORT_RESET (R417): KIND 5 written to PFM_RST. -/
def execCulvertPortReset (acc : Acc) (port : BitVec 3) (s : State) : Host.Outcome State Fault Refusal :=
  s.regWrite (.culvertPortReset acc port) acc R.pfmRst (5 * 2 ^ 28 + port.toNat)

/-- PUMP_CHANNEL_RESET (R418): KIND 6 written to PFM_RST. -/
def execPumpChannelReset (acc : Acc) (c : BitVec 6) (s : State) : Host.Outcome State Fault Refusal :=
  s.regWrite (.pumpChannelReset acc c) acc R.pfmRst (6 * 2 ^ 28 + c.toNat)

/-- COMMIT (R406): COMMIT written to PFM_CFG_CTRL. -/
def execCommit (acc : Acc) (s : State) : Host.Outcome State Fault Refusal :=
  s.regWrite (.commit acc) acc R.pfmCfgCtrl 1

/-- RELOAD (R406): RELOAD written to PFM_CFG_CTRL. -/
def execReload (acc : Acc) (s : State) : Host.Outcome State Fault Refusal :=
  s.regWrite (.reload acc) acc R.pfmCfgCtrl 2

/-- An offset of the Pump window that the accessing function's own page has, while its selector names channel c; else the
channel's own register (R326, R345, R347). -/
def State.chanAccess (s : State) (i : Instr) (acc : Acc) (win : Bool) (c page own v : Nat) :
    Host.Outcome State Fault Refusal :=
  if !win then s.regWrite i acc own v
  else if s.fld (R.pmpFsel (accFn acc)) 5 0 = c then s.regWrite i acc page v
  else .next s

/-- HEAD_WRITE (R332): a write of the _HI word of PMP_CHEAD, or of PMP_FHEAD in the window. -/
def execHeadWrite (acc : Acc) (win : Bool) (c : BitVec 6) (val : W32) (s : State) : Host.Outcome State Fault Refusal :=
  s.chanAccess (.headWrite acc win c val) acc win c.toNat (R.pmpFhead (accFn acc) + 4) (R.pmpChead c.toNat + 4) val.toNat

/-- ADD (R332): CMD ADD n. -/
def execAdd (acc : Acc) (win : Bool) (c : BitVec 6) (n : BitVec 16) (s : State) : Host.Outcome State Fault Refusal :=
  s.chanAccess (.add acc win c n) acc win c.toNat (R.pmpFcmd (accFn acc)) (R.pmpCcmd c.toNat) (2 ^ 30 + n.toNat)

/-- ABORT (R338): CMD ABORT. -/
def execAbort (acc : Acc) (win : Bool) (c : BitVec 6) (s : State) : Host.Outcome State Fault Refusal :=
  s.chanAccess (.abort acc win c) acc win c.toNat (R.pmpFcmd (accFn acc)) (R.pmpCcmd c.toNat) (2 ^ 31)

/-- RESTORE (R278): a write of 1 to CUL_PSNAP_CTRL.RESTORE. -/
def execRestore (acc : Acc) (p : BitVec 5) (area : RestoreWord) (s : State) : Host.Outcome State Fault Refusal :=
  let off := R.culPsnapCtrl p.toNat
  match s.regGate acc off true with
  | .silent => .next s
  | .denied => .next (s.emit .dbgError)
  | .dead => .next (s.emit .regAck)
  | .wait => .next (s.holdAccess (.restore acc p area))
  | .answered =>
    let t := s.crossing acc
    let v := 2 ^ 31 + bit area.rsel * 2 ^ 30 + bit area.pen * 2 ^ 29
    .next ((if p.toNat < s.nPart then t.snapCtrl p.toNat off v area.area else t).settle.emit .regAck)

/-- BLOCK_RESET (R413): the pin falls, or KIND 1 is written to PFM_RST. -/
def execBlockReset (src : ResetSrc) (s : State) : Host.Outcome State Fault Refusal :=
  match src with
  | .pin => .next s.blockPin
  | .write acc => s.regWrite (.blockReset src) acc R.pfmRst (2 ^ 28)

/-- FUNCTION_RESET (R415): a function-level reset of the host endpoint, or KIND 3 written to PFM_RST. -/
def execFunctionReset (src : ResetSrc) (f : BitVec 8) (s : State) : Host.Outcome State Fault Refusal :=
  match src with
  | .pin => .next (s.flr f.toNat)
  | .write acc => s.regWrite (.functionReset src f) acc R.pfmRst (3 * 2 ^ 28 + f.toNat)

/-- TAP_RESET (R416): TAP_RST_N of a physical tap falls, or KIND 4 is written to PFM_RST with a logical tap. -/
def execTapReset (src : ResetSrc) (tap : BitVec 12) (s : State) : Host.Outcome State Fault Refusal :=
  match src with
  | .pin => .next (s.tapPin tap.toNat)
  | .write acc => s.regWrite (.tapReset src tap) acc R.pfmRst (4 * 2 ^ 28 + tap.toNat)

/-- REGISTER_WRITE (R10): any register; `size` is the base-2 logarithm of the bytes of the access, 2 for a word (R14). -/
def execRegisterWrite (acc : Acc) (off : BitVec 21) (size : BitVec 2) (val : W32) (s : State) :
    Host.Outcome State Fault Refusal :=
  s.regWrite (.registerWrite acc off size val) acc off.toNat val.toNat (size == 2 && off.toNat % 4 == 0)

/-- LO_READ_CAPTURE (R15): a read of a _LO word; of another offset, a read of it. -/
def execLoReadCapture (acc : Acc) (off : ReadAddr) (s : State) : Host.Outcome State Fault Refusal :=
  s.readAccess (.loReadCapture acc off) acc off.off.toNat (off.size == 2 && off.off.toNat % 4 == 0)

end Sys2Proof.Machine
end

