-- ==== Sys2Proof/Machine/Dispatch.lean ====
section
/-! DEFINITION. Which meaning runs for which command: one arm per constructor. -/

namespace Sys2Proof.Machine

def exec (i : Instr) (s : State) : Host.Outcome State Fault Refusal :=
  match i with
  | .gridTickBoundary => Sys2Proof.Machine.execGridTickBoundary s
  | .gridSlotBoundary => Sys2Proof.Machine.execGridSlotBoundary s
  | .partitionSlotBoundary p => Sys2Proof.Machine.execPartitionSlotBoundary p s
  | .tbLoad acc val => Sys2Proof.Machine.execTbLoad acc val s
  | .gridStart acc val => Sys2Proof.Machine.execGridStart acc val s
  | .gridStop acc val => Sys2Proof.Machine.execGridStop acc val s
  | .tickMark port => Sys2Proof.Machine.execTickMark port s
  | .tickMarkWatchdogExpiry port => Sys2Proof.Machine.execTickMarkWatchdogExpiry port s
  | .stretchCapExpiry p => Sys2Proof.Machine.execStretchCapExpiry p s
  | .fctl port => Sys2Proof.Machine.execFctl port s
  | .timeRequestTimer => Sys2Proof.Machine.execTimeRequestTimer s
  | .timeRequest port => Sys2Proof.Machine.execTimeRequest port s
  | .timeAnswer port => Sys2Proof.Machine.execTimeAnswer port s
  | .arrive q => Sys2Proof.Machine.execArrive q s
  | .arriveN q => Sys2Proof.Machine.execArriveN q s
  | .postCount q => Sys2Proof.Machine.execPostCount q s
  | .reduceInto q pay => Sys2Proof.Machine.execReduceInto q pay s
  | .creditReturn q => Sys2Proof.Machine.execCreditReturn q s
  | .poll q => Sys2Proof.Machine.execPoll q s
  | .pollWindowClose cnum => Sys2Proof.Machine.execPollWindowClose cnum s
  | .arm q => Sys2Proof.Machine.execArm q s
  | .clear q => Sys2Proof.Machine.execClear q s
  | .fence q => Sys2Proof.Machine.execFence q s
  | .unfence q => Sys2Proof.Machine.execUnfence q s
  | .read q => Sys2Proof.Machine.execRead q s
  | .semAdd q => Sys2Proof.Machine.execSemAdd q s
  | .testAndSet q => Sys2Proof.Machine.execTestAndSet q s
  | .cas q => Sys2Proof.Machine.execCas q s
  | .swap q => Sys2Proof.Machine.execSwap q s
  | .incSat q => Sys2Proof.Machine.execIncSat q s
  | .maxInto q => Sys2Proof.Machine.execMaxInto q s
  | .minInto q => Sys2Proof.Machine.execMinInto q s
  | .spillwayFillDone cnum image resp => Sys2Proof.Machine.execSpillwayFillDone cnum image resp s
  | .spillwayWriteBackDone frame resp => Sys2Proof.Machine.execSpillwayWriteBackDone frame resp s
  | .spillMissTimeout cnum => Sys2Proof.Machine.execSpillMissTimeout cnum s
  | .cstAllocationWrite acc p off val => Sys2Proof.Machine.execCstAllocationWrite acc p off val s
  | .allocationInitDone p => Sys2Proof.Machine.execAllocationInitDone p s
  | .scrubWordDue bank => Sys2Proof.Machine.execScrubWordDue bank s
  | .scrubRead bank => Sys2Proof.Machine.execScrubRead bank s
  | .scrubPeriodEnd => Sys2Proof.Machine.execScrubPeriodEnd s
  | .schedLoad f => Sys2Proof.Machine.execSchedLoad f s
  | .imageLoadDone p image err => Sys2Proof.Machine.execImageLoadDone p image err s
  | .rowStaging p => Sys2Proof.Machine.execRowStaging p s
  | .rowReadDone p row resp => Sys2Proof.Machine.execRowReadDone p row resp s
  | .swapStrobe p => Sys2Proof.Machine.execSwapStrobe p s
  | .bindSampleReturn chan => Sys2Proof.Machine.execBindSampleReturn chan s
  | .rowArm p => Sys2Proof.Machine.execRowArm p s
  | .bind p => Sys2Proof.Machine.execBind p s
  | .releaseAt p => Sys2Proof.Machine.execReleaseAt p s
  | .check p => Sys2Proof.Machine.execCheck p s
  | .snapshotRow p => Sys2Proof.Machine.execSnapshotRow p s
  | .tapArrive tap cnum last => Sys2Proof.Machine.execTapArrive tap cnum last s
  | .tapArriveN tap cnum arg last => Sys2Proof.Machine.execTapArriveN tap cnum arg last s
  | .tapReduce tap cnum arg data lastOk => Sys2Proof.Machine.execTapReduce tap cnum arg data lastOk s
  | .payloadCombine chan level router => Sys2Proof.Machine.execPayloadCombine chan level router s
  | .spFenceWrite acc w val => Sys2Proof.Machine.execSpFenceWrite acc w val s
  | .pairMiscompare pair aBad bBad => Sys2Proof.Machine.execPairMiscompare pair aBad bBad s
  | .leafSelfCheckFailure leaf => Sys2Proof.Machine.execLeafSelfCheckFailure leaf s
  | .releaseIssue => Sys2Proof.Machine.execReleaseIssue s
  | .holdToFifo tap => Sys2Proof.Machine.execHoldToFifo tap s
  | .releaseTake tap => Sys2Proof.Machine.execReleaseTake tap s
  | .reportCycle leaf => Sys2Proof.Machine.execReportCycle leaf s
  | .spBmodeWrite acc k val => Sys2Proof.Machine.execSpBmodeWrite acc k val s
  | .grantMessage entry => Sys2Proof.Machine.execGrantMessage entry s
  | .creditGrantPlace leaf => Sys2Proof.Machine.execCreditGrantPlace leaf s
  | .hgCredClr acc val => Sys2Proof.Machine.execHgCredClr acc val s
  | .creditWindowWrite acc p units val => Sys2Proof.Machine.execCreditWindowWrite acc p units val s
  | .hgQuotaWrite acc p stage val => Sys2Proof.Machine.execHgQuotaWrite acc p stage val s
  | .force f => Sys2Proof.Machine.execForce f s
  | .freeingPassStart => Sys2Proof.Machine.execFreeingPassStart s
  | .freeingPassEnd => Sys2Proof.Machine.execFreeingPassEnd s
  | .rnotice port => Sys2Proof.Machine.execRnotice port s
  | .wellForwardTimeout tag => Sys2Proof.Machine.execWellForwardTimeout tag s
  | .wellRightsWrite acc g word val => Sys2Proof.Machine.execWellRightsWrite acc g word val s
  | .groupInitialisation acc g => Sys2Proof.Machine.execGroupInitialisation acc g s
  | .groupInitDone g => Sys2Proof.Machine.execGroupInitDone g s
  | .laneLock port => Sys2Proof.Machine.execLaneLock port s
  | .laneLockLoss port lane => Sys2Proof.Machine.execLaneLockLoss port lane s
  | .downTimerExpiry port => Sys2Proof.Machine.execDownTimerExpiry port s
  | .ackTimeout port => Sys2Proof.Machine.execAckTimeout port s
  | .linkGraceExpiry port => Sys2Proof.Machine.execLinkGraceExpiry port s
  | .trainFlit port t => Sys2Proof.Machine.execTrainFlit port t s
  | .idleFlit port first rest => Sys2Proof.Machine.execIdleFlit port first rest s
  | .normalFlit port fl => Sys2Proof.Machine.execNormalFlit port fl s
  | .nak port fl => Sys2Proof.Machine.execNak port fl s
  | .ctrlReq port => Sys2Proof.Machine.execCtrlReq port s
  | .ctrlRsp port => Sys2Proof.Machine.execCtrlRsp port s
  | .fwd port => Sys2Proof.Machine.execFwd port s
  | .farrive port => Sys2Proof.Machine.execFarrive port s
  | .member port => Sys2Proof.Machine.execMember port s
  | .culJoin acc val => Sys2Proof.Machine.execCulJoin acc val s
  | .cisternForwardTimeout tag => Sys2Proof.Machine.execCisternForwardTimeout tag s
  | .fabricChannelWrite acc n word val => Sys2Proof.Machine.execFabricChannelWrite acc n word val s
  | .remoteReleaseWrite acc e word val => Sys2Proof.Machine.execRemoteReleaseWrite acc e word val s
  | .snapshotBlockCopy p => Sys2Proof.Machine.execSnapshotBlockCopy p s
  | .snapshotComplete p => Sys2Proof.Machine.execSnapshotComplete p s
  | .restore acc p area => Sys2Proof.Machine.execRestore acc p area s
  | .restoreDone p => Sys2Proof.Machine.execRestoreDone p s
  | .partitionStart acc p => Sys2Proof.Machine.execPartitionStart acc p s
  | .partitionQuiesce acc p => Sys2Proof.Machine.execPartitionQuiesce acc p s
  | .partitionAbort acc p => Sys2Proof.Machine.execPartitionAbort acc p s
  | .drained p => Sys2Proof.Machine.execDrained p s
  | .quiesceTimeout p => Sys2Proof.Machine.execQuiesceTimeout p s
  | .partitionResourceWrite acc p off val => Sys2Proof.Machine.execPartitionResourceWrite acc p off val s
  | .functionConfigWrite acc f wait val => Sys2Proof.Machine.execFunctionConfigWrite acc f wait val s
  | .doorbellReadDone f rec resp => Sys2Proof.Machine.execDoorbellReadDone f rec resp s
  | .dqKick acc f val => Sys2Proof.Machine.execDqKick acc f val s
  | .commandFetch => Sys2Proof.Machine.execCommandFetch s
  | .commandReadDone f cmds resp => Sys2Proof.Machine.execCommandReadDone f cmds resp s
  | .nop f => Sys2Proof.Machine.execNop f s
  | .armCommand f => Sys2Proof.Machine.execArmCommand f s
  | .post f => Sys2Proof.Machine.execPost f s
  | .reduceFromHost f => Sys2Proof.Machine.execReduceFromHost f s
  | .payloadReadDone f data resp => Sys2Proof.Machine.execPayloadReadDone f data resp s
  | .wait f => Sys2Proof.Machine.execWait f s
  | .semRead f => Sys2Proof.Machine.execSemRead f s
  | .semAddCommand f => Sys2Proof.Machine.execSemAddCommand f s
  | .lockCas f => Sys2Proof.Machine.execLockCas f s
  | .lockSwap f => Sys2Proof.Machine.execLockSwap f s
  | .claim f => Sys2Proof.Machine.execClaim f s
  | .lockRelease f => Sys2Proof.Machine.execLockRelease f s
  | .clrab f => Sys2Proof.Machine.execClrab f s
  | .snapshot f => Sys2Proof.Machine.execSnapshot f s
  | .completionWriteDone f resp => Sys2Proof.Machine.execCompletionWriteDone f resp s
  | .holdoffExpiry f v => Sys2Proof.Machine.execHoldoffExpiry f v s
  | .vmaskWrite acc f val => Sys2Proof.Machine.execVmaskWrite acc f val s
  | .queueEnable acc f => Sys2Proof.Machine.execQueueEnable acc f s
  | .queueDisable acc f => Sys2Proof.Machine.execQueueDisable acc f s
  | .faultEntryWriteDone p resp => Sys2Proof.Machine.execFaultEntryWriteDone p resp s
  | .channelEnable acc c val => Sys2Proof.Machine.execChannelEnable acc c val s
  | .channelDisable acc c val => Sys2Proof.Machine.execChannelDisable acc c val s
  | .headWrite acc win c val => Sys2Proof.Machine.execHeadWrite acc win c val s
  | .add acc win c n => Sys2Proof.Machine.execAdd acc win c n s
  | .abort acc win c => Sys2Proof.Machine.execAbort acc win c s
  | .descriptorRead => Sys2Proof.Machine.execDescriptorRead s
  | .descriptorReadDone c desc resp => Sys2Proof.Machine.execDescriptorReadDone c desc resp s
  | .burstReadIssue => Sys2Proof.Machine.execBurstReadIssue s
  | .burstReadDone c data resp => Sys2Proof.Machine.execBurstReadDone c data resp s
  | .burstWriteDone c resp => Sys2Proof.Machine.execBurstWriteDone c resp s
  | .descriptorWriteBackDone c resp => Sys2Proof.Machine.execDescriptorWriteBackDone c resp s
  | .opIssue c => Sys2Proof.Machine.execOpIssue c s
  | .opResponse c => Sys2Proof.Machine.execOpResponse c s
  | .rateWindowStart => Sys2Proof.Machine.execRateWindowStart s
  | .channelQuiet c => Sys2Proof.Machine.execChannelQuiet c s
  | .pumpResume acc => Sys2Proof.Machine.execPumpResume acc s
  | .pumpResumeEffect => Sys2Proof.Machine.execPumpResumeEffect s
  | .sumpConfigWrite acc sump val => Sys2Proof.Machine.execSumpConfigWrite acc sump val s
  | .counterClear acc glob p n val => Sys2Proof.Machine.execCounterClear acc glob p n val s
  | .tclkWindow r count => Sys2Proof.Machine.execTclkWindow r count s
  | .tapBreak tap => Sys2Proof.Machine.execTapBreak tap s
  | .haltCommand acc => Sys2Proof.Machine.execHaltCommand acc s
  | .resumeCommand acc => Sys2Proof.Machine.execResumeCommand acc s
  | .stop acc => Sys2Proof.Machine.execStop acc s
  | .start acc => Sys2Proof.Machine.execStart acc s
  | .haltToken port => Sys2Proof.Machine.execHaltToken port s
  | .resumeToken port => Sys2Proof.Machine.execResumeToken port s
  | .stopCut => Sys2Proof.Machine.execStopCut s
  | .dumpTensor f => Sys2Proof.Machine.execDumpTensor f s
  | .dumpDone d => Sys2Proof.Machine.execDumpDone d s
  | .deltaTimer => Sys2Proof.Machine.execDeltaTimer s
  | .statusWord w => Sys2Proof.Machine.execStatusWord w s
  | .reportFrame words => Sys2Proof.Machine.execReportFrame words s
  | .pfmGauMark acc val => Sys2Proof.Machine.execPfmGauMark acc val s
  | .pfmGauCfgw acc val => Sys2Proof.Machine.execPfmGauCfgw acc val s
  | .deltaFrame words => Sys2Proof.Machine.execDeltaFrame words s
  | .markFrame words => Sys2Proof.Machine.execMarkFrame words s
  | .configFrame words => Sys2Proof.Machine.execConfigFrame words s
  | .dbgUnlock acc => Sys2Proof.Machine.execDbgUnlock acc s
  | .dbgLock acc both => Sys2Proof.Machine.execDbgLock acc both s
  | .gaugePowerUp => Sys2Proof.Machine.execGaugePowerUp s
  | .gauPwrfail => Sys2Proof.Machine.execGauPwrfail s
  | .interval => Sys2Proof.Machine.execInterval s
  | .sealOpen => Sys2Proof.Machine.execSealOpen s
  | .sealClose => Sys2Proof.Machine.execSealClose s
  | .presenceWindowOpen => Sys2Proof.Machine.execPresenceWindowOpen s
  | .presenceWindowClose => Sys2Proof.Machine.execPresenceWindowClose s
  | .presStuck => Sys2Proof.Machine.execPresStuck s
  | .readId req => Sys2Proof.Machine.execReadId req s
  | .readRegs req => Sys2Proof.Machine.execReadRegs req s
  | .readLog req => Sys2Proof.Machine.execReadLog req s
  | .linkUpTimeout => Sys2Proof.Machine.execLinkUpTimeout s
  | .clockLoss clk => Sys2Proof.Machine.execClockLoss clk s
  | .powerOnReset => Sys2Proof.Machine.execPowerOnReset s
  | .blockReset src => Sys2Proof.Machine.execBlockReset src s
  | .blockInitDone => Sys2Proof.Machine.execBlockInitDone s
  | .partitionReset acc p => Sys2Proof.Machine.execPartitionReset acc p s
  | .functionReset src f => Sys2Proof.Machine.execFunctionReset src f s
  | .tapReset src tap => Sys2Proof.Machine.execTapReset src tap s
  | .culvertPortReset acc port => Sys2Proof.Machine.execCulvertPortReset acc port s
  | .pumpChannelReset acc c => Sys2Proof.Machine.execPumpChannelReset acc c s
  | .wakeTimer => Sys2Proof.Machine.execWakeTimer s
  | .wakeDone => Sys2Proof.Machine.execWakeDone s
  | .commit acc => Sys2Proof.Machine.execCommit acc s
  | .configRewriteDone timeout readback => Sys2Proof.Machine.execConfigRewriteDone timeout readback s
  | .reload acc => Sys2Proof.Machine.execReload acc s
  | .registerWrite acc off size val => Sys2Proof.Machine.execRegisterWrite acc off size val s
  | .poRstNAssertion => Sys2Proof.Machine.execPoRstNAssertion s
  | .blkRstNRelease => Sys2Proof.Machine.execBlkRstNRelease s
  | .tapRstNRelease tap => Sys2Proof.Machine.execTapRstNRelease tap s
  | .tpReadyReturn tap => Sys2Proof.Machine.execTpReadyReturn tap s
  | .recordLoadDone rec => Sys2Proof.Machine.execRecordLoadDone rec s
  | .clockReturn clk => Sys2Proof.Machine.execClockReturn clk s
  | .timeEstimateAged => Sys2Proof.Machine.execTimeEstimateAged s
  | .haltSeenEntryRetire chip id => Sys2Proof.Machine.execHaltSeenEntryRetire chip id s
  | .scoreboardRecordWriteDone p resp => Sys2Proof.Machine.execScoreboardRecordWriteDone p resp s
  | .loReadCapture acc off => Sys2Proof.Machine.execLoReadCapture acc off s
  | .cfgJmpChange v => Sys2Proof.Machine.execCfgJmpChange v s

end Sys2Proof.Machine
end

