-- ==== Sys2Proof/Safety.lean ====
section
/-! DEFINITION. What the statements speak of: the form that every state of a run has, and when nothing more follows from
what has happened. -/

namespace Sys2Proof.Machine

/-! ## The invariant -/

/-- The register window's words in canonical form: offsets strictly rise, and no listed word is its reset word. -/
def regsWf (t : Tab W32) : Bool := tsorted none t && t.all (fun e => decide (e.2 ≠ regReset e.1))

/-- The stores of the banks in canonical form: entries, basins, lane states, release lists, symbol errors, poison marks
and frame tags. -/
def Cst.Wf (c : Cst) : Prop :=
  twf {} c.ent = true ∧ twf 0 c.basins = true ∧ twf {} c.lanes = true ∧ twf 0 c.rl = true ∧ twf 0 c.err = true
    ∧ twf false c.bad = true ∧ twf false c.badBasin = true ∧ twf 0 c.tags = true

/-- The wells and their poison marks in canonical form. -/
def Wel.Wf (w : Wel) : Prop := twf freeWell w.w = true ∧ twf false w.poison = true

/-- The power state is one of K0 to K3 (R407). -/
def Rst.Wf (r : Rst) : Prop := r.kst ≤ 3

/-- The tables of the Standpipe in canonical form. -/
def Pipe.Wf (p : Pipe) : Prop :=
  twf none p.act = true ∧ twf none p.shadow = true ∧ twf {} p.taps = true ∧ twf {} p.leafs = true ∧ twf {} p.grants = true

/-- The ports of Culvert in canonical form. -/
def Cul.Wf (c : Cul) : Prop := twf {} c.ports = true

/-- The channels of the Pump in canonical form. -/
def Pump.Wf (p : Pump) : Prop := twf {} p.chans = true

/-- The sumps and the dumps in canonical form. -/
def Obs.Wf (o : Obs) : Prop := twf {} o.sumps = true ∧ twf none o.dumps = true

/-- The accumulators of the meter link in canonical form. -/
def GLink.Wf (g : GLink) : Prop := twf 0 g.delta = true

/-- What every step keeps: the stores are in canonical form, so that equal stores are equal data and a read after a write
gives what was written, and the power state is legal. -/
structure State.Inv (s : State) : Prop where
  regs : regsWf s.regs = true
  cst : s.cst.Wf
  wel : s.wel.Wf
  rst : s.rst.Wf
  pipe : s.pipe.Wf
  cul : s.cul.Wf
  pump : s.pump.Wf
  obs : s.obs.Wf
  glink : s.glink.Wf
  parts : twf {} s.parts = true
  fns : twf {} s.fns = true
  holds : twf {} s.holds = true

/-- `t` came from `s` in one command: the build and the queue are the same, and the invariant is kept. -/
structure Evolves (s t : State) : Prop where
  build : t.build = s.build
  pending : t.pending = s.pending
  inv : s.Inv → t.Inv

/-! ## A quiet block: nothing is due beside the next command -/

/-- Nothing that a step goes on with is due: no completion to contribute, no operation to follow, none held, no fill, no
late tick, no reset notice to deliver; the notice queue has room, and no snapshot copies blocks. The state has the form
that every step keeps. -/
structure State.Calm (s : State) : Prop where
  inv : s.Inv
  done : s.cul.done = []
  next : s.cst.next = []
  hold : s.cst.hold = []
  fills : s.cst.fills = []
  late : s.parts.all (fun e => !e.2.late) = true
  notices : s.wel.notices = []
  room : s.pipe.notices.length < 1024
  snap : s.parts.all (fun e => e.2.snap.isNone) = true

/-- Nothing that a step goes on with is due, as in a calm block, but a snapshot may copy blocks. -/
structure State.Still (s : State) : Prop where
  done : s.cul.done = []
  next : s.cst.next = []
  hold : s.cst.hold = []
  fills : s.cst.fills = []
  late : s.parts.all (fun e => !e.2.late) = true
  notices : s.wel.notices = []

/-- The block is out of reset, in K0, with its clocks running, and calm. -/
structure State.Ready (s : State) : Prop where
  up : s.up = true
  kst : s.rst.kst = 0
  lostC : s.clk.lostC = false
  lostM : s.clk.lostM = false
  calm : s.Calm
  served : s.held.any isCnp = false

/-- A write of `acc` that is answered: it takes effect in a kclk cycle of its own or in the one that runs (R452), there it does what
`f` says, and it is acknowledged. -/
def Takes (s : State) (acc : Acc) (i : Instr) (f : State → State) : Prop :=
  let t := f (s.crossing acc)
  exec i s = .next { t with out := t.out ++ [.regAck] }

/-- An access of `acc` to the register at `off` is answered (R403, R411, R435, R444), on a calm block. -/
structure Reached (s : State) (acc : Acc) (off : Nat) : Prop where
  calm : s.Calm
  gate : s.regGate acc off true = .answered

/-- The bits of a written word that the build does not reserve (R284, R447). -/
def State.built (s : State) (off : Nat) (v : W32) : Nat :=
  if s.isC then (v &&& ~~~(BitVec.ofNat 32 (cReserved off))).toNat else v.toNat

/-! ## What accounting may change -/

/-- The registers that accounting moves: the loss counters of the sumps, and SAT of PFM_GAU_STATUS. -/
def acctReg (off : Nat) : Prop := off = R.pfmGauStatus ∨ off = R.obsAoLost ∨ ∃ i, off = R.obsSlostCnt i

/-- `t` is `s` but for outputs and accounting: counters (R352), trace and loss (R351, R355), usage (R381), and the note of the flags
set in this kclk cycle (R12). What the registers read as is said of a table in canonical form, which every state of a run has. -/
structure Accounts (s t : State) : Prop where
  rest : t = { s with out := t.out, regs := t.regs, obs := t.obs, glink := t.glink, fresh := t.fresh }
  obs : s.obs.Wf → t.obs.Wf
  glink : s.glink.Wf → t.glink.Wf
  regs : regsWf s.regs = true → regsWf t.regs = true ∧ ∀ off, ¬ acctReg off → t.reg off = s.reg off

/-- The state `u` with the response `r` to the request `q`, if it asked for one (R82): it goes out where its attachment point has a
response credit, which it takes, and waits for one where it has none (R431). -/
def State.responds (u : State) (q : CnpReq) (r : BankRsp) : State :=
  let o := Out.cnp q.attach.toNat q.master.toNat (r.flit q.tag.toNat)
  if q.resp = false then u
  else if tget 0 u.clk.cred q.attach.toNat = 0 then { u with clk := { u.clk with waitC := u.clk.waitC ++ [o] } }
  else { u with clk := u.clk.useCred q.attach.toNat, out := u.out ++ [o] }

/-! ## A request that passes the checks of R75 before its own -/

/-- Cistern `cnum` of partition `p` is in slot `n`, its own and readable, and an operation of `p` on it runs at once. -/
structure HoldsEntry (s : State) (p cnum n : Nat) : Prop where
  window : s.proxyOf p cnum = (none, false)
  holds : s.holdsCnum p cnum = true
  init : s.initBusy 0 (n / 4096) = false
  active : s.active p = true
  slot : s.slotOf p cnum = some n
  good : tget false s.cst.bad n = false
  err : tget 0 s.cst.err (errKey 0 n) = 0
  sound : (s.entry n).sound p = true

/-- The request `q` of a master of partition `p` names a cistern of `p` that is in slot `n`, its own and readable. -/
structure Serves (s : State) (q : CnpReq) (p n : Nat) : Prop extends HoldsEntry s p q.index.toNat n where
  ready : s.Ready
  code : q.code = none
  rsv : q.rsv = 0
  space : q.space = 0
  part : s.reqPart q = some p

/-- The basin word that `index` names lies in a basin of partition `p` and is readable. -/
structure HoldsWord (s : State) (p index : Nat) : Prop where
  align : index % 32 = 0
  holds : s.holdsBasin p (bits index 23 8) = true
  named : bits index 23 8 ≠ 0xFFFF
  init : s.initBusy 1 (bits index 23 8 / 64) = false
  active : s.active p = true
  good : tget false s.cst.badBasin (bits index 23 8) = false
  err : tget 0 s.cst.err (errKey 1 (4 * bits index 23 8 + bits index 7 5 / 2)) = 0

/-- The request `q` of a master of partition `p` names a readable word of a basin of `p`. -/
structure ServesWord (s : State) (q : CnpReq) (p : Nat) : Prop extends HoldsWord s p q.index.toNat where
  ready : s.Ready
  code : q.code = none
  rsv : q.rsv = 0
  space : q.space = 1
  part : s.reqPart q = some p

/-- The request `q` of a master of partition `p` names a readable well of a local group. -/
structure ServesWell (s : State) (q : CnpReq) (p : Nat) : Prop where
  ready : s.Ready
  code : q.code = none
  rsv : q.rsv = 0
  space : q.space = 2
  form : q.index.toNat % 256 = 0 ∧ q.gen = 0
  part : s.reqPart q = some p
  home : s.flag (R.welGcfg (bits q.index.toNat 23 8 / 64)) 31 = false
  free : s.freeing s.chip (s.masterId q.master.toNat) = false
  good : s.wellBad (bits q.index.toNat 23 8) = false
  err : tget 0 s.cst.err (errKey 3 (wellIdx (bits q.index.toNat 23 8))) = 0

/-- The command `i` on `s` answers a next state that is `u` but for accounting: the request `q` leaves its buffer, which returns its
credits (R431), and gets the one response `r`. -/
def Gives (s : State) (i : Instr) (q : CnpReq) (u : State) (r : BankRsp) : Prop :=
  ∃ v, Accounts u v ∧ v.out = u.out ++ [.cnCred q.attach.toNat (match i with | .reduceInto .. => 6 | _ => 2)]
    ∧ exec i s = .next (v.responds q r)

/-- The command `i` on `s` answers a next state that is `u` but for accounting, and then the one response `r` to `q`. -/
def Responds (s : State) (i : Instr) (q : CnpReq) (u : State) (r : BankRsp) : Prop :=
  ∃ v, Accounts u v ∧ v.out = u.out ∧ exec i s = .next (v.responds q r)

/-- A word operation (R72): the word's new value, or `none` where the operation's condition fails; DATA is the word
before it. -/
def WordGives (s : State) (i : Instr) (q : CnpReq) (new : W64 → Option W64) : Prop :=
  let b := bits q.index.toNat 23 8
  let j := bits q.index.toNat 7 5
  let w := basinWord (s.basin b) j
  match new w with
  | some v => Gives s i q (if v = w then s else s.setBasin b (setBasinWord (s.basin b) j v) (s.lanes b))
      { result := Res.ok, data := w }
  | none => Gives s i q s { result := Res.failed, data := w }

/-- A well operation (R224): the well's new value, or `none` where the operation's condition fails. -/
def WellGives (s : State) (i : Instr) (q : CnpReq) (new : W64 → Option W64) : Prop :=
  let n := bits q.index.toNat 23 8
  let w := s.well n
  match new w with
  | some v => Gives s i q (s.setWell n v) { result := Res.ok, data := w }
  | none => Gives s i q s { result := Res.failed, data := w }

/-- SEM_ADD's new value (R72, R225): the signed operand added to the low half, if the sum stays in range. -/
def semSum (a w : W64) : Option W64 :=
  let v : Int := (w.setWidth 32).toNat + (a.setWidth 32).toInt
  if 0 ≤ v ∧ v < 2 ^ 32 then some (w.extractLsb' 32 32 ++ BitVec.ofInt 32 v) else none

/-! ## Host commands -/

/-- `c` is the next command of function `f`, it may issue, and no other command of `f` has its ring index. -/
structure HostServes (s : State) (f : Nat) (c : Cmd) (opc : Nat) : Prop where
  ready : s.Ready
  runs : s.fnRuns f = true
  head : (s.fn f).cmds.head? = some c
  order : c.order = true → (s.fn f).flight = [] ∧ (s.fn f).waits = []
  opc : c.opc = opc
  flight : (s.fn f).findFlight c.cidx = none
  waits : (s.fn f).findWait c.cidx = none

/-- The command `i` completes the host command `c` of function `f` with `r`: the next state is `u` but for accounting and
that completion. -/
def HostGives (s : State) (i : Instr) (f : Nat) (c : Cmd) (u : State) (r : CplRec) : Prop :=
  ∃ v, Accounts u v ∧ v.out = u.out ∧ exec i s = .next (v.complete f c r)

/-- The well that command `c` of function `f` names is readable, in a local group, and open to `f` for acquisition. -/
structure HostWell (s : State) (f : Nat) (c : Cmd) : Prop where
  home : s.flag (R.welGcfg (c.well / 64)) 31 = false
  acq : f = 0 ∨ (s.reg (R.welGacq (c.well / 64))).testBit (s.cmdPart f c) = true
  free : s.freeing s.chip (0x1000 + f) = false
  good : s.wellBad c.well = false
  err : tget 0 s.cst.err (errKey 3 (wellIdx c.well)) = 0
  clean : cleanWell (s.well c.well) = s.well c.well

/-! ## The Gauge -/

/-- The command `i` leaves the island as `g`, reports what changed, and then presents `l`; nothing else changes. -/
def IslandGives (s : State) (i : Instr) (g : Island) (l : List Out) : Prop :=
  ∃ rs : List (List (BitVec 16)), exec i s = .next { s with island := g, out := s.out ++ rs.map Out.gauReport ++ l }

/-! ## Taps -/

/-- `t` is `u` but for outputs, accounting, and the trace records that wait at leaves. -/
structure TapAccounts (u t : State) : Prop where
  rest : t = { u with out := t.out, regs := t.regs, obs := t.obs, glink := t.glink, fresh := t.fresh,
                      pipe := { u.pipe with leafs := t.pipe.leafs } }
  obs : u.obs.Wf → t.obs.Wf
  glink : u.glink.Wf → t.glink.Wf
  pipe : u.pipe.Wf → t.pipe.Wf
  regs : regsWf u.regs = true → regsWf t.regs = true ∧ ∀ off, ¬ acctReg off → t.reg off = u.reg off

/-- The arrival of tap `tap` for `cnum` finds the binding `x` in the tap's leaf, and nothing holds or refuses it. -/
structure TapServes (s : State) (tap : BitVec 12) (cnum : Cnum) (x : Bind) : Prop where
  ready : s.Ready
  port : s.tapReady tap.toNat = true
  waits : s.tapWaits tap.toNat = false
  fence : s.fenced tap.toNat = false
  entry : s.leafEntry tap.toNat cnum.toNat = some x
  clear : x.fset.contains (tap.toNat / 4) = false

/-- The state `s` with the binding of channel `ch` and the leaf sum of `l` for it replaced. -/
def State.arrived (s : State) (l ch v : Nat) (x : Bind) : State :=
  { s with pipe := { s.pipe with
      sumsAt := s.clk.kclk,
      sums := tset 0 (if s.pipe.sumsAt = s.clk.kclk then s.pipe.sums else []) (32 * l + ch) v,
      act := tset none s.pipe.act ch (some x) } }

/-- The row `r` of `p` is next, on a calm block, and no outcome of a tick waits. -/
structure RowDue (s : State) (p : BitVec 5) (r : Staged) : Prop where
  calm : s.Calm
  due : s.dueRow p.toNat = some r
  closed : (s.prt p.toNat).closing = none

/-- It is next, and its cistern's entry is in slot `n`, readable and not bound. -/
structure RowServes (s : State) (p : BitVec 5) (r : Staged) (n : Nat) : Prop extends RowDue s p r where
  slot : s.slotOf p.toNat r.row.cnum = some n
  good : tget false s.cst.bad n = false
  err : tget 0 s.cst.err (errKey 0 n) = 0
  sound : (s.entry n).sound p.toNat = true
  bound : s.tagged p.toNat r.row.cnum = none

/-- The row `r` of `p` has left the staging buffer; a late one counts in HG_PLATE_CNT (R109, R129). -/
def State.rowOut (s : State) (p : Nat) (r : Staged) : State :=
  let u := s.modPrt p (fun x => { x with staged := x.staged.erase r })
  if r.late then u.bump (R.hgPlateCnt p) 1 else u

/-- The command `i` on `s` answers a next state that presents what `u` does, and is `u` but for accounting. -/
def Reaches (s : State) (i : Instr) (u : State) : Prop := ∃ t, exec i s = .next t ∧ t.out = u.out ∧ Accounts u t

/-- What port `k` received is decoded to one flit, without a correction (R250, R254). -/
def State.decodes (s : State) (k : Nat) (fl : RxFlit) (w : BitVec 640) : Prop :=
  rs544Form fl = s.flag (R.culPcfg k) 30 ∧ rxFlits fl = some [(w, false)]

/-- The command acts on what port `k` received: its three rows name the kinds of flit, which FKIND gives (R251). -/
def isRx (i : Instr) (port : BitVec 3) (fl : RxFlit) : Prop :=
  (∃ first rest, i = .idleFlit port first rest ∧ fl = rxOf first rest) ∨ i = .normalFlit port fl ∨ i = .nak port fl

/-- Completions of `p`'s cistern `cnum` stay on this die and trigger no dump. -/
def State.Local (s : State) (p cnum : Nat) (e : Cistern) : Prop :=
  s.remotes p cnum = [] ∧ s.dumpMatch p e.layer.toNat e.oper.toNat = none
    ∧ (List.range 64).all (fun c => !s.fchEn c) = true

end Sys2Proof.Machine
end

