-- ==== Sys2Proof/Certificates/Slice0/Obligations.lean ====
section
/-! DEFINITION. The statements for the provers. -/

open Sys2Proof Sys2Proof.Machine

/-- A step with a command at the front of the queue is that command's effect on the state with the rest of the queue; on an
empty queue the block idles (the queue and the idle step are the model's own: assumptions 1 and 2). -/
def Obligations.StepRunsTheFrontCommand : Prop :=
  (∀ (c : Instr) (rest : List Instr) (s : State), step { s with pending := c :: rest } = exec c { s with pending := rest })
  ∧ ∀ s : State, s.pending = [] → step s = .next s.idle

/-- An arrival below TARGET on an ARMED BARRIER or EVENT cistern adds its number to COUNT, and nothing else in any bank
changes; the arrival that brings COUNT to TARGET takes the cistern to DONE, queues one notice of its release, and is answered
COMPLETED (R61, R63, R67, R72). -/
def Obligations.ArrivalsCountAndComplete : Prop :=
  ∀ (s : State) (q : CnpReq) (p n : Nat), Serves s q p n →
    let e := s.entry n
    e.status = stArmed → (e.kind = kBarrier ∨ e.kind = kEvent) → q.gen = e.gen → s.tagged p q.index.toNat = none →
    (e.count.toNat + 1 < e.target.toNat →
      let e' := { e with count := e.count + 1 }
      Gives s (.arrive q) q (s.setEntry n e') (e'.rsp Res.ok))
    ∧ (∀ k, bits q.a.toNat 19 0 = k → e.count.toNat + k < e.target.toNat →
      let e' := { e with count := e.count + BitVec.ofNat 20 k }
      Gives s (.arriveN q) q (s.setEntry n e') (e'.rsp Res.ok))
    ∧ (e.count.toNat + 1 = e.target.toNat → s.remotes p q.index.toNat = [] →
      s.dumpMatch p e.layer.toNat e.oper.toNat = none → (List.range 64).all (fun c => !s.fchEn c) = true →
      let e' := { e with count := e.count + 1, status := stDone }
      let note : Notice := { cnum := q.index.toNat, gen := e.gen.toNat, part := p, rlist := e.rlist.toNat, status := 2,
                             basin := e.basin.toNat }
      Gives s (.arrive q) q
        { s.setEntry n e' with pipe := { s.pipe with notices := s.pipe.notices ++ [note] } } (e'.rsp Res.completed))

/-- POST_COUNT adds n to TARGET and takes 1 from BASIN; CREDIT_RETURN takes n from COUNT, and an ACTIVE grant entry owes n
more (R69, R196, R200). -/
def Obligations.PostAddsAndReturnTakes : Prop :=
  ∀ (s : State) (q : CnpReq) (p n k : Nat), Serves s q p n → bits q.a.toNat 19 0 = k →
    let e := s.entry n
    e.status = stArmed → q.gen = e.gen →
    (e.kind = kCount → 1 < e.basin.toNat → e.target.toNat + k ≤ 1048575 → s.tagged p q.index.toNat = none →
      let e' := { e with basin := e.basin - 1, target := e.target + BitVec.ofNat 20 k }
      Gives s (.postCount q) q (s.setEntry n e') (e'.rsp Res.ok))
    ∧ (e.kind = kCredit → k ≤ e.count.toNat →
      let e' := { e with count := e.count - BitVec.ofNat 20 k }
      (s.grantIdx p q.index.toNat = none → Gives s (.creditReturn q) q (s.setEntry n e') (e'.rsp Res.ok))
      ∧ (∀ g, s.grantIdx p q.index.toNat = some g → (s.grant g).state = 1 → (s.grant g).owed.toNat + k < 2 ^ 20 →
        Gives s (.creditReturn q) q
          ((s.setEntry n e').setGrant g { s.grant g with owed := (s.grant g).owed + BitVec.ofNat 20 k }) (e'.rsp Res.ok)))

/-- REDUCE_INTO on an ARMED REDUCE cistern combines the lanes of its mask, widened, into the chain basin that it names,
and counts one arrival (R72, R166, R168). -/
def Obligations.ReduceIntoCombinesLanes : Prop :=
  ∀ (s : State) (q : CnpReq) (pay : Payload) (p n : Nat), Serves s q p n →
    let e := s.entry n
    let m := s.mode e.basin.toNat
    let b := e.basin.toNat + 64 * bits q.a.toNat 5 0
    e.status = stArmed → e.kind = kReduce → q.gen = e.gen → s.tagged p q.index.toNat = none →
    e.basin ≠ 0xFFFF → bits q.a.toNat 31 24 = m.rm → bits q.a.toNat 5 0 < m.len → s.holdsBasin p b = true →
    tget false s.cst.badBasin b = false → (s.lanes b).bad = false →
    (∀ j, j < 4 → tget 0 s.cst.err (errKey 1 (4 * b + j)) = 0) → e.count.toNat + 1 < e.target.toNat →
      let mask := effMask m.rm (bits q.a.toNat 23 8)
      let e' := { e with count := e.count + 1 }
      Gives s (.reduceInto q pay) q ((s.contribute m.rm e.gen b mask (widen m.rm mask pay)).setEntry n e') (e'.rsp Res.ok)

/-- ARM of a cistern that is not ARMED, DONE or FENCED takes the definition into force, advances GEN, clears COUNT and
makes it ARMED; SPILLED stays; with DEADLINE the close of the tick becomes its deadline (R58, R63, R73, R40). -/
def Obligations.ArmMakesTheCisternArmed : Prop :=
  ∀ (s : State) (q : CnpReq) (p n : Nat), Serves s q p n →
    let e := s.entry n
    let d := ArmDef.of q.a q.b
    let x := { d.inForce e with gen := e.gen + 1, count := 0, status := stArmed, part := BitVec.ofNat 5 p }
    (e.status = stIdle ∨ e.status = stLate ∨ e.status = stFault) → s.armCheck p n d (d.inForce e) = none →
    x.kind ≠ kCredit → x.met = false →
      let u := (s.healBasins p x).setEntry n x
      Gives s (.arm q) q (if d.deadline then u.setDeadline p q.index.toNat x.gen.toNat else u) (x.rsp Res.ok)

/-- CLEAR returns an ARMED, LATE, FAULT or IDLE cistern to IDLE; FENCE by function 0 fences it and abandons what is
pending for it; UNFENCE by function 0 returns a FENCED one to IDLE (R63). -/
def Obligations.ClearFenceUnfenceSetStatus : Prop :=
  ∀ (s : State) (q : CnpReq) (p n : Nat), Serves s q p n →
    let e := s.entry n
    e.kind ≠ kCredit →
    (e.status ≠ stDone → e.status ≠ stFenced →
      let e' := { e with status := stIdle }
      Gives s (.clear q) q (s.setEntry n e') (e'.rsp Res.ok))
    ∧ (q.master = 0x1000 → e.status ≠ stFenced → s.tagged p q.index.toNat = none →
      let e' := { e with status := stFenced }
      Gives s (.fence q) q ((s.setEntry n e').abandonCnum p q.index.toNat) (e'.rsp Res.ok))
    ∧ (q.master = 0x1000 → e.status = stFenced →
      let e' := { e with status := stIdle }
      Gives s (.unfence q) q (s.setEntry n e') (e'.rsp Res.ok))

/-- A POLL opens a merge window where none is open for its cistern; when the window closes, one read answers the request
with the entry as it is then, and changes no entry (R82, R85). -/
def Obligations.PollsMergeInAWindow : Prop :=
  ∀ (s : State) (q : CnpReq) (p n : Nat), Serves s q p n →
    let o := s.reqOp q Op.poll 0
    let w : PollWin := ⟨q.index.toNat, [o]⟩
    (s.cst.polls.all (fun v => v.cnum != q.index.toNat) = true → s.cst.polls.length < 16 →
      ∃ t, exec (.poll q) s = .next t ∧ t.out = s.out ++ [.cnCred q.attach.toNat 2]
        ∧ Accounts { s with cst := { s.cst with polls := s.cst.polls ++ [w] } } t)
    ∧ (s.cst.polls.find? (fun v => v.cnum == q.index.toNat) = some w →
      Responds s (.pollWindowClose q.index) q { s with cst := { s.cst with polls := s.cst.polls.erase w } }
        (s.pollRsp (s.entry n)))

/-- The word operations of R72 on a basin word: the new word of each, and the word before it as DATA. -/
def Obligations.WordOperationsWriteTheWord : Prop :=
  ∀ (s : State) (q : CnpReq) (p : Nat), ServesWord s q p →
    WordGives s (.read q) q some
    ∧ WordGives s (.semAdd q) q (semSum q.a)
    ∧ WordGives s (.testAndSet q) q (fun w => if w = 0 then some q.a else none)
    ∧ WordGives s (.cas q) q (fun w => if w = q.a then some q.b else none)
    ∧ WordGives s (.swap q) q (fun _ => some q.a)
    ∧ WordGives s (.incSat q) q (fun w => some (BitVec.ofNat 64 (min (w.toNat + (q.a.setWidth 32).toNat) (2 ^ 64 - 1))))
    ∧ WordGives s (.maxInto q) q (fun w =>
        some (if (if q.b.getLsbD 0 then w.toInt < q.a.toInt else w.toNat < q.a.toNat) then q.a else w))
    ∧ WordGives s (.minInto q) q (fun w =>
        some (if (if q.b.getLsbD 0 then w.toInt < q.a.toInt else w.toNat < q.a.toNat) then w else q.a))

/-- READ and SEM_ADD of a clean well leave its OWNER and ABANDONED; CAS and SWAP write a well where the transition is one
of R224: by the requester `me`, a claim of a free well, a release, or no change of OWNER (R222 to R225). -/
def Obligations.WellOperationsFollowTransitions : Prop :=
  ∀ (s : State) (q : CnpReq) (p : Nat), ServesWell s q p →
    let n := bits q.index.toNat 23 8
    let w := s.well n
    let me := ownerOf s.chip (s.masterId q.master.toNat)
    let acq := q.master = 0x1000 ∨ (s.reg (R.welGacq (n / 64))).testBit p = true
    let moves := fun (v : W64) => (wellOwner v = wellOwner w ∧ wellAband v = wellAband w)
      ∨ (wellOwner w = ownerFree ∧ wellOwner v = me ∧ wellAband v = wellAband w)
      ∨ (wellOwner w = me ∧ wellOwner v = ownerFree ∧ wellAband v = false)
    cleanWell w = w → acq →
    WellGives s (.read q) q some
    ∧ WellGives s (.semAdd q) q (semSum q.a)
    ∧ (moves (cleanWell q.b) → WellGives s (.cas q) q (fun w => if w = q.a then some (cleanWell q.b) else none))
    ∧ (moves (cleanWell q.a) → WellGives s (.swap q) q (fun _ => some (cleanWell q.a)))

/-- Block and power-on resets (R402, R412, R413, R419, R428): the pin and KIND 1 leave the Gauge, the TB, OBS_TB_INC and
OBS_TBMODE, take CUL_CHIPID from the record and reset the rest; PO_RST_N takes the record too; its release has the record
read; the block runs again when every word is written. -/
def Obligations.BlockResetsRestoreState : Prop :=
  (∀ (s : State), s.Inv →
    let kept := fun (t : State) => t.up = false ∧ t.island = s.island ∧ t.clk.tb = s.clk.tb ∧ t.pending = s.pending
      ∧ t.cst = {} ∧ t.wel = {} ∧ t.cul = {} ∧ t.pump = {} ∧ t.grid = {} ∧ t.obs = {} ∧ t.parts = [] ∧ t.fns = []
      ∧ t.reg R.obsTbInc = s.reg R.obsTbInc ∧ t.reg R.obsTbmode = s.reg R.obsTbmode
      ∧ t.reg R.pfmCfgId = s.reg R.pfmCfgId ∧ t.reg R.culChipid = s.reg R.pfmCfgId % 2 ^ 12
      ∧ ∀ off, 0x10000 ≤ off → off < 0x70000 → t.reg off = (regReset off).toNat
    (s.rst.por = false → s.rst.job ≠ .load → ∃ t, exec (.blockReset .pin) s = .next t ∧ kept t ∧ t.rst.blkPin = true)
    ∧ (∀ acc, Reached s acc R.pfmRst → ∃ t, exec (.blockReset (.write acc)) s = .next t ∧ kept t)
    ∧ ((s.rst.por = true ∨ s.rst.job = .load) →
      exec (.blockReset .pin) s = .next { s with rst := { s.rst with blkPin := true } }))
  ∧ (∀ (s : State), ∃ t, exec .poRstNAssertion s = .next t ∧ t.rst.por = true ∧ t.rst.record = [] ∧ t.regs = []
    ∧ t.clk.tb = 0 ∧ t.island = s.island ∧ t.cst = {} ∧ t.wel = {} ∧ t.up = false)
  ∧ (∀ (s : State), s.rst.por = true →
    exec .powerOnReset s = .next { s with rst := { s.rst with por := false, job := .load }, out := s.out ++ [.cfgRead] })
  ∧ (∀ (s : State), exec .blkRstNRelease s = .next { s with rst := { s.rst with blkPin := false } })
  ∧ (∀ (s : State), s.rst.blk = true → s.rst.por = false → s.rst.blkPin = false → s.fld R.pfmState 1 0 = 1 →
    exec .blockInitDone s
      = .next { s with rst := { s.rst with blk := false }, cst := { s.cst with scrubFrom := s.now } }
    ∧ ({ s with rst := { s.rst with blk := false }, cst := { s.cst with scrubFrom := s.now } } : State).up = true)

/-- Resets of a partition, a function, a tap, a port and a channel (R412, R414 to R418): each leaves its unit at its reset
state and lets a freeing pass free the wells of its masters; a tap is in reset for as long as its pin is low, its wells are freed
from the release of the pin on, and its reset ends when TP_READY returns. -/
def Obligations.UnitResetsRestoreUnits : Prop :=
  (∀ (s : State) (acc : Acc), Reached s acc R.pfmRst → s.rst.kst = 0 → s.homeChips = [] →
    (∀ p : BitVec 5, p.toNat < s.nPart → ∃ t, exec (.partitionReset acc p) s = .next t ∧ t.pstate p.toNat = 0
      ∧ (2, p.toNat) ∈ t.rst.raised ∧ (t.prt p.toNat).begun = false ∧ (t.prt p.toNat).tbl = none
      ∧ (∀ c b, c < 18 → t.act c = some b → b.part ≠ p.toNat) ∧ (∀ n ∈ t.pipe.notices, n.part ≠ p.toNat)
      ∧ (∀ r u, r < 3 → u ∈ s.units p.toNat r → (p.toNat, r, u) ∈ t.cst.initd) ∧ t.grid = s.grid)
    ∧ (∀ f : BitVec 8, f.toNat < s.nFunc → s.absorbed (if f = 0 then none else some (s.fPart f.toNat)) = false →
      ∀ src, src = .write acc ∨ src = .pin ∧ s.up = true →
      ∃ t, exec (.functionReset src f) s = .next t ∧ (t.fn f.toNat).cmds = [] ∧ (t.fn f.toNat).waits = []
        ∧ (t.fn f.toNat).cmdProd = 0 ∧ (t.fn f.toNat).cplProd = 0 ∧ t.fld (R.pfmFstate f.toNat) 1 0 = 0
        ∧ (s.chip, 0x1000 + f.toNat) ∈ t.wel.pend ∧ t.cst = s.cst
        ∧ ∀ o, o < 0x1000 → t.reg (0x100000 + 0x1000 * f.toNat + o) = (regReset (0x100000 + 0x1000 * f.toNat + o)).toNat)
    ∧ (∀ c : BitVec 6, c.toNat < s.snapChan → s.absorbed (s.chanPart c.toNat) = false →
      ∃ t, exec (.pumpChannelReset acc c) s = .next t ∧ (s.chip, 0x1100 + c.toNat) ∈ t.wel.pend
        ∧ t.flag (R.pmpCcfg c.toNat) 31 = false
        ∧ (s.cstate c.toNat = 0 ∨ s.cstate c.toNat = 4 ∨ s.isC = false ∧ (s.cstate c.toNat = 1 ∨ s.cstate c.toNat = 5) →
          t.cstate c.toNat = 0 ∧ t.ccnt c.toNat = 0 ∧ t.pair (R.pmpCcur c.toNat) = s.pair (R.pmpChead c.toNat))
        ∧ (s.isC = false → s.pumpStopped = false → s.cstate c.toNat = 2 →
          t.cstate c.toNat = 3 ∧ (t.chan c.toNat).reset = true)
        ∧ (s.isC = true → s.cstate c.toNat = 2 → t.cstate c.toNat = 6 ∧ (t.chan c.toNat).reset = true))
    ∧ (∀ k : BitVec 3, k.toNat < s.nPort → ∃ t, exec (.culvertPortReset acc k) s = .next t
        ∧ t.port k.toNat = {} ∧ t.linkState k.toNat = bit (s.flag (R.culPcfg k.toNat) 31)
        ∧ t.fld (R.culPdropCnt k.toNat) 31 0 = 0 ∧ t.cst = s.cst ∧ t.wel = s.wel))
  ∧ (∀ (s : State) (src : ResetSrc) (i : BitVec 12) (t0 l : Nat), s.Ready → s.homeChips = [] →
    (src = .pin ∧ i.toNat = t0 ∧ s.tapGood t0 = true ∧ s.logical t0 = some l
      ∨ ∃ acc, src = .write acc ∧ Reached s acc R.pfmRst ∧ i.toNat = l ∧ s.physical l = some t0 ∧ s.logical t0 = some l
        ∧ s.tapOwner l = s.tapPart t0) →
    s.absorbed (s.tapPart t0) = false → (s.tap t0).fifo = [] → (s.tap t0).hold = [] → (s.leaf (t0 / 4)).store = [] →
    s.pipe.tokens = [] → s.act 16 = none → s.act 17 = none →
    ∃ t, exec (.tapReset src i) s = .next t ∧ (t.tap t0).reset = true ∧ t.tapReady t0 = false ∧ t.cst = s.cst
      ∧ (src = .pin → (t.tap t0).resetPin = true ∧ t.wel = s.wel)
      ∧ (src ≠ .pin → (s.tap t0).resetPin = false → (s.chip, l) ∈ t.wel.pend))
  ∧ (∀ (s : State) (tap : BitVec 12), s.Calm →
    let x := s.tap tap.toNat
    let high := s.setTap tap.toNat { x with resetPin := false }
    (x.resetPin = false → exec (.tapRstNRelease tap) s = .next s)
    ∧ (x.resetPin = true → s.up = false →
      ∃ t, exec (.tapRstNRelease tap) s = .next t ∧ (t.tap tap.toNat) = { x with resetPin := false, reset := false }
        ∧ t.wel = s.wel ∧ t.cst = s.cst)
    ∧ (∀ l, x.resetPin = true → x.reset = true → s.up = true → s.held = [] → s.logical tap.toNat = some l → s.homeChips = [] →
      (s.chip, l) ∉ s.wel.pend →
      exec (.tapRstNRelease tap) s = .next { high with wel := { s.wel with pend := s.wel.pend ++ [(s.chip, l)] } })
    ∧ ((x.resetPin = true ∨ ∃ l, s.logical tap.toNat = some l ∧ s.freeing s.chip l = true) →
      exec (.tpReadyReturn tap) s = .next s)
    ∧ (x.resetPin = false → (∀ l, s.logical tap.toNat = some l → s.freeing s.chip l = false) →
      exec (.tpReadyReturn tap) s = .next (s.setTap tap.toNat { x with reset := false })))

/-- Clocks, power states and the configuration record (R400, R402, R406, R407, R409): a lost clock is noted and what waited
for it goes out when it returns, a response of the control network at a credit of its attachment point (R431); the wake timer starts a wake, and its end is K0; COMMIT needs presence and a record that
passes, a rewrite is checked by reading back, RELOAD reads the record in CFG_FAULT, and a record that fails leaves its cause. -/
def Obligations.PowerStatesAndRecord : Prop :=
  (∀ (s : State) (k : BitVec 2), k ≠ 3 →
    let c := s.clk
    let lost := fun b => if k = 0 then { c with lostTb := b } else if k = 1 then { c with lostM := b } else { c with lostC := b }
    let u : State := { s with clk := lost true }
    exec (.clockLoss k) s = .next (if s.up then u.setFlag R.pfmClkStatus k.toNat true else u)
    ∧ (k = 0 → c.waitC = [] → exec (.clockReturn k) s = .next { s with clk := lost false })
    ∧ (k = 1 → c.waitC = [] → exec (.clockReturn k) s = .next { s with
        clk := { c with lostM := false, waitM := [] }, out := s.out ++ c.waitM })
    ∧ (k = 2 → c.waitC = [] → exec (.clockReturn k) s = .next { s with clk := { c with lostC := false } })
    ∧ (∀ a d w, k = 2 → c.waitC = [.cnp a d w] → exec (.clockReturn k) s = .next (if tget 0 c.cred a = 0
        then { s with clk := { c with lostC := false } }
        else { s with clk := { c with lostC := false, waitC := [], cred := tmod 0 c.cred a (· - 1) },
                      out := s.out ++ [.cnp a d w] })))
  ∧ (∀ (s : State) (t : Nat), s.rst.kst ≠ 0 → s.rst.timer = some t →
    (t ≤ s.view → exec .wakeTimer s = .next { s with rst := { s.rst with timer := none, waking := true } })
    ∧ (s.view < t → exec .wakeTimer s = .next s))
  ∧ (∀ (s : State), s.Calm → s.rst.kst ≠ 0 → s.rst.waking = true → s.glink.due = false →
    (∀ k, ∀ b ∈ (s.port k).rx, b.btype ≠ 15) →
    exec .wakeDone s = .next { s with rst := { s.rst with
      kst := 0, waking := false, timer := none, entered := s.now,
      spent := tset 0 s.rst.spent s.rst.kst (tget 0 s.rst.spent s.rst.kst + (s.now - s.rst.entered)) } })
  ∧ (∀ (s : State) (acc : Acc), Reached s acc R.pfmCfgCtrl → s.rst.job = .none →
    let m := s.staged
    (s.rewriteOk = false → Takes s acc (.commit acc) (fun s => s.privRefuse.cfgFail Fc.presenceRequired))
    ∧ (s.rewriteOk = true → recordCause s.isC m ≠ 0 → Takes s acc (.commit acc) (fun s => s.cfgFail Fc.descFormat))
    ∧ (s.rewriteOk = true → recordCause s.isC m = 0 → Takes s acc (.commit acc) (fun s =>
        let u := (s.setIsland (s.island.presence 2)).setFlag R.pfmCfgCtrl 0 true
        { u with rst := { s.rst with job := .rewrite m }, out := u.out ++ [.cfgWrite m] }))
    ∧ (s.fld R.pfmState 1 0 = 2 → Takes s acc (.reload acc) (fun s => { s.setFlag R.pfmCfgCtrl 1 true with
        rst := { s.rst with job := .reload }, out := s.out ++ [.cfgRead] }))
    ∧ (s.fld R.pfmState 1 0 ≠ 2 → Takes s acc (.reload acc) (fun s => s)))
  ∧ (∀ (s : State) (m r : List Byte) (late : Bool), s.rst.job = .rewrite m →
    let u := ({ s with rst := { s.rst with job := .none } } : State).setFlag R.pfmCfgCtrl 0 false
    exec (.configRewriteDone late r) s = .next (if late = false ∧ r = m
      then (u.setFld R.pfmCfgStatus 15 8 0).setFlag R.pfmCfgStatus 1 true else u.cfgFail Fc.busFault))
  ∧ (∀ (s : State) (m : List Byte), s.Inv → s.rst.job = .load →
    (recordCause s.isC m = 0 → ∃ t, exec (.recordLoadDone m) s = .next t ∧ t.fld R.pfmState 1 0 = 1 ∧ t.rst.record = m
      ∧ t.rst.job = .none ∧ t.reg R.pfmBuild = bytesAt m 2 2 ∧ t.reg R.culChipid = bytesAt m 6 2
      ∧ (∀ w, w < 128 → t.reg (R.pfmCfgMap w) = bytesAt m (0x20 + 4 * w) 4) ∧ t.cst = s.cst)
    ∧ (recordCause s.isC m ≠ 0 →
      exec (.recordLoadDone m) s = .next (({ s with rst := { s.rst with job := .none } } : State).setReg R.pfmState
        (recordCause s.isC m * 16 + 2))))

/-- R196: a CREDIT_RETURN(n) with n not greater than COUNT is applied and answered OK, whether its grant entry is ACTIVE or
there is none; one with n greater than COUNT is answered EXCESS and counted in HG_PCRED_RXS_CNT, and changes and grants
nothing else; CREDIT_RETURN(0) changes nothing. -/
def Obligations.CreditReturnIsAppliedOrExcess : Prop :=
  ∀ (s : State) (q : CnpReq) (p n : Nat), Serves s q p n →
    let e := s.entry n
    let k := bits q.a.toNat 19 0
    let e' := { e with count := e.count - BitVec.ofNat 20 k }
    let owes := fun (u : State) => match s.grantIdx p q.index.toNat with
      | some g =>
        if (s.grant g).state ≠ 1 then u
        else if (s.grant g).owed.toNat + k < 2 ^ 20 then
          u.setGrant g { s.grant g with owed := (s.grant g).owed + BitVec.ofNat 20 k }
        else { u.setGrant g { s.grant g with owed := BitVec.ofNat 20 s.free } with freeCtr := s.freeCtr + 1 }
      | none => u
    e.status = stArmed → e.kind = kCredit → q.gen = e.gen →
    (k ≤ e.count.toNat → Gives s (.creditReturn q) q (owes (s.setEntry n e')) (e'.rsp Res.ok))
    ∧ (k = 0 → Gives s (.creditReturn q) q s (e.rsp Res.ok))
    ∧ (e.count.toNat < k → Gives s (.creditReturn q) q (s.bump (R.hgPcredRxsCnt p) 1) (e.rsp Res.excess))

/-- A well that a master holds stays its own: where no word has a symbol error, no READ, SEM_ADD, CAS or SWAP of another master
changes its OWNER or its ABANDONED (R224). -/
def Obligations.WellStaysWithItsOwner : Prop :=
  ∀ (s t : State) (q : CnpReq) (i : Instr) (n : Nat), s.Calm → s.cst.err = [] →
    (i = .read q ∨ i = .semAdd q ∨ i = .cas q ∨ i = .swap q) → exec i s = .next t →
    wellOwner (s.well n) ≠ ownerFree → wellOwner (s.well n) ≠ ownerOf s.chip (s.masterId q.master.toNat) →
    wellOwner (t.well n) = wellOwner (s.well n) ∧ wellAband (t.well n) = wellAband (s.well n)

/-- R29 and R30: the boundaries of ticks and slots. A tick lasts HG_TICK_LEN units, plus one unit in exactly NUM of every DEN
consecutive ticks (NUM is less than DEN wherever the grid runs: R33); two slots of one tick differ by at most one unit. -/
def Obligations.GridBoundariesFollowTheFormula : Prop :=
  ∀ s : State, let len := s.pair R.hgTickLen % 2 ^ 40
    let num := s.reg R.hgTickFrac % 2 ^ 16
    let den := s.reg R.hgTickFrac / 2 ^ 16
    let slots := s.reg R.hgSlots % 2 ^ 16 + 1
    let t := s.gridT
    let b := fun n k => s.gridB (n * slots + k)
    (∀ n, t n = 256 * s.pair R.hgEpoch + n * len + n * num / den)
    ∧ (num < den → (∀ n, t (n + 1) = t n + len ∨ t (n + 1) = t n + len + 1)
      ∧ ∀ n, (List.range den).countP (fun i => t (n + i + 1) == t (n + i) + len + 1) = num)
    ∧ 1 ≤ slots ∧ slots ≤ 65536
    ∧ (∀ n k, k < slots → b n k = t n + k * (t (n + 1) - t n) / slots)
    ∧ (∀ n j k, num < den → j < slots → k < slots → b n (j + 1) - b n j ≤ b n (k + 1) - b n k + 1)

/-- The block right after reset (R402, R413): every register at its reset word, the stores empty, the read of the record under
way. A record that passes, and then the end of the block reset, bring the block up, in K0, with every partition STOPPED and
every channel DISABLED (that reset words and stores are these where the spec gives no value is the model's choice:
assumption 5). -/
def Obligations.ResetStateAndBringUp : Prop :=
  let s := State.reset
  s.Inv ∧ s.up = false ∧ s.pending = [] ∧ s.clk.tb = 0 ∧ s.rst.job = .load
  ∧ (∀ off, s.reg off = (regReset off).toNat) ∧ s.reg R.hgMinSlot = 11703 ∧ s.reg R.pfmScrubPeriod = 3600
  ∧ (∀ n, s.well n = freeWell) ∧ (∀ n, s.basin n = 0) ∧ (∀ n, s.entry n = {})
  ∧ ∀ m, recordCause false m = 0 → ∃ t u, exec (.recordLoadDone m) s = .next t ∧ exec .blockInitDone t = .next u
    ∧ u.up = true ∧ u.rst.kst = 0 ∧ u.Calm ∧ (∀ p, p < 32 → u.pstate p = 0) ∧ ∀ c, c < 62 → u.cstate c = 0

/-- Every command leaves the build and the queue, answers a next state, and keeps the invariant. -/
def Obligations.CommandsAnswerAndKeepInvariant : Prop := ∀ (i : Instr) (s : State), ∃ t, exec i s = .next t ∧ Evolves s t

/-- Every step keeps the invariant: the stores of every unit stay in canonical form and the power state legal. -/
def Obligations.StepsKeepTheInvariant : Prop := ∀ s t : State, s.Inv → step s = .next t → t.Inv ∧ t.build = s.build

/-- A Spillway fill whose image passes R60 is installed in its frame with SPILLED 0, and the frame is tagged with the
cistern; the write-back of a frame's occupant leaves the frame fresh and empty and issues the read of the image that waits
for it; a miss that times out is answered SPILL_TIMEOUT and writes one fault entry (R94, R96, R453). -/
def Obligations.SpillwayFillsAndWritesBack : Prop :=
  ∀ (s : State) (x : Fill), s.cst.fills = [x] → ({ s with cst := { s.cst with fills := [] } } : State).Calm →
    s.pump.waits = [] →
    (∀ (cnum : Cnum) (image : W128) (resp : BitVec 2), cnum.toNat = x.cnum → x.reading = true → resp.toNat < 2 →
      (Cistern.unpack image).sound x.part = true → s.cst.miss = [] →
      let c := { s.cst with
        fills := [], ent := tset {} s.cst.ent x.frame { Cistern.unpack image with spilled := false },
        err := tset 0 s.cst.err (errKey 0 x.frame) 0, bad := tset false s.cst.bad x.frame false,
        tags := tset 0 s.cst.tags x.frame (x.cnum + 1) }
      let m := { s.pump with reads := s.pump.reads.eraseP (fun t => t.who == .spill x.cnum) }
      ∃ t, exec (.spillwayFillDone cnum image resp) s = .next t ∧ t.out = s.out
        ∧ Accounts { s with cst := c, pump := m } t)
    ∧ (∀ (frame : BitVec 21) (resp : BitVec 2) (data : Nat), frame.toNat = x.frame → x.evicting = true →
      x.reading = false → x.failed = false → resp.toNat < 2 → s.clk.lostM = false → s.pump.reads.length < 32 →
      let occ := tget 0 s.cst.tags x.frame - 1
      let a := s.imageAddr x.part x.cnum
      s.pump.writes = [⟨.spill occ, s.imageAddr x.part occ, 16, none, true, data⟩] →
      let c := { s.cst with
        ent := tset {} s.cst.ent x.frame (Cistern.fresh x.part true), tags := tset 0 s.cst.tags x.frame 0,
        fills := [{ x with evicting := false, reading := true }] }
      exec (.spillwayWriteBackDone frame resp) s = .next { s with
        cst := c, out := s.out ++ [.memRead (.spill x.cnum) a 16 none 15],
        pump := { s.pump with
          writes := [], reads := s.pump.reads ++ [⟨.spill x.cnum, a, 16, none, false, 0⟩], sysTurn := 0 } })
    ∧ (∀ (cnum : Cnum) (o : BankOp) (p a t d : Nat) (w : Bool), o.index = cnum.toNat → o.part = some p →
      o.origin = .cnp a t d w → s.cst.miss = [.op o] → x.reading = true → x.failed = false →
      let r : BankRsp := { result := Res.spillTimeout }
      ∃ u, Accounts { s with cst := { s.cst with miss := [] } } u ∧ u.out = s.out
        ∧ exec (.spillMissTimeout cnum) s = .next ((if w then u.emit (.cnp a d (r.flit t)) else u).fault p
            { code := Fc.spillMissTimeout, cnum := cnum.toNat, unit := 3 }))

/-- An accepted ARRIVE of a tap is answered ACCEPT and adds 1 to the static count of its channel, which is below its target
afterwards. An ARRIVE_N takes its place, in tap order, among those of its cycle; the pass over them answers it ACCEPT and adds its
number, where the leaf sum stays at most 7 (R115, R138). -/
def Obligations.TapArrivalsCountInTheChannel : Prop :=
  ∀ (s : State) (tap : BitVec 12) (cnum : Cnum) (x : Bind), TapServes s tap cnum x →
    let l := tap.toNat / 4
    let v := s.leafSum l x.chan
    x.chan < 16 → s.act x.chan = some x → x.mode = .normal →
    (x.static + 1 + x.side < x.target →
      ∃ t, exec (.tapArrive tap cnum ⟨true, none⟩) s = .next t ∧ t.out = s.out ++ [.tapRsp tap.toNat 0]
        ∧ TapAccounts (s.arrived l x.chan (v + 1) { x with static := x.static + 1 }) t)
    ∧ (∀ (arg : BitVec 22), arg.toNat ≤ 7 →
      let m : Multi := ⟨tap.toNat, x.chan, cnum.toNat, arg.toNat, false⟩
      let before := s.pipe.multi.filter (fun e => decide (e.tap ≤ tap.toNat))
      let after := s.pipe.multi.filter (fun e => decide (tap.toNat < e.tap))
      let t := { s with pipe := { s.pipe with multi := before ++ m :: after } }
      exec (.tapArriveN tap cnum arg true) s = .next t
      ∧ (s.pipe.multi = [] → v + arg.toNat ≤ 7 → x.static + arg.toNat + x.side < x.target →
        let u := t.judgeMulti (fun _ => true)
        u.out = s.out ++ [.tapRsp tap.toNat 0]
        ∧ TapAccounts (s.arrived l x.chan (v + arg.toNat) { x with static := x.static + arg.toNat }) u))

/-- A tap request is refused without effect on any channel: FENCED at a fenced tap, ILLEGAL where LAST is wrong or the opcode is
none of the three, NOT_BOUND where no entry of its leaf has the cistern, where the entry is of the other kind of channel, and for
an ARRIVE_N of more than 7 (R138). -/
def Obligations.TapRefusalsHaveNoEffect : Prop :=
  ∀ (s : State) (tap : BitVec 12) (cnum : Cnum) (arg : BitVec 22) (data : Payload) (last : Bool) (code : Option (BitVec 4))
    (i : Instr), s.Ready → s.tapReady tap.toNat = true → s.tapWaits tap.toNat = false →
    (i = .tapArrive tap cnum ⟨last, code⟩
      ∨ code = none ∧ (i = .tapArriveN tap cnum arg last ∨ i = .tapReduce tap cnum arg data last)) →
    let refused := fun (r : Nat) => ∃ t, exec i s = .next t ∧ t.pipe.act = s.pipe.act ∧ t.pipe.tokens = s.pipe.tokens
      ∧ t.pipe.sums = s.pipe.sums ∧ t.pipe.multi = s.pipe.multi ∧ t.cst = s.cst ∧ t.out = s.out ++ [.tapRsp tap.toNat r]
    (s.fenced tap.toNat = true → refused 2)
    ∧ (s.fenced tap.toNat = false → (last && code.isNone) = false → refused 3)
    ∧ (s.fenced tap.toNat = false → last = true → code = none → s.leafEntry tap.toNat cnum.toNat = none → refused 1)
    ∧ (∀ x, s.fenced tap.toNat = false → last = true → code = none → s.leafEntry tap.toNat cnum.toNat = some x →
      (i = .tapReduce tap cnum arg data last ∧ x.chan < 16 ∨ i ≠ .tapReduce tap cnum arg data last ∧ 16 ≤ x.chan
        ∨ i = .tapArriveN tap cnum arg last ∧ 7 < arg.toNat) → refused 1)

/-- An accepted TAP_REDUCE puts one token, widened, into its leaf's input; a router that holds the tokens of every child
of its effective mask sends one combined token of the least CHAIN to its parent (R138, R139, R167). -/
def Obligations.PayloadTokensCombineUpward : Prop :=
  (∀ (s : State) (tap : BitVec 12) (cnum : Cnum) (arg : BitVec 22) (data : Payload) (x : Bind), TapServes s tap cnum x →
    16 ≤ x.chan →
    let mask := effMask x.rmode (bits arg.toNat 15 0)
    let k : Token := { chan := x.chan, level := 1, router := tap.toNat / 4, child := tap.toNat % 4,
                       chain := bits arg.toNat 21 16, mask := mask, ncont := 1, null := mask == 0,
                       data := widen x.rmode mask data }
    ∃ t, exec (.tapReduce tap cnum arg data true) s = .next t ∧ t.out = s.out ++ [.tapRsp tap.toNat 0]
      ∧ TapAccounts { s with pipe := { s.pipe with tokens := s.pipe.tokens ++ [k] } } t)
  ∧ (∀ (s : State) (chan : BitVec 5) (level : BitVec 3) (router : BitVec 10) (b : Bind),
    let held := s.heldTokens chan.toNat level.toNat router.toNat
    let use := held.filter (fun k => k.chain == minChain held)
    s.Calm → s.act chan.toNat = some b → use ≠ [] → level.toNat < s.depth →
    (∀ j, j < 4 → (s.effective b level.toNat router.toNat).testBit j = true → ∃ k ∈ use, k.child = j) →
    (∀ k ∈ s.heldTokens chan.toNat (level.toNat + 1) (router.toNat / 4), k.child ≠ router.toNat % 4) →
    let v := combineTokens b.rmode use
    let k : Token := { chan := chan.toNat, level := level.toNat + 1, router := router.toNat / 4,
                       child := router.toNat % 4, chain := minChain held, mask := v.1,
                       ncont := (use.map (·.ncont)).sum, null := use.all (·.null), data := v.2 }
    exec (.payloadCombine chan level router) s = .next
      { s with pipe := { s.pipe with tokens := s.pipe.tokens.filter (fun t => !use.contains t) ++ [k] } })

/-- A miscompare of a paired router with one bad copy names the copy that is out, sets PAIR_EVT and writes an always-on
record; a leaf's self-check failure writes one too, and a fault entry to the partition bound through the leaf (R154,
R155). -/
def Obligations.RouterFaultsAreRecorded : Prop :=
  ∀ (s : State),
    (∀ (pair : BitVec 9) (level r : Nat), s.pairRouter pair.toNat = some (level, r) →
      let off := R.spPair (pair.toNat / 16)
      let i := 2 * (pair.toNat % 16)
      s.fld off (i + 1) i = 0 →
      exec (.pairMiscompare pair true false) s = .next
        (((s.setFld off (i + 1) i 1).setFlag R.spStatus 1 true).ao { type := 0x07, unit := 7, aux := 1, info := pair.toNat })
      ∧ exec (.pairMiscompare pair false true) s = .next
        (((s.setFld off (i + 1) i 2).setFlag R.spStatus 1 true).ao { type := 0x07, unit := 7, aux := 2, info := pair.toNat }))
    ∧ (∀ (leaf : BitVec 10) (p : Nat), 4 * leaf.toNat < s.nTap → s.boundThrough 1 leaf.toNat = [p] →
      exec (.leafSelfCheckFailure leaf) s = .next
        ((s.ao { type := 0x07, unit := 7, code := Fc.codeUncorrectable, info := leaf.toNat }).fault p
          { code := Fc.codeUncorrectable, unit := 7 }))

/-- RELEASE_ISSUE gives the oldest notice a context and sends its release to its target tap: the token of R120, with the
context's number of outstanding targets 1 (R120 to R122). -/
def Obligations.ReleaseIsSentToItsTarget : Prop :=
  ∀ (s : State) (n : Notice) (rest : List Notice) (l j : Nat), s.Ready →
    s.pipe.notices = n :: rest → s.pipe.ctxs.all (fun c => !c.waiting) = true → s.pipe.ctxs.length < 4096 →
    s.findCtx s.pipe.nextRid = none → s.ctxHeld n = false → (s.prt n.part).closing = none → n.root = none → n.reduce = false →
    (∀ w ∈ s.listWords n.rlist, tget 0 s.cst.err (errKey 2 w) = 0) → s.listTargets n.rlist = [(l, 2 ^ j)] → j < 4 →
    s.fenced (4 * l + j) = false → s.pbdDelay (4 * l + j) n.cnum = none →
    (s.tap (4 * l + j)).fifo = [] → (s.tap (4 * l + j)).hold = [] →
      let k : Tok := { opc := 6, cnum := n.cnum, status := n.status, seq := n.gen % 256, empty := n.empty,
                       rid := some s.pipe.nextRid, part := n.part, layer := n.layer, oper := n.oper }
      let c : Ctx := { rid := s.pipe.nextRid, note := n, left := 1, judge := (s.prt n.part).tick.toNat,
                       slot := (s.prt n.part).slot, kclk := s.clk.kclk }
      let u := { s.pipe with
        notices := rest, ctxs := s.pipe.ctxs ++ [c], nextRid := s.pipe.nextRid + 1,
        taps := tset {} s.pipe.taps (4 * l + j) { s.tap (4 * l + j) with fifo := [k] } }
      ∃ t, exec .releaseIssue s = .next t ∧ t.out = s.out ∧ TapAccounts { s with pipe := u } t

/-- A held release moves into its FIFO; a taken token leaves it, and a release is acknowledged through the leaf's report
queue; the last acknowledgement ends the release and returns a DONE cistern of its generation to IDLE (R122, R124, R146,
R150). -/
def Obligations.ReleaseIsTakenAndAcknowledged : Prop :=
  (∀ (s : State) (tap : BitVec 12) (k : Tok) (rest : List Tok), (s.tap tap.toNat).hold = k :: rest →
    (s.tap tap.toNat).fifo.length < 16 → (∀ e ∈ (s.tap tap.toNat).fifo, e.cnum ≠ k.cnum) →
    exec (.holdToFifo tap) s = .next
      (s.setTap tap.toNat { s.tap tap.toNat with fifo := (s.tap tap.toNat).fifo ++ [k], hold := rest }))
  ∧ (∀ (s : State) (tap : BitVec 12) (k : Tok) (rest : List Tok) (rid : Nat), s.tapReady tap.toNat = true →
    (s.tap tap.toNat).fifo = k :: rest → k.taken = false → k.opc ≤ 7 → k.rid = some rid →
    (s.leaf (tap.toNat / 4)).reports = [] →
    ∃ t, exec (.releaseTake tap) s = .next t ∧ t.out = s.out ++ [.tapTok tap.toNat k.wires]
      ∧ t.pipe.taps = tset {} s.pipe.taps tap.toNat { s.tap tap.toNat with fifo := rest }
      ∧ (t.leaf (tap.toNat / 4)).reports = [⟨rid, 2 ^ (tap.toNat % 4), true⟩]
      ∧ t = { s with out := t.out, pipe := { s.pipe with taps := t.pipe.taps, leafs := t.pipe.leafs } })
  ∧ (∀ (s : State) (leaf : BitVec 10) (rid m n : Nat) (c : Ctx), s.Calm → 4 * leaf.toNat < s.nTap →
    (s.leaf leaf.toNat).reports = [⟨rid, m, true⟩] → (s.leaf leaf.toNat).lost = [] →
    (∀ e ∈ s.pipe.taps, ∀ k ∈ e.2.fifo, k.taken = false) →
    s.findCtx rid = some c → c.left ≤ popcount 4 m → s.slotOf c.note.part c.note.cnum = some n →
    (s.entry n).status = stDone → (s.entry n).gen.toNat = c.note.gen → (s.entry n).sound c.note.part = true →
    tget false s.cst.bad n = false → tget 0 s.cst.err (errKey 0 n) = 0 →
    let u := (s.setLeaf leaf.toNat { s.leaf leaf.toNat with reports := [] }).abandonCtx rid
    ∃ t, exec (.reportCycle leaf) s = .next t ∧ t.out = s.out
      ∧ Accounts (u.setEntry n { s.entry n with status := stIdle }) t ∧ t.findCtx rid = none)

/-- A grant message moves the credits owed to the tap's slot; a leaf places one of them as a CREDIT_GRANT token
(R201, R202). -/
def Obligations.GrantsReachSlotAndTap : Prop :=
  (∀ (s : State) (entry : BitVec 13) (p c : Nat), s.rst.kst = 0 →
    let g := s.grant entry.toNat
    let x := s.tap g.tap
    let y := tget {} x.slots g.gslot
    s.grantOwner entry.toNat = some (p, c) → g.state = 1 → 0 < g.owed.toNat → (s.prt p).halted = false → s.stopped = false →
    s.pstate p ≠ 3 → s.fenced g.tap = false → s.pbdDelay g.tap c = none → y.n + g.owed.toNat ≤ 1048575 →
    exec (.grantMessage entry) s = .next ((s.setGrant entry.toNat { g with owed := 0 }).setTap g.tap
      { x with slots := tset {} x.slots g.gslot { y with seq := g.gen % 256, n := y.n + g.owed.toNat } }))
  ∧ (∀ (s : State) (leaf : BitVec 10) (j g p : Nat), s.creditTurn leaf.toNat = some (j, g) →
    let t0 := 4 * leaf.toNat + j
    let x := s.tap t0
    let y := tget {} x.slots g
    s.ownerCnum y.cnum = some p →
    let x' := { x with
      slots := tset {} x.slots g { y with n := y.n - 1 },
      fifo := x.fifo ++ [{ opc := 0xC, cnum := y.cnum, status := 1, seq := y.seq, part := p }] }
    ∃ t, exec (.creditGrantPlace leaf) s = .next t ∧ t.out = s.out
      ∧ TapAccounts { s with pipe := { s.pipe with taps := tset {} s.pipe.taps t0 x' } } t)

/-- Rows of a schedule (R114): ROW_ARM arms as the command does; BIND leaves the staging buffer, and one that is late is recorded
BIND_MISS; RELEASE_AT takes an ARMED cistern to DONE whatever its COUNT, and a COUNT below TARGET is recorded, as is a cistern that is
not ARMED; CHECK records a COUNT that is not the one named and a STATUS that is not; SNAPSHOT_ROW requests a snapshot. -/
def Obligations.ScheduleRowsActOnCisterns : Prop :=
  (∀ (s : State) (p : BitVec 5) (r : Staged) (n : Nat), RowServes s p r n →
    let e := s.entry n
    let s1 := s.rowOut p.toNat r
    let d := ArmDef.of r.row.arg (BitVec.ofNat 64 (r.row.layer * 2 ^ 12 + r.row.oper))
    let x := { d.inForce e with gen := e.gen + 1, count := 0, status := stArmed, part := p }
    let done := { e with status := stDone }
    let a := r.row.arg.toNat
    (r.row.action = 2 → (e.status = stIdle ∨ e.status = stLate ∨ e.status = stFault) →
      s.armCheck p.toNat n d (d.inForce e) = none → x.kind ≠ kCredit → x.met = false →
      let u := (s1.healBasins p.toNat x).setEntry n x
      Reaches s (.rowArm p) (if d.deadline then u.setDeadline p.toNat r.row.cnum x.gen.toNat else u))
    ∧ (r.row.action = 3 → e.status = stArmed → e.kind ≠ kReduce → e.kind ≠ kCredit → s.Local p.toNat r.row.cnum e →
      let note : Notice := { cnum := r.row.cnum, gen := e.gen.toNat, part := p.toNat, rlist := e.rlist.toNat, status := 2,
                             basin := e.basin.toNat }
      let u := { s1.setEntry n done with pipe := { s.pipe with notices := s.pipe.notices ++ [note] } }
      Reaches s (.releaseAt p) (if e.count.toNat < e.target.toNat then u.sb p.toNat (r.row.sb 0x08 done) else u))
    ∧ (r.row.action = 3 → e.status ≠ stArmed → Reaches s (.releaseAt p) (s1.sb p.toNat (r.row.sb 0x09 e)))
    ∧ (r.row.action = 4 →
      let u := if a.testBit 20 = true ∧ e.count.toNat ≠ bits a 19 0 then
          s1.sb p.toNat { r.row.sb 0x01 e with expect := bits a 19 0 } else s1
      Reaches s (.check p) (if (bits a 29 24).testBit e.status.toNat = true then u
        else u.sb p.toNat { r.row.sb 0x02 e with expect := bits a 19 0 })))
  ∧ (∀ (s : State) (p : BitVec 5) (r : Staged), RowDue s p r →
    let s1 := s.rowOut p.toNat r
    (r.row.action = 1 → r.late = false → Reaches s (.bind p) s1)
    ∧ (r.row.action = 1 → r.late = true → r.tick ≠ (s.prt p.toNat).tick.toNat →
      Reaches s (.bind p) (s1.sb p.toNat
        { type := 0x04, cnum := r.row.cnum, layer := r.row.layer, oper := r.row.oper }))
    ∧ (r.row.action = 5 → Reaches s (.snapshotRow p) (s1.modPrt p.toNat (fun x => { x with snapReq := true }))))

/-- Staging (R109 to R113): a row within DEPTH slots is read from its place in the image; a row that passes its checks
enters the staging buffer; the swap strobe marks the channels whose shadow is complete; the write of a scoreboard record advances
its PROD (R126). -/
def Obligations.RowsAreReadAndStaged : Prop :=
  ∀ (s : State) (p : BitVec 5), s.pump.waits = [] →
    let x := s.prt p.toNat
    (∀ n i t n0, s.pstate p.toNat = 2 → x.tbl.isSome = true → x.stErr = false → s.stageRoom p.toNat = true →
      s.nextRow p.toNat 66 x.stTick x.stIdx = some (n, i, t, n0) →
      let k := t.place n0 n i
      let a := t.base + t.rowOff + 32 * k
      let q : MemTxn := ⟨.row p.toNat, a, 32, none, false, 0⟩
      let last := t.rowsOf ((n - n0) % t.ntick) ≤ i + 1
      n * s.nSlot + t.slots.getD k 0 ≤ x.tick.toNat * s.nSlot + x.slot + s.fld R.raeCtrl 6 0 → s.clk.lostM = false →
      s.memBusy q = false → s.pump.reads.length < 32 →
      exec (.rowStaging p) s = .next { s with
        out := s.out ++ [.memRead (.row p.toNat) a 32 none 15],
        pump := { s.pump with reads := s.pump.reads ++ [q], sysTurn := 0 },
        parts := tset {} s.parts p.toNat { x with
          reads := x.reads ++ [(n, i, a)], stTick := if last then n + 1 else n, stIdx := if last then 0 else i + 1 } })
    ∧ (∀ (w : BitVec 256) (resp : BitVec 2) n i a rest, s.Calm → resp.toNat < 2 → x.reads = (n, i, a) :: rest → n ≠ noTick →
      let row := Row.of w.toNat
      (s.rowsNext p.toNat = false ∨ s.comingBinds p.toNat = [] ∧ row.action ≠ 1) →
      s.rowOk p.toNat w.toNat = true → (i ≠ 0 → x.stSlot ≤ row.slot) → row.cnum < 0x200000 →
      (x.due n row.slot = true → row.action ≠ 0) →
      exec (.rowReadDone p w resp) s = .next { s with
        pump := { s.pump with reads := s.pump.reads.eraseP (fun t => t.who == .row p.toNat) },
        parts := tset {} s.parts p.toNat { x with
          reads := rest, stSlot := row.slot,
          staged := x.staged ++ [{ tick := n, row := row, late := x.due n row.slot }] } })
    ∧ (s.rowsNext p.toNat = true → s.comingBinds p.toNat = [] →
      let full := (List.range 18).filter (fun c =>
        (tget none s.pipe.shadow c).any (fun b => b.part == p.toNat && !s.pipe.strobed.contains c))
      exec (.swapStrobe p) s = .next { s with pipe := { s.pipe with strobed := s.pipe.strobed ++ full } })
    ∧ (∀ w (resp : BitVec 2), x.sbQ = [w] → resp.toNat < 2 →
      exec (.scoreboardRecordWriteDone p resp) s = .next
        (((s.memAck (.scoreboard p.toNat)).setPrt p.toNat { x with sbQ := [] }).setFld (R.hgPsbProd p.toNat) 19 0
          (s.fld (R.hgPsbProd p.toNat) 19 0 + 1)))

/-- The link of a port trains (R249): lanes locked take it from PHY to ALIGN with a TRAIN flit; 64 TRAIN flits in a row
without a correction take it to IDENT; IDENT data of the right neighbour takes it to UP, or to HOLD where a die is
missing; a lane lost in ALIGN takes it back to PHY, as the end of DOWN does. -/
def Obligations.LinkTrainsToUp : Prop :=
  ∀ (s : State) (port : BitVec 3), let k := port.toNat
    s.Inv → s.up = true → k < s.nPort →
    (s.linkState k = 1 →
      let u := ((s.setLink k 2).setFld (R.culPstatus k) 28 27 3).modPort k (fun x => { x with train := 0 })
      ∃ w, hdr w 127 124 = 3
        ∧ exec (.laneLock port) s = .next { u.modPort k (fun x => { x with tx := x.tx ++ [w] }) with
            freeCtr := s.freeCtr + 1, out := s.out ++ [.flit k w] })
    ∧ (∀ tf : TrainFlit, s.linkState k = 2 → tf.corrected = false →
      ((s.port k).train < 63 →
        exec (.trainFlit port tf) s = .next (s.setPort k { s.port k with train := (s.port k).train + 1 }))
      ∧ ((s.port k).train = 63 →
        let u := (s.setPort k { s.port k with train := 0 }).setLink k 3
        ∃ w, hdr w 127 124 = 3
          ∧ exec (.trainFlit port tf) s = .next { u.modPort k (fun x => { x with tx := x.tx ++ [w] }) with
              freeCtr := s.freeCtr + 1, out := s.out ++ [.flit k w] }))
    ∧ (∀ tf : TrainFlit, s.linkState k = 3 → tf.corrected = false → tf.ident = true → tf.chip.toNat = s.nbr k →
      tf.rs544 = s.flag (R.culPcfg k) 30 → s.Calm →
      let u := s.setFld (R.culPstatus k) 26 12 (tf.chip.toNat * 8 + tf.port.toNat)
      exec (.trainFlit port tf) s = .next ((u.setLink k (if s.linkMembers k then 4 else 5)).modPort k
        (fun x => { x with lost := false })))
    ∧ (∀ lane, s.linkState k = 2 → s.flag (R.culPstatus k) (27 + bit lane) = true →
      exec (.laneLockLoss port lane) s = .next (((s.setFlag (R.culPstatus k) (27 + bit lane) false).setLink k 1).modPort k
        (fun x => { x with train := 0 })))
    ∧ (s.linkState k = 6 → exec (.downTimerExpiry port) s = .next (s.setLink k 1))

/-- A link fails (R249, R256): 2 µs without progress of ACK with flits outstanding, 16 NAKs without progress, or a tick
without a TICK_MARK under the armed watchdog take the port to DOWN, with DOWN_EVT set and its transport reset; where the
link stays away for LGRACE, the die raises LINKLOSS with effective tick TICKNO + LEAD (R271). -/
def Obligations.LinkFailureLeadsToDown : Prop :=
  ∀ (s : State) (port : BitVec 3) (i : Instr), let k := port.toNat
    let x := s.port k
    s.Calm → s.up = true → s.portParts k = [] →
    ((i = .ackTimeout port ∧ s.linkOpen k = true ∧ x.replay ≠ [])
      ∨ (∃ fl w, isRx i port fl ∧ s.decodes k fl w ∧ hdr w 127 124 = 2 ∧ s.linkOpen k = true ∧ x.naks = 15
          ∧ ∀ e ∈ x.replay, e.1 ≠ hdr w 114 106)
      ∨ (i = .tickMarkWatchdogExpiry port ∧ s.linkUp k = true ∧ s.grid.running = true ∧ x.armed = true
          ∧ 2 ≤ x.unmarked) →
      ∃ t, exec i s = .next t ∧ t.linkState k = 6 ∧ t.flag (R.culPstatus k) 0 = true
        ∧ (t.port k).replay = [] ∧ (t.port k).queue = [] ∧ (t.port k).armed = false ∧ t.out = s.out ∧ t.cst = s.cst)
    ∧ (k < s.nPort → s.flag (R.culPcfg k) 31 = true → x.lost = false →
      (∀ j, j < s.nPort → s.linkOpen j = false) →
      let m : Msg := { src := s.chip, mtype := 0, e := (s.tickno + s.fld R.culMcfg 3 0) % 2 ^ 32,
                       pay := s.chip + k * 2 ^ 12 + s.nbr k * 2 ^ 16 }
      m ∉ s.cul.seen →
      exec (.linkGraceExpiry port) s = .next { s with cul := { s.cul with
        ports := tset {} s.cul.ports k { x with lost := true }, seen := s.cul.seen ++ [m] } })

/-- What an open link receives (R250, R251, R253, R254): the ACK of an IDLE flit frees the replay buffer up to its flit; a NAK has what
is left sent again, in order; what does not decode, or a NORMAL flit that is not the one expected, is answered with one NAK; the one
expected is taken, its beat kept, and acknowledged. FKIND says which it is, whatever the command's row. -/
def Obligations.FlitsAreTakenAndAcknowledged : Prop :=
  ∀ (s : State) (port : BitVec 3) (fl : RxFlit) (i : Instr), let k := port.toNat
    let x := s.port k
    isRx i port fl → s.Calm → s.up = true → s.linkOpen k = true → x.queue = [] → x.counts = [] →
    (∀ f a w b, s.decodes k fl f → x.replay = a ++ (hdr f 114 106, w) :: b → (∀ e ∈ a, e.1 ≠ hdr f 114 106) →
      let y := { x with replay := b, acked := hdr f 114 106, naks := 0 }
      (hdr f 127 124 = 0 → hdr f 38 38 = 0 → exec i s = .next (s.setPort k y))
      ∧ (hdr f 127 124 = 2 → ∃ t, exec i s = .next t ∧ t.out = s.out ++ b.map (fun e => .flit k e.2)
          ∧ t.port k = { y with naks := 1, tx := x.tx ++ b.map (·.2) }
          ∧ t = { s with out := t.out, regs := t.regs, obs := t.obs, cul := { s.cul with ports := t.cul.ports } }))
    ∧ ((rs544Form fl ≠ s.flag (R.culPcfg k) 30 ∨ rxFlits fl = none
        ∨ ∃ f, s.decodes k fl f ∧ hdr f 127 124 = 1 ∧ hdr f 123 115 ≠ x.rxSeq) → x.rejecting = false →
      let w := ({ fkind := 2, ack := (x.rxSeq + 511) % 512, epoch := s.epoch } : Flit).pack
      exec i s = .next { s.setPort k { x with rejecting := true, tx := x.tx ++ [w] } with out := s.out ++ [.flit k w] })
    ∧ (∀ f, s.decodes k fl f → hdr f 127 124 = 1 → hdr f 123 115 = x.rxSeq → s.linkUp k = true → s.matchMode = false →
      s.rst.kst < 2 → (∀ e ∈ x.replay, e.1 ≠ hdr f 114 106) → hdr f 89 74 = 0 → hdr f 38 38 = 0 →
      2 ≤ hdr f 71 68 → hdr f 71 68 ≤ 9 → (∀ e ∈ x.rx, e.btype ≠ 15) →
      let w := ({ fkind := 0, ack := x.rxSeq, epoch := s.epoch } : Flit).pack
      exec i s = .next { s.setPort k { x with
        rxSeq := (x.rxSeq + 1) % 512, rejecting := false, rser := x.rser + 1, rx := x.rx ++ [flitBeat f],
        tx := x.tx ++ [w] } with out := s.out ++ [.flit k w] })

/-- Frames for this die (R237, R252, R267 to R269): a request is applied as a well operation, a response reaches the master that waits
for it, FWD and FARRIVE count as arrivals without a check of GEN, and the payload of FWD is combined; the credits of the frame go
back (R255). -/
def Obligations.FramesReachTheirUnits : Prop :=
  ∀ (s : State) (port : BitVec 3) (b : Beat), let k := port.toNat
    let u := (s.setPort k { s.port k with rx := [] }).sendIdle k (some b.vc)
    let p := b.finfo % 32
    s.Ready → b.beat = 0 → b.dst = s.chip →
    (∀ v : W64, (s.port k).rx = [b] → b.last = true → b.btype = 2 → s.oldEpoch p b.epoch = false →
      let o := reqOf b []
      let n := o.well
      reqInBad b o = false → o.space = 2 → o.opc = Op.cas → (b.pay % 2 ^ 128).testBit 120 = false →
      s.freeing b.src o.master = false →
      (s.reg (R.welGacq (n / 64))).testBit p = true → s.wellBad n = false →
      tget 0 s.cst.err (errKey 3 (wellIdx n)) = 0 → s.well n = o.a → cleanWell o.b = v →
      wellOwner o.a = ownerFree → wellOwner v = ownerOf b.src o.master → wellAband v = wellAband o.a →
      Reaches s (.ctrlReq port) (u.setWell n v))
    ∧ (∀ x a t d, (s.port k).rx = [b] → b.last = true → b.btype = 3 → bits b.finfo 35 23 ≠ 0x1FFF →
      s.cul.fwds = [x] → x.chip = b.src → x.master = bits b.finfo 35 23 → x.tag = bits b.pay 127 120 →
      x.op.origin = .cnp a t d true →
      let o : Out := .cnp a d ((BankRsp.ofFlit (BitVec.ofNat 128 b.pay)).flit t)
      let v := { u with cul := { u.cul with fwds := [] } }
      exec (.ctrlRsp port) s = .next (if tget 0 s.clk.cred a = 0 then { v with clk := { s.clk with waitC := s.clk.waitC ++ [o] } }
        else { v with clk := s.clk.useCred a, out := u.out ++ [o] }))
    ∧ (∀ c n, s.slotOf p c = some n → s.holdsCnum p c = true → s.initBusy 0 (n / 4096) = false → s.active p = true →
      tget false s.cst.bad n = false → tget 0 s.cst.err (errKey 0 n) = 0 → (s.entry n).sound p = true →
      s.oldEpoch p b.epoch = false → bits b.finfo 35 12 = c → s.tagged p c = none →
      let e := s.entry n
      let e' := { e with count := e.count + 1 }
      e.status = stArmed → e.count.toNat + 1 < e.target.toNat →
      ((s.port k).rx = [b] → b.last = true → b.btype = 5 → e.kind = kBarrier →
        Reaches s (.farrive port) (u.setEntry n e'))
      ∧ (∀ b1, (s.port k).rx = [b, b1] → b.last = false → b1.last = true → b.btype = 4 → b1.btype = 4 → e.kind = kReduce →
        let o := fwdOp b [b1]
        let rm := (s.mode e.basin.toNat).rm
        let bas := e.basin.toNat + 64 * bits o.a.toNat 5 0
        let mask := effMask rm o.mask
        s.reduceCheck p e o = none → tget false s.cst.badBasin bas = false → (s.lanes bas).bad = false →
        (∀ j, j < 4 → tget 0 s.cst.err (errKey 1 (4 * bas + j)) = 0) →
        Reaches s (.fwd port) (((u.sendIdle k (some b1.vc)).contribute rm e.gen bas mask
          (if o.accForm then o.pay else widen rm mask o.pay)).setEntry n e')))

/-- An RNOTICE puts the masters that it names into the pending set, each with the chip that sent it (R234, R239). -/
def Obligations.ResetNoticeAddsToPending : Prop :=
  ∀ (s : State) (port : BitVec 3) (b : Beat) (m : BitVec 13), let k := port.toNat
    s.Ready → (s.port k).rx = [b] → b.beat = 0 → b.last = true → b.btype = 9 → b.dst = s.chip →
    noticeMasters b.pay = [m.toNat] → (b.src, m.toNat) ∉ s.wel.pend →
      let u := (s.setPort k { s.port k with rx := [] }).sendIdle k (some b.vc)
      exec (.rnotice port) s = .next { u with wel := { s.wel with pend := s.wel.pend ++ [(b.src, m.toNat)] } }

/-- Hop beats: a TICK_MARK of the own tick arms the watchdog, a final one disarms it (R52, R53); a new membership message
enters the seen table (R271); FCTL of a tick-close channel fixes the stretch of a late tick (R46, R265). -/
def Obligations.HopBeatsActOnTheGrid : Prop :=
  ∀ (s : State) (port : BitVec 3) (b : Beat), let k := port.toNat
    let u := s.modPort k (fun x => { x with rx := [] })
    s.Calm → s.up = true → (s.port k).rx = [b] → b.beat = 0 → b.last = true →
    (b.btype = 1 → b.pay % 16 = 0xA → b.pay.testBit 32 = false → s.grid.running = true → s.linkUp k = true →
      bits b.pay 31 16 = s.tickno % 65536 →
      exec (.tickMark port) s = .next (u.modPort k (fun x => { x with
        armed := true, unmarked := 0, mark := some (BitVec.ofNat 16 s.tickno) })))
    ∧ (b.btype = 1 → b.pay % 16 = 0xA → b.pay.testBit 32 = true →
      exec (.tickMark port) s = .next (u.modPort k (fun x => { x with armed := false, unmarked := 0 })))
    ∧ (b.btype = 8 →
      let m : Msg := { src := b.src, mtype := bits b.finfo 35 32, e := b.finfo % 2 ^ 32, pay := b.pay }
      m ∉ s.cul.seen → s.cul.seen.length < 64 → (∀ j, j < s.nPort → j ≠ k → s.linkOpen j = false) →
      exec (.member port) s = .next { u with cul := { u.cul with seen := s.cul.seen ++ [m] } })
    ∧ (b.btype = 6 →
      let c := b.finfo % 64
      s.fchEn c = true → s.fchTclose c = true → s.fchFrozen c = false → s.fchUp c = k → s.fchDown c = 0 →
      (s.prt (s.fchPart c)).lateDown = true →
      exec (.fctl port) s = .next (u.modPrt (s.fchPart c) (fun x => { x with stretch := some (b.pay % 2 ^ 16) })))

/-- Time transfer (R259, R260): a request carries the TB; its answer carries the request's time and the TB; an answer on
TPORT writes the round trip and counts as an estimate; an estimate that ages with the link down ends INSYNC. -/
def Obligations.TimeRequestsAndAnswers : Prop :=
  ∀ (s : State), s.Calm → s.up = true → s.matchMode = false →
    (let k := s.tport
      let x := s.port k
      s.linkOpen k = true → x.queue = [] → x.counts = [] → x.replay.length < 128 →
      ∃ t w, exec .timeRequestTimer s = .next t ∧ t.out = s.out ++ [.flit k w]
        ∧ (flitBeat w).btype = 7 ∧ (flitBeat w).finfo = 0 ∧ (flitBeat w).pay = s.tb72 % 2 ^ 256)
    ∧ (∀ (port : BitVec 3) (b : Beat), let k := port.toNat
      let x := s.port k
      s.linkOpen k = true → x.queue = [] → x.counts = [] → x.replay.length < 128 → x.rx = [b] → b.beat = 0 →
      b.last = true → b.btype = 7 →
      (b.finfo % 2 = 0 →
        ∃ t w, exec (.timeRequest port) s = .next t ∧ t.out = s.out ++ [.flit k w] ∧ (flitBeat w).finfo = 1
          ∧ (flitBeat w).pay % 2 ^ 72 = b.pay % 2 ^ 72 ∧ (flitBeat w).pay / 2 ^ 72 % 2 ^ 72 = s.tb72
          ∧ (flitBeat w).pay / 2 ^ 144 % 2 ^ 72 = s.tb72)
      ∧ (b.finfo % 2 = 1 → s.tport = k →
        let t1 : Int := (b.pay % 2 ^ 72 : Nat)
        let t2 : Int := (b.pay / 2 ^ 72 % 2 ^ 72 : Nat)
        let t3 : Int := (b.pay / 2 ^ 144 % 2 ^ 72 : Nat)
        let t4 : Int := s.tb72
        let off := ((t2 - t1) - (t4 - t3) + sext16 (s.fld (R.culPasym k) 15 0)) / 2
        ∃ t, exec (.timeAnswer port) s = .next t ∧ t.clk = { s.clk with estimate := true, off := off * 2 ^ 16 }
          ∧ (t.reg (R.culPrtt k) : Int) = ((t4 - t1) - (t3 - t2)) % 2 ^ 32 ∧ t.cst = s.cst ∧ t.wel = s.wel))
    ∧ (s.tport ≠ 7 → s.linkOpen s.tport = false → s.clk.estimate = true → s.flag R.obsTbStatus 2 = true →
      let u := ({ s with clk := { s.clk with estimate := false, off := 0 } } : State).setFld R.obsTbStatus 2 2 0
      exec .timeEstimateAged s = .next (u.ao { type := 0x04, unit := 11, aux := 0, info := s.fld R.obsTbStatus 31 16 }))

/-- The grid's settings (R24, R33, R34): while EN is 0 a write of OBS_TB_SET loads the Time Base with fraction 0, and a 1 in
EN starts the grid, with the first tick that is not earlier than the Time Base, if the checks of R33 pass; a 0 in EN stops
it while every partition stands in STOPPED. Locks count as they were at the start of the kclk cycle. -/
def Obligations.GridStartsAndStops : Prop :=
  ∀ (s : State) (acc : Acc) (val : W32),
    (Reached s acc (R.obsTbSet + 4) → (s.crossing acc).gridWas = false →
      let k := holdKey acc (R.obsTbSet + 4)
      let v := s.loHalf k R.obsTbSet + val.toNat * 2 ^ 32
      Takes s acc (.tbLoad acc val) (fun u => { u.setHeldWrite k none with
        clk := { u.clk with tb := BitVec.ofNat 88 (v % 2 ^ 64 * 2 ^ 24) } }))
    ∧ (Reached s acc R.hgCtrl → val.getLsbD 0 = true → s.gridEn = false →
      Takes s acc (.gridStart acc val) (fun u => if s.gridOk then
          { u.setFlag R.hgCtrl 0 true with grid := { running := true, begun := false, tick := s.firstTick, slot := 0 } }
        else u.setFlag R.hgStatus 1 true))
    ∧ (Reached s acc R.hgCtrl → val.getLsbD 0 = false → s.gridEn = true →
      (∀ p, p < s.nPart → (s.crossing acc).wasLocked p = false) →
      ∃ t, exec (.gridStop acc val) s = .next t ∧ t.gridEn = false ∧ t.grid = { s.grid with running := false }
        ∧ t.cst = s.cst ∧ t.pipe = s.pipe ∧ t.wel = s.wel ∧ t.parts = s.parts)

/-- The boundaries of the grid (R30, R31, R50): a slot boundary that is due moves the slot on; a tick boundary numbers the
tick one higher and begins its slot 0. Stated of a die on which nothing else is due: no partition executes or has a snapshot to
take, no host queue and no link is open. -/
def Obligations.GridBoundariesAdvance : Prop :=
  ∀ (s : State), s.Calm → s.polledFns = [] → s.fns.all (fun e => e.2.waits.isEmpty) = true →
    (s.gridDue false = true →
      exec .gridSlotBoundary s = .next { s with grid := { s.grid with slot := s.grid.slot + 1 } })
    ∧ (s.gridDue true = true →
      (∀ p, p < s.nPart → s.locked p = false ∧ (s.prt p).events = [] ∧ (s.prt p).snapReq = false
        ∧ (s.prt p).snapDefer = false ∧ s.flag (R.culPsnapCtrl p) 29 = false) →
      (∀ k, k < s.nPort → s.linkUp k = false) → s.obs.corr = [] → s.obs.retry = [] → s.obs.resumes = [] →
      s.cul.seen = [] → s.stop.pend = [] → s.fld R.obsSample 15 0 = 0 →
      ∃ t, exec .gridTickBoundary s = .next t
        ∧ t.grid = { s.grid with begun := true, tick := if s.grid.begun then s.grid.tick + 1 else s.grid.tick, slot := 0 }
        ∧ t.cst = s.cst ∧ t.pipe = s.pipe ∧ t.wel = s.wel ∧ t.parts = s.parts ∧ t.pump = s.pump)

/-- A partition's tick (R37, R42, R47): a slot boundary inside it, away from its close point, begins its next slot; where
the stretch of a late tick was not sent by the position of its cap, the tick will end at its cap. -/
def Obligations.PartitionSlotsAdvance : Prop :=
  ∀ (s : State) (p : BitVec 5), let x := s.prt p.toNat
    (s.Calm → s.partReached p.toNat = true → x.slot + 1 < s.nominal p.toNat → x.slot + 1 ≠ s.closePoint p.toNat →
      x.staged = [] → x.spans = [] → x.tbl = none → x.haltPend = false → s.pipe.act = [] → s.pipe.strobed = [] →
      s.pipe.und = [] → s.pipe.leafs.all (fun e => e.2.store.isEmpty) = true →
      exec (.partitionSlotBoundary p) s = .next (s.setPrt p.toNat { x with slot := x.slot + 1, stErr := false }))
    ∧ (let k := s.nominal p.toNat + s.capOf p.toNat - (if (s.tcloseOf p.toNat).isSome then s.closeReg p.toNat else 0)
      s.active p.toNat = true → x.begun = true → s.stretchPolicy p.toNat = true → s.isLate p.toNat = true →
      x.stretch = none → s.stopped = false → (k ≤ x.slot ∨ k = x.slot + 1 ∧ s.partReached p.toNat = true) →
      exec (.stretchCapExpiry p) s = .next (s.setPrt p.toNat { x with capped := true }))

/-- A write of an allocation register (R99, R100): refused with DUP or OUT where a unit is another partition's or a limit
is passed, else taken, and the units it gives are initialised. A write for a partition that was not in STOPPED at the start of the
kclk cycle is ignored (R445). -/
def Obligations.AllocationWritesAreChecked : Prop :=
  ∀ (s : State) (acc : Acc) (p : BitVec 5) (off : BitVec 8) (val : W32), p.toNat < s.nPart →
    (off = 0x80 ∨ off = 0x84 ∧ (val.toNat % 32 = 0 ∨ 6 ≤ val.toNat % 32 ∧ val.toNat % 32 ≤ 16)
      ∨ off = 0x90 ∧ 0x200000 ≤ val.toNat % 2 ^ 24 ∨ off = 0x94 ∨ off = 0x98 ∨ off = 0x9C ∨ off = 0xA0) →
    let r := R.pfmPctrl p.toNat + off.toNat
    Reached s acc r →
    let t := (s.crossing acc).plain r val.toNat
    let locked := (s.crossing acc).wasLocked p.toNat
    (locked = false → t.allocShared p.toNat = false → t.allocOut p.toNat = false →
      Takes s acc (.cstAllocationWrite acc p off val) (fun u => u.initUnits t p.toNat))
    ∧ (locked = false → (t.allocShared p.toNat || t.allocOut p.toNat) = true →
      Takes s acc (.cstAllocationWrite acc p off val) (fun u =>
        let v := if t.allocShared p.toNat then u.setFlag (R.pfmPcstStatus p.toNat) 1 true else u
        if t.allocOut p.toNat then v.setFlag (R.pfmPcstStatus p.toNat) 0 true else v))
    ∧ (locked = true → Takes s acc (.cstAllocationWrite acc p off val) (fun u => u.cfgLocked p.toNat 3 r))

/-- The end of initialisation (R59, R88, R100): every cistern of a resident unit reads as a fresh entry of its partition,
every basin of a basin unit 0 with its lane state clear, every word of a directory unit 0; no unit of the partition is
under initialisation. -/
def Obligations.AllocationEndsWithFreshUnits : Prop :=
  ∀ (s : State) (p : BitVec 5) (r u : Nat), s.Inv → s.cst.initd.filter (fun e => e.1 == p.toNat) = [(p.toNat, r, u)] →
    ∃ t, exec (.allocationInitDone p) s = .next t ∧ (∀ e ∈ t.cst.initd, e.1 ≠ p.toNat) ∧ t.wel = s.wel ∧ t.pipe = s.pipe
      ∧ (r = 0 → ∀ i, i < 4096 → t.entry (4096 * u + i) = Cistern.fresh p.toNat (s.isFrame (4096 * u + i))
          ∧ tget 0 t.cst.tags (4096 * u + i) = 0 ∧ tget false t.cst.bad (4096 * u + i) = false)
      ∧ (r = 1 → ∀ i, i < 64 → t.basin (64 * u + i) = 0 ∧ t.lanes (64 * u + i) = {})
      ∧ (r = 2 → ∀ i, i < 32 → tget 0 t.cst.rl (32 * u + i) = 0)

/-- The scrubber (R421): a due word is read, and one without an error stays as it is; the end of a period clears the places
of a pass that is complete, and sets BEHIND where it is not; a new period begins. -/
def Obligations.ScrubberReadsDueWords : Prop :=
  ∀ (s : State), s.up = true →
    (∀ bank : BitVec 6, exec (.scrubWordDue bank) s = .next { s with
      cst := { s.cst with scrubDue := tmod 0 s.cst.scrubDue bank.toNat (· + 1) } })
    ∧ (∀ bank : BitVec 6, let b := bank.toNat
      let pos := tget 0 s.cst.scrubPos b
      s.rst.kst < 2 → 0 < tget 0 s.cst.scrubDue b → pos < s.resPerBank →
      tget 0 s.cst.err (errKey 0 (pos * 64 + b)) = 0 →
      (∃ c, c < 64 ∧ tget 0 (tset 0 s.cst.scrubPos b (pos + 1)) c < s.scrubWords) →
      Reaches s (.scrubRead bank) { s with cst := { s.cst with
        scrubPos := tset 0 s.cst.scrubPos b (pos + 1), scrubDue := tmod 0 s.cst.scrubDue b (· - 1) } })
    ∧ (s.scrubDone = true → exec .scrubPeriodEnd s = .next { s with
        cst := { s.cst with scrubPos := [], scrubFrom := s.now } })
    ∧ (s.scrubDone = false → s.rst.kst < 2 →
      exec .scrubPeriodEnd s = .next { s.setFlag R.pfmScrubStatus 0 true with
        cst := { s.cst with scrubLate := true, scrubFrom := s.now } })

/-- Schedules (R106, R107, R115): SCHED_LOAD of a function that may has the image's header read, and the header the rest of the
image; an image that passes its checks waits as a table for its switch tick, and no load is under way; a bind sample that finds the
cistern ARMED, of BARRIER or EVENT kind, and its arrivals short of TARGET, puts its channel in normal mode. -/
def Obligations.SchedulesLoadAndBind : Prop :=
  (∀ (s : State) (f : BitVec 8) (c : Cmd), s.Calm →
    let p := s.cmdPart f.toNat c
    let a := c.at 0x18 8
    s.nextCmd f.toNat (fun c => c.opc == 7 && (s.prt (s.cmdPart f.toNat c)).load.isNone) = some c →
    s.fnCtl f.toNat = true → a ≠ 0 → (f = 0 ∨ s.inWindow p a 64 = true) →
    exec (.schedLoad f) s = .next (((s.fly f.toNat c .load).modPrt p (fun x => { x with
      load := some (f.toNat, c.cidx, a, c.at 0x20 6), loadAsked := false })).memRd (.image p) a 64 none))
  ∧ (∀ (s : State) (p : BitVec 5) (image : List Byte) (resp : BitVec 2) (fail : BitVec 32) (f cidx a sw : Nat), s.Calm →
    resp.toNat < 2 → (s.prt p.toNat).load = some (f, cidx, a, sw) →
    let len := (ImgHead.of image).len
    let asked := (s.prt p.toNat).loadAsked
    (asked = true ∨ f = 0 ∨ s.inWindow p.toNat a (max len 64) = true) →
    (asked = false → image.length < len →
      exec (.imageLoadDone p image ⟨resp, fail⟩) s = .next ((s.memGot (.image p.toNat)).loadRest p.toNat a len))
    ∧ ((asked = true ∨ len ≤ image.length) → s.imageOk p.toNat image = true →
      ∃ t, exec (.imageLoadDone p image ⟨resp, fail⟩) s = .next t ∧ (t.prt p.toNat).next = some (tableOf a image, sw)
        ∧ (t.prt p.toNat).load = none ∧ (t.prt p.toNat).tbl = (s.prt p.toNat).tbl ∧ t.wel = s.wel ∧ t.grid = s.grid))
  ∧ (∀ (s : State) (chan : BitVec 5) (b : Bind) (m : Sample), s.Calm → s.act chan.toNat = some b → b.mode = .wait →
    b.sample = some m → chan.toNat < 16 → m.ok = true → m.status = 1 → (m.kind = 1 ∨ m.kind = 4) → b.chan = chan.toNat →
    b.static + b.side < m.target - m.count →
    exec (.bindSampleReturn chan) s = .next (s.setAct chan.toNat (some { b with
      mode := .normal, record := none, target := m.target - m.count, gen := m.gen })))

/-- The indices of a function (R300, R301): a record that is read or a kick sets CMD_PROD and CPL_CONS where each lies in its
range and moves forward; an index out of range takes the function to ERROR with DESC_FORMAT. -/
def Obligations.QueueIndicesMoveForward : Prop :=
  ∀ (s : State) (f : BitVec 8) (v : W32), s.fnRuns f.toNat = true →
    let x := s.fn f.toNat
    let prod := v.setWidth 16
    let cons := v.extractLsb' 16 16
    let w := x.cplProd.setWidth 16
    let y := { x with cmdProd := if (prod - x.cmdCons).toNat < (x.cmdProd - x.cmdCons).toNat then x.cmdProd else prod }
    let z := { y with cplCons := if (w - x.cplCons).toNat < (w - cons).toNat then x.cplCons else cons }
    let prodOk := (prod - x.cmdCons).toNat ≤ s.cmdCap f.toNat
    let consOk := (w - cons).toNat ≤ s.cplCap f.toNat
    (∀ (resp : BitVec 2), s.Inv → s.pump.waits = [] → x.dbReads ≠ 0 → resp.toNat < 2 →
      let n := x.dbReads - 1
      let u : State := { s with pump := { s.pump with
        reads := s.pump.reads.eraseP (fun t => t.who == .doorbell f.toNat) } }
      let gives := fun (t : State) => exec (.doorbellReadDone f v resp) s = .next t
      (prodOk → consOk → gives (u.setFn f.toNat { z with dbReads := n }))
      ∧ (¬prodOk → gives ((u.setFn f.toNat { x with dbReads := n }).fnError f.toNat Fc.descFormat prod.toNat))
      ∧ (prodOk → ¬consOk → gives ((u.setFn f.toNat { y with dbReads := n }).fnError f.toNat Fc.descFormat cons.toNat)))
    ∧ (∀ acc, Reached s acc (R.dqKick f.toNat) → f.toNat < s.nFunc →
      (prodOk → consOk → Takes s acc (.dqKick acc f v) (fun u => u.setFn f.toNat z))
      ∧ (¬prodOk → Takes s acc (.dqKick acc f v) (fun u => u.fnError f.toNat Fc.descFormat prod.toNat))
      ∧ (prodOk → ¬consOk → Takes s acc (.dqKick acc f v) (fun u =>
          (u.setFn f.toNat y).fnError f.toNat Fc.descFormat cons.toNat)))

/-- Queues and vectors (R308, R311, R313, R314, R316): enabling clears the indices of an idle function and makes it ACTIVE;
disabling makes it DISABLED and discards what is not in flight; a write of DQ_VMASK raises the pending vector that it
unmasks; a holdoff ends; an answered write of a completion or of a fault entry counts and raises its vector. -/
def Obligations.QueueControlAndVectors : Prop :=
  (∀ (s : State) (acc : Acc) (f : BitVec 8), Reached s acc (R.dqCtrl f.toNat) → f.toNat < s.nFunc →
    let x := s.fn f.toNat
    let st := R.pfmFstate f.toNat
    (x.idle = true → Takes s acc (.queueEnable acc f) (fun u => (((u.setFlag (R.dqCtrl f.toNat) 0 true).setFn f.toNat { x with
      cmdProd := 0, cmdCons := 0, cplProd := 0, cplCons := 0, stalled := false }).setFld st 1 0 1).setFld st 15 8 0))
    ∧ (x.idle = false → Takes s acc (.queueEnable acc f) (fun u => u))
    ∧ Takes s acc (.queueDisable acc f) (fun u => ((u.setFlag (R.dqCtrl f.toNat) 0 false).setFld st 1 0 0).setFn f.toNat { x with
      cmdReads := x.cmdReads.map (fun r => (r.1, 0)), cmds := [], waits := [] }))
  ∧ (∀ (s : State) (acc : Acc) (f : BitVec 8) (v : W32), Reached s acc (R.dqVmask f.toNat) → f.toNat < s.nFunc →
    let old := s.reg (R.dqVmask f.toNat)
    let m := 2 ^ s.fNvec f.toNat - 1
    let put := fun (u : State) => u.setReg (R.dqVmask f.toNat) ((old &&& (2 ^ 32 - 1 - m)) ||| (v.toNat &&& m))
    let raised := (List.range (s.fNvec f.toNat)).filter (fun i =>
      old.testBit i && !v.toNat.testBit i && s.flag (R.dqVpend f.toNat) i)
    (raised = [] → Takes s acc (.vmaskWrite acc f v) put)
    ∧ (∀ i, raised = [i] → Takes s acc (.vmaskWrite acc f v) (fun u =>
        ((put u).setFlag (R.dqVpend f.toNat) i false).irqEvent f.toNat i)))
  ∧ (∀ (s : State) (f : BitVec 8) (v : BitVec 5), s.holding f.toNat v.toNat = true →
    let x := s.fn f.toNat
    let u := s.setFn f.toNat { x with held := x.held.erase v.toNat, waitVec := x.waitVec.erase v.toNat }
    exec (.holdoffExpiry f v) s
      = .next (if x.waitVec.contains v.toNat = true then u.irqEvent f.toNat v.toNat else u))
  ∧ (∀ (s : State) (f : BitVec 8) (c : Cpl) (l : List Cpl) (resp : BitVec 2), s.Inv → s.pump.waits = [] →
    (s.fn f.toNat).cpls = c :: l → resp.toNat < 2 →
    let x := s.fn f.toNat
    let u : State := { s with pump := { s.pump with
      writes := s.pump.writes.eraseP (fun w => w.who == .completion f.toNat) } }
    let v := u.setFn f.toNat { x with cpls := l, cplProd := x.cplProd + 1 }
    exec (.completionWriteDone f resp) s = .next (if c.irq = true then v.irqEvent f.toNat c.vec else v))
  ∧ (∀ (s : State) (p : BitVec 5) (w : Nat) (irq : Bool) (resp : BitVec 2), s.Inv → s.pump.waits = [] →
    (s.prt p.toNat).faultQ = [(w, irq)] → resp.toNat < 2 →
    let u : State := { s with pump := { s.pump with writes := s.pump.writes.eraseP (fun w => w.who == .fault p.toNat) } }
    let v := (u.setPrt p.toNat { s.prt p.toNat with faultQ := [] }).setFld (R.pfmPfltProd p.toNat) 15 0
      (s.fld (R.pfmPfltProd p.toNat) 15 0 + 1)
    exec (.faultEntryWriteDone p resp) s
      = .next (if irq = true then v.irqEvent (s.fld (R.pfmPfltCfg p.toNat) 23 16) (s.fld (R.pfmPfltCfg p.toNat) 12 8)
          else v))

/-- Fetching (R302, R303): one read takes the commands of one contiguous run of the ring, for the function whose turn it is, in
its host context; its answer takes them in, and a malformed one completes REFUSED with DESC_FORMAT. -/
def Obligations.CommandsAreFetchedAndChecked : Prop :=
  (∀ (s : State) (f : Nat), s.readsOut < 16 → (rotate s.nFunc s.fetchTurn).find? s.canFetch = some f →
    let x := s.fn f
    let n := s.fetchSize f
    let host := some (f, s.fPort f)
    let q : MemTxn := ⟨.command f, s.cmdAddr f x.fetchIdx, 64 * n, host, false, 0⟩
    s.pump.waits = [] → s.pump.reads.length < 32 → s.memBusy q = false → s.clk.lostM = false →
    exec .commandFetch s = .next { s with
      out := s.out ++ [.memRead q.who q.addr q.len host 15],
      pump := { s.pump with reads := s.pump.reads ++ [q], sysTurn := 1 },
      fns := tset {} s.fns f { x with cmdReads := x.cmdReads ++ [(x.fetchIdx, n)] },
      fetchTurn := (f + 1) % s.nFunc })
  ∧ (∀ (s : State) (f : BitVec 8) (i n : Nat) (l : List (Nat × Nat)) (cmds : List (BitVec 512)) (w : BitVec 512)
      (resp : BitVec 2),
    s.Calm → s.pump.waits = [] → resp.toNat < 2 → (s.fn f.toNat).cmdReads = (i, n) :: l →
    let u : State := { s with pump := { s.pump with
      reads := s.pump.reads.eraseP (fun t => t.who == .command f.toNat) } }
    let x := s.fn f.toNat
    let c : Cmd := ⟨w, x.cmdCons.toNat⟩
    let y := { x with cmdReads := l, cmdCons := x.cmdCons + 1 }
    (n = 0 → exec (.commandReadDone f cmds resp) s = .next (u.setFn f.toNat { x with cmdReads := l }))
    ∧ (n ≠ 0 → (f = 0 ∨ s.pstate (s.fPart f.toNat) ≠ 3) → cmds.take n = [w] → s.stopsAt f.toNat w = false →
      (s.cmdOk f.toNat c = true →
        exec (.commandReadDone f cmds resp) s = .next (u.setFn f.toNat { y with cmds := x.cmds ++ [c] }))
      ∧ (s.cmdOk f.toNat c = false →
        exec (.commandReadDone f cmds resp) s = .next ((u.setFn f.toNat y).refuse f.toNat c Fc.descFormat))))

/-- Host commands on cisterns and words (R303, R306, R307, R310): NOP; ARM_COMMAND, POST and the payload of a
REDUCE_FROM_HOST do their operations and complete with the bank's answer; REDUCE_FROM_HOST reads its payload; WAIT takes a
wait entry and polls, or is refused when its quota is used. -/
def Obligations.HostCommandsOnCisterns : Prop :=
  ∀ (s : State) (f : BitVec 8) (c : Cmd),
    let p := s.cmdPart f.toNat c
    let u := s.fly f.toNat c
    (HostServes s f.toNat c 0 → HostGives s (.nop f) f.toNat c u {})
    ∧ (∀ n, HostServes s f.toNat c 1 → HoldsEntry s p c.cnum n →
      let d := ArmDef.of c.a (BitVec.ofNat 64 (c.layer * 2 ^ 12 + c.oper))
      let e := s.entry n
      let x := { d.inForce e with gen := e.gen + 1, count := 0, status := stArmed, part := BitVec.ofNat 5 p }
      (e.status = stIdle ∨ e.status = stLate ∨ e.status = stFault) → s.armCheck p n d (d.inForce e) = none →
      x.kind ≠ kCredit → x.met = false →
        let v := (u.healBasins p x).setEntry n x
        HostGives s (.armCommand f) f.toNat c (if d.deadline then v.setDeadline p c.cnum x.gen.toNat else v)
          (x.rsp Res.ok).cpl)
    ∧ (∀ n, HostServes s f.toNat c 2 → c.sub = 0 → c.bop = Op.arrive → HoldsEntry s p c.cnum n →
      let e := s.entry n
      let e' := { e with count := e.count + 1 }
      e.status = stArmed → (e.kind = kBarrier ∨ e.kind = kEvent) → s.tagged p c.cnum = none →
      e.count.toNat + 1 < e.target.toNat →
      (c.gen = e.gen.toNat → HostGives s (.post f) f.toNat c (u.setEntry n e') (e'.rsp Res.ok).cpl)
      ∧ (c.gen ≠ e.gen.toNat → ∃ v : State, exec (.post f) s = .next (v.complete f.toNat c (e.rsp Res.genMismatch).cpl)
        ∧ v.cst = s.cst ∧ v.fn f.toNat = u.fn f.toNat))
    ∧ (HostServes s f.toNat c 2 → c.sub = 1 → c.bop = Op.swap → HoldsWord s p c.cnum →
      let b := bits c.cnum 23 8
      let j := bits c.cnum 7 5
      let w := basinWord (s.basin b) j
      w ≠ c.a → HostGives s (.post f) f.toNat c (u.setBasin b (setBasinWord (s.basin b) j c.a) (s.lanes b))
        ({ result := Res.ok, data := w } : BankRsp).cpl)
    ∧ (HostServes s f.toNat c 2 → postBad c = true →
      HostGives s (.post f) f.toNat c u ({ result := Res.badOp } : BankRsp).cpl)
    ∧ (HostServes s f.toNat c 3 →
      let a := c.at 0x20 8
      let h := if c.hostMem then some (f.toNat, s.fPort f.toNat) else none
      let q : MemTxn := ⟨.payload f.toNat, a, 64, h, false, 0⟩
      ((f = 0 ∨ c.hostMem = true ∨ s.inWindow (s.fPart f.toNat) a 64 = true) → s.pump.waits = [] →
        s.pump.reads.length < 32 → s.memBusy q = false → s.clk.lostM = false →
        exec (.reduceFromHost f) s = .next { s.fly f.toNat c .payload with
          out := s.out ++ [.memRead q.who a 64 h 15],
          pump := { s.pump with reads := s.pump.reads ++ [q], sysTurn := 1 } })
      ∧ (f ≠ 0 → c.hostMem = false → s.inWindow (s.fPart f.toNat) a 64 = false →
        HostGives s (.reduceFromHost f) f.toNat c (s.fly f.toNat c .payload) { cstat := 1, fcode := Fc.rights }))
    ∧ (∀ n pay (resp : BitVec 2), s.Ready → s.pump.waits = [] → resp.toNat < 2 → (s.fn f.toNat).flight.find? (fun i => i.phase == .payload) = some ⟨c, .payload⟩ →
      (s.fn f.toNat).findFlight c.cidx = some ⟨c, .payload⟩ → HoldsEntry s p c.cnum n →
      let e := s.entry n
      let m := s.mode e.basin.toNat
      let b := e.basin.toNat + 64 * bits c.a.toNat 5 0
      let e' := { e with count := e.count + 1 }
      let mask := effMask m.rm (bits c.a.toNat 23 8)
      let u : State := { s with pump := { s.pump with
        reads := s.pump.reads.eraseP (fun t => t.who == .payload f.toNat) } }
      e.status = stArmed → e.kind = kReduce → c.gen = e.gen.toNat → s.tagged p c.cnum = none →
      e.basin ≠ 0xFFFF → bits c.a.toNat 31 24 = m.rm → bits c.a.toNat 5 0 < m.len → s.holdsBasin p b = true →
      tget false s.cst.badBasin b = false → (s.lanes b).bad = false →
      (∀ j, j < 4 → tget 0 s.cst.err (errKey 1 (4 * b + j)) = 0) → e.count.toNat + 1 < e.target.toNat →
        HostGives s (.payloadReadDone f pay resp) f.toNat c
          ((u.contribute m.rm e.gen b mask (widen m.rm mask pay)).setEntry n e') (e'.rsp Res.ok).cpl)
    ∧ (HostServes s f.toNat c 4 →
      let x := s.fn f.toNat
      let w : WaitEnt := { cmd := c, left := c.to, last := c.to == 0, polls := 1 }
      let v := s.setFn f.toNat { x with cmds := x.cmds.tail, waits := x.waits ++ [w] }
      let o := s.dquOp f.toNat c Op.poll 0 c.cnum c.gen 0 0
      (s.fld (R.pfmFwait f.toNat) 10 0 ≤ x.waits.length →
        HostGives s (.wait f) f.toNat c u { cstat := 1, fcode := Fc.poolExhausted })
      ∧ (∀ n, x.waits.length < s.fld (R.pfmFwait f.toNat) 10 0 → HoldsEntry s p c.cnum n →
        s.cst.polls.all (fun v => v.cnum != c.cnum) = true → s.cst.polls.length < 16 →
        ∃ t, exec (.wait f) s = .next t ∧ t.out = s.out
          ∧ Accounts { v with cst := { s.cst with polls := s.cst.polls ++ [⟨c.cnum, [o]⟩] } } t))

/-- Host commands on wells (R303, R305, R231), and SNAPSHOT (R275, R307): CLAIM takes a free well and says HELD; RELEASE
and CLRAB act for the owner alone; FORCE frees the named owner's well, marks it ABANDONED, and counts, and changes no well that is
free already. -/
def Obligations.HostCommandsOnWells : Prop :=
  ∀ (s : State) (f : BitVec 8) (c : Cmd),
    let u := s.fly f.toNat c
    let n := c.well
    let w := s.well n
    let me := ownerOf s.chip (0x1000 + f.toNat)
    let count := w.toNat % 2 ^ 32
    let was : BankRsp := { result := Res.ok, data := w }
    let failed : BankRsp := { result := Res.failed, data := w }
    let moves := fun (v : W64) => (wellOwner v = wellOwner w ∧ wellAband v = wellAband w)
      ∨ (wellOwner w = ownerFree ∧ wellOwner v = me ∧ wellAband v = wellAband w)
      ∨ (wellOwner w = me ∧ wellOwner v = ownerFree ∧ wellAband v = false)
    (HostServes s f.toNat c 5 → HostWell s f.toNat c →
      (c.sub = 0 → HostGives s (.semRead f) f.toNat c u was.cpl)
      ∧ (c.sub = 1 →
        (∀ v, semSum (BitVec.ofNat 64 (c.at 0x18 4)) w = some v →
          HostGives s (.semAddCommand f) f.toNat c (u.setWell n v) was.cpl)
        ∧ (semSum (BitVec.ofNat 64 (c.at 0x18 4)) w = none → HostGives s (.semAddCommand f) f.toNat c u failed.cpl)))
    ∧ (HostServes s f.toNat c 6 → HostWell s f.toNat c →
      (c.sub = 0 → moves (cleanWell c.b) →
        (w = c.a → HostGives s (.lockCas f) f.toNat c (u.setWell n (cleanWell c.b)) was.cpl)
        ∧ (w ≠ c.a → HostGives s (.lockCas f) f.toNat c u failed.cpl))
      ∧ (c.sub = 1 → moves (cleanWell c.a) → HostGives s (.lockSwap f) f.toNat c (u.setWell n (cleanWell c.a)) was.cpl)
      ∧ (c.sub = 2 →
        (wellOwner w = ownerFree →
          HostGives s (.claim f) f.toNat c (u.setWell n (wellWord me (wellAband w) count)) { was.cpl with held := true })
        ∧ (wellOwner w ≠ ownerFree → HostGives s (.claim f) f.toNat c u was.cpl))
      ∧ (c.sub = 3 →
        (wellOwner w = me → HostGives s (.lockRelease f) f.toNat c (u.setWell n (wellWord ownerFree false count)) was.cpl)
        ∧ (wellOwner w ≠ me → ∃ t, exec (.lockRelease f) s = .next t ∧ t.wel = s.wel))
      ∧ (c.sub = 4 →
        (wellOwner w = me → HostGives s (.clrab f) f.toNat c (u.setWell n (wellWord me false count)) was.cpl)
        ∧ (wellOwner w ≠ me → ∃ t, exec (.clrab f) s = .next t ∧ t.wel = s.wel))
      ∧ (c.sub = 5 → (f = 0 ∨ s.fld (R.welGcfg (n / 64)) 7 0 = f.toNat) →
        (wellOwner w = c.a.toNat % 2 ^ 25 → wellOwner w ≠ ownerFree →
          HostGives s (.force f) f.toNat c ((u.bump R.welForceCnt 1).setWell n (wellWord ownerFree true count)) was.cpl)
        ∧ ((wellOwner w ≠ c.a.toNat % 2 ^ 25 ∨ wellOwner w = ownerFree) → HostGives s (.force f) f.toNat c u failed.cpl)))
    ∧ (HostServes s f.toNat c 9 →
      let p := s.cmdPart f.toNat c
      let v := s.fly f.toNat c .snap
      (s.fnCtl f.toNat = false → HostGives s (.snapshot f) f.toNat c v { cstat := 1, fcode := Fc.rights })
      ∧ (s.fnCtl f.toNat = true → s.pstate p ≠ 2 →
        HostGives s (.snapshot f) f.toNat c v { cstat := 1, fcode := Fc.cfgLocked })
      ∧ (s.fnCtl f.toNat = true → s.pstate p = 2 →
        exec (.snapshot f) s = .next (v.setPrt p { s.prt p with
          snapReq := true, snapCmds := (s.prt p).snapCmds ++ [(f.toNat, c.cidx)] })))

/-- Settings of a partition and of a function (R130, R216, R289, R292, R317, R318): while the partition is not in STOPPED a
write is ignored and counted; a setting that another partition's excludes is refused with its status bit; else it is stored.
An enabled function keeps PART, HOSTPORT and NVEC, is refused more wait entries than the die has, and is reset when EN falls. -/
def Obligations.PartitionSettingsAreLocked : Prop :=
  (∀ (s : State) (acc : Acc) (p : BitVec 5) (units : Bool) (v : W32), p.toNat < s.nPart →
    let off := if units then R.hgPcredUnits p.toNat else R.hgPcredFirst p.toNat
    Reached s acc off →
    let t := (s.crossing acc).plain off v.toNat
    let dup := t.shares p.toNat t.grantRange
    Takes s acc (.creditWindowWrite acc p units v) (fun u => u.lockedBy p.toNat 5 off
      (let w := if dup then u.setFlag (R.hgPcredStatus p.toNat) 1 true else u
       if dup || t.creditOut p.toNat then
         (if t.creditOut p.toNat then w.setFlag (R.hgPcredStatus p.toNat) 0 true else w) else t)))
  ∧ (∀ (s : State) (acc : Acc) (p : BitVec 5) (v : W32), p.toNat < s.nPart →
    let err := fun (u : State) => u.setFlag (R.hgPschedStatus p.toNat) 5 true
    (let off := R.hgPchan p.toNat;
      Reached s acc off →
      let dup := (List.range s.nPart).any (fun q => q != p.toNat && (v.toNat % 2 ^ 18) &&& s.fld (R.hgPchan q) 17 0 != 0)
      Takes s acc (.hgQuotaWrite acc p false v) (fun u => u.lockedBy p.toNat 5 off
        (if dup = true then err u else u.plain off v.toNat)))
    ∧ (let off := R.hgPstage p.toNat
      Reached s acc off →
      let t := (s.crossing acc).plain off (if 128 < v.toNat % 256 then setBits v.toNat 7 0 (s.fld off 7 0) else v.toNat)
      Takes s acc (.hgQuotaWrite acc p true v) (fun u => u.lockedBy p.toNat 5 off
        (if 128 < ((List.range s.nPart).map (fun q => t.fld (R.hgPstage q) 7 0)).sum then err u else t))))
  ∧ (∀ (s : State) (acc : Acc) (p : BitVec 5) (off : BitVec 8) (v : W32), p.toNat < s.nPart →
    let r := R.pfmPctrl p.toNat + off.toNat
    let k := holdKey acc r
    let b := s.built r v
    Reached s acc r →
    (∀ j, j < 8 → off.toNat = 0x14 + 4 * j →
      Takes s acc (.partitionResourceWrite acc p off v) (fun u =>
        u.lockedBy p.toNat 2 r (u.tapRangeJudge (u.plain r v.toNat) p.toNat j)))
    ∧ (off = 0x34 ∨ off = 0x3C ∨ off = 0x44 →
      Takes s acc (.partitionResourceWrite acc p off v) (fun u => u.setHeldWrite k (some (r, b))))
    ∧ (off = 0x38 ∨ off = 0x40 ∨ off = 0x48 →
      Takes s acc (.partitionResourceWrite acc p off v) (fun u =>
        let w := u.setHeldWrite k none
        let t := w.plainPair (r - 4) (s.loHalf k (r - 4) + b * 2 ^ 32)
        w.lockedBy p.toNat 2 r (if off = 0x38 then w.pumpJudge t p.toNat else t))))
  ∧ (∀ (s : State) (acc : Acc) (f : BitVec 8) (wait : Bool) (v : W32), f.toNat < s.nFunc →
    let off := if wait then R.pfmFwait f.toNat else R.pfmFcfg f.toNat
    Reached s acc off →
    let t := (s.crossing acc).setReg off (if wait then bits v.toNat 10 0 else (s.crossing acc).fcfgWord f.toNat v.toNat)
    ((t.fEn f.toNat && t.poolOut) = true →
      Takes s acc (.functionConfigWrite acc f wait v) (fun u => u.setFlag (R.pfmFstate f.toNat) 2 true))
    ∧ ((t.fEn f.toNat && t.poolOut) = false → (s.fEn f.toNat = true → t.fEn f.toNat = true) →
      Takes s acc (.functionConfigWrite acc f wait v) (fun _ => t))
    ∧ (wait = false → s.fEn f.toNat = true → t.fEn f.toNat = false →
      Takes s acc (.functionConfigWrite acc f wait v) (fun _ => ((t.fnReset f.toNat).raised 3 f.toNat).noticeAll)))

/-- Settings of fabric channels, remote release entries, sumps, counters, fences and modes (R153, R191, R204, R271, R282, R283,
R349, R376): a setting that a partition not in STOPPED locks is ignored, one that is not legal is refused with its status bit,
else it is stored; a select write with CLR clears the counter; a tap that is fenced loses the tokens of its hold and of its delay
store and the credits of its grant slots; CUL_JOIN raises the tray's JOIN message. -/
def Obligations.UnitSettingsAreChecked : Prop :=
  (∀ (s : State) (acc : Acc) (n : BitVec 6) (v : W32), Reached s acc (R.culFchCfg n.toNat) →
    let off := R.culFchCfg n.toNat
    let t := (s.crossing acc).plain off
      (if s.nPart ≤ bits v.toNat 28 24 then setBits v.toNat 28 24 (s.fld off 28 24) else v.toNat)
    Takes s acc (.fabricChannelWrite acc n 0 v) (fun u =>
      u.lockedByAny [u.fchPart n.toNat, t.fchPart n.toNat] 9 off (u.channelJudge t n.toNat)))
  ∧ (∀ (s : State) (acc : Acc) (n : BitVec 6) (w : BitVec 2) (v : W32), w ≠ 0 →
    let off := R.culFchCfg n.toNat + 4 * w.toNat
    Reached s acc off →
    Takes s acc (.fabricChannelWrite acc n w v) (fun u =>
      if w = 3 then u else u.lockedBy (u.fchPart n.toNat) 9 off (u.plain off v.toNat)))
  ∧ (∀ (s : State) (acc : Acc) (e : BitVec 10) (v : W32), Reached s acc (R.culRrtSrc e.toNat) →
    let off := R.culRrtSrc e.toNat
    let t := (s.crossing acc).plain off
      (if s.nPart ≤ bits v.toNat 30 26 then setBits v.toNat 30 26 (s.fld off 30 26) else v.toNat)
    Takes s acc (.remoteReleaseWrite acc e 0 v) (fun u =>
      u.lockedByAny [u.fld off 30 26, t.fld off 30 26] 9 off (u.remoteJudge t e.toNat)))
  ∧ (∀ (s : State) (acc : Acc) (e : BitVec 10) (w : BitVec 2) (v : W32), w ≠ 0 →
    let off := R.culRrtSrc e.toNat + 4 * w.toNat
    Reached s acc off →
    Takes s acc (.remoteReleaseWrite acc e w v) (fun u =>
      if w = 3 then u else u.lockedBy (u.fld (R.culRrtSrc e.toNat) 30 26) 9 off (u.plain off v.toNat)))
  ∧ (∀ (s : State) (acc : Acc) (i : BitVec 4) (v : W32), Reached s acc (R.obsScfg i.toNat) →
    let off := R.obsScfg i.toNat
    let v1 := if bits v.toNat 30 29 = 3 then setBits v.toNat 30 29 (s.fld off 30 29) else v.toNat
    let v2 := if 56 < bits v1 17 12 then setBits v1 17 12 (s.fld off 17 12) else v1
    let v3 := if s.nPart ≤ bits v2 27 23 then setBits v2 27 23 (s.fld off 27 23) else v2
    let t := (s.crossing acc).plain off v3
    Takes s acc (.sumpConfigWrite acc i v) (fun u => if i = 0 then u
      else u.lockedByAny (u.sumpOwner i.toNat ++ t.sumpOwner i.toNat) 11 off (u.sumpJudge t i.toNat)))
  ∧ (∀ (s : State) (acc : Acc) (glob : Bool) (p : BitVec 5) (i : BitVec 8) (v : W32), p.toNat < s.nPart →
    let k := if glob then i.toNat else 0x1000 + 64 * p.toNat + i.toNat % 64
    let off := if glob then R.obsGsel i.toNat else R.obsPsel p.toNat (i.toNat % 64)
    Reached s acc off → v.getLsbD 31 = true →
    Takes s acc (.counterClear acc glob p i v) (fun u => { u.setReg off (s.selWord glob (s.reg off) v.toNat) with
      obs := { u.obs with cnt := tset 0 u.obs.cnt k 0 } }))
  ∧ (∀ (s : State) (acc : Acc) (w : BitVec 7) (v : W32), Reached s acc (R.spFence w.toNat) →
    let keep := (List.range 32).foldl (fun a b => if 32 * w.toNat + b < s.nGood ∧ v.toNat.testBit b then a + 2 ^ b else a) 0
    let new := (List.range 32).filter (fun b => keep.testBit b && !(s.reg (R.spFence w.toNat)).testBit b)
    (s.nTap ≤ 32 * w.toNat → Takes s acc (.spFenceWrite acc w v) (fun u => u))
    ∧ (32 * w.toNat < s.nTap → Takes s acc (.spFenceWrite acc w v) (fun u =>
      (new.filterMap (fun b => s.physical (32 * w.toNat + b))).foldl State.fenceTap (u.setReg (R.spFence w.toNat) keep)))
    ∧ (∀ b k, 32 * w.toNat < s.nTap → new = [b] → s.physical (32 * w.toNat + b) = some k →
      ∃ t, exec (.spFenceWrite acc w v) s = .next t ∧ t.reg (R.spFence w.toNat) = keep ∧ (t.tap k).hold = []
        ∧ (∀ g, g < 4 → (tget {} (t.tap k).slots g).n = 0) ∧ (∀ d ∈ (t.leaf (k / 4)).store, d.tap ≠ k)
        ∧ t.cst = s.cst ∧ t.wel = s.wel ∧ t.grid = s.grid))
  ∧ (∀ (s : State) (acc : Acc) (k : BitVec 9) (v : W32), Reached s acc (R.spBmode k.toNat) →
    let owner := fun h => s.ownerBasin (64 * (2 * k.toNat + h))
    let locked := fun p => (s.crossing acc).wasLocked p
    (∀ p q, owner 0 = some p → owner 1 = some q → locked p = false → locked q = false →
      rmReserved (v.toNat % 256) = false → rmReserved (bits v.toNat 23 16) = false →
      Takes s acc (.spBmodeWrite acc k v) (fun u => u.setReg (R.spBmode k.toNat) (v.toNat &&& 0xBFFFBFFF)))
    ∧ ((∀ h, h < 2 → owner h = none ∨ ∃ p, owner h = some p ∧ locked p = true) →
      ∃ t, exec (.spBmodeWrite acc k v) s = .next t ∧ t.reg (R.spBmode k.toNat) = s.reg (R.spBmode k.toNat)
        ∧ t.flag R.spRedStatus 1 = true))
  ∧ (∀ (s : State) (acc : Acc) (v : W32), Reached s acc R.culJoin →
    Takes s acc (.culJoin acc v) (fun u => if v.getLsbD 31 = true then u.raiseMember 2 (v.toNat % 256) else u))

/-- Wells and credits (R209, R230, R233, R234, R240, R243, R269): a rights record is written unless a locked partition stands
in it; initialisation leaves a local group's wells free and readable, and every other well as it was; a freeing pass frees the wells
of the masters that were pending as it began, as it reads their words, marks them ABANDONED, and leaves every other well;
HG_CRED_CLR starts an ACTIVE entry again; a forwarded request whose time is over leaves the list and is answered without a
response. -/
def Obligations.WellServiceFreesAndInitialises : Prop :=
  (∀ (s : State) (acc : Acc) (g : BitVec 10) (w : BitVec 2) (v : W32), w ≠ 3 →
    let off := R.welGacq g.toNat + 4 * w.toNat
    let b := s.built off v
    let c := if s.nFunc ≤ b % 256 then setBits b 7 0 (s.fld off 7 0) else b
    let new := if w = 2 then c - 2 ^ 30 * bits b 30 30 else b
    Reached s acc off →
    ((s.crossing acc).groupLocks g.toNat (if w = 0 then new else s.reg (R.welGacq g.toNat))
        (if w = 1 then new else s.reg (R.welGrd g.toNat)) = [] →
      Takes s acc (.wellRightsWrite acc g w v) (fun u => u.setReg off new))
    ∧ (∀ p, p < s.nPart → (s.crossing acc).wasLocked p = true →
      ((s.reg (R.welGacq g.toNat)).testBit p = true ∨ (s.reg (R.welGrd g.toNat)).testBit p = true) →
      ∃ t, exec (.wellRightsWrite acc g w v) s = .next t ∧ t.flag R.welStatus 1 = true
        ∧ ∀ w', w' < 3 → t.reg (R.welGacq g.toNat + 4 * w') = s.reg (R.welGacq g.toNat + 4 * w')))
  ∧ (∀ (s : State) (acc : Acc) (g : BitVec 10), Reached s acc (R.welGstat g.toNat) →
    let locks := (s.crossing acc).groupLocks g.toNat 0 0
    Takes s acc (.groupInitialisation acc g) (fun u => if locks ≠ [] then u.setFlag R.welStatus 2 true
      else if s.flag (R.welGcfg g.toNat) 31 = true then u else u.setFlag (R.welGstat g.toNat) 0 true))
  ∧ (∀ (s : State) (g : BitVec 10), s.Inv → s.flag (R.welGstat g.toNat) 0 = true →
    ∃ t, exec (.groupInitDone g) s = .next t ∧ t.fld (R.welGstat g.toNat) 1 0 = 0
      ∧ (∀ n, n / 64 = g.toNat → t.well n = freeWell ∧ t.wellBad n = false)
      ∧ (∀ n, n / 64 ≠ g.toNat → t.well n = s.well n)
      ∧ ((∀ n, n / 64 = g.toNat → tget 0 s.cst.err (errKey 3 (wellIdx n)) = 0) →
        ∀ n, n / 64 ≠ g.toNat → t.wellBad n = s.wellBad n))
  ∧ (∀ (s : State), s.wel.pass = none → s.wel.pend ≠ [] →
    exec .freeingPassStart s = .next { s with wel := { s.wel with pass := some s.wel.pend, passPos := 0, pend := [] } })
  ∧ (∀ (s : State) (set : List (Nat × Nat)), s.Inv → s.wel.pass = some set → (∀ n, tget 0 s.cst.err (errKey 3 n) = 0) →
    ∃ t, exec .freeingPassEnd s = .next t ∧ t.wel.pass = none ∧ t.wel.pend = s.wel.pend
      ∧ ∀ n, let o := wellOwner (s.well n)
        t.well n = if s.wel.passPos ≤ n / 128 ∧ n / 128 < 512 ∧ o ≠ ownerFree ∧ inSet set (o / 2 ^ 13) (o % 2 ^ 13) = true
            ∧ s.wellBad n = false
          then wellWord ownerFree true ((s.well n).toNat % 2 ^ 32) else s.well n)
  ∧ (∀ (s : State) (acc : Acc) (v : W32) (p c : Nat), Reached s acc (R.hgCredClr + 4) → HoldsEntry s p c c →
    let k := holdKey acc (R.hgCredClr + 4)
    let e := v.toNat % 2 ^ 13
    let held := s.loHalf k R.hgCredClr % 2 ^ 20
    let x := s.entry c
    s.grantOwner e = some (p, c) → (s.grant e).state = 2 → x.status = stArmed →
    x.count.toNat + held ≤ x.target.toNat →
    Takes s acc (.hgCredClr acc v) (fun u => (u.setHeldWrite k none).grantSet p c e x.gen.toNat x.rlist.toNat
      (x.target.toNat - x.count.toNat - held)))
  ∧ (∀ (s : State) (tag : BitVec 8) (x : Fwd), (s.cul.fwds.find? (fun x => x.op.space == 2 && x.tag == tag.toNat) = some x →
      exec (.wellForwardTimeout tag) s = .next ((s.dropFwd x).wellLost x.op Fc.linkDown ((s.portTo x.chip).getD 0)))
    ∧ (s.cul.fwds.find? (fun x => x.op.space == 0 && x.tag == tag.toNat) = some x →
      let u := match s.portTo x.chip with | some k => (s.dropFwd x).drop k | none => s.dropFwd x
      exec (.cisternForwardTimeout tag) s = .next (u.cisternLost x.op Fc.linkDown ((s.portTo x.chip).getD 0))))

/-- Register accesses (R10, R14, R15, R16, R443, R452): an access that is no aligned word is refused with an error; a write of an
offset that holds no register changes nothing; a write of a _LO word is held alone; a read answers with the word as it stood at the
start of its kclk cycle, 0 where there is no register; a read of a _LO word captures the pair's upper half, which the next read of
_HI answers with. -/
def Obligations.RegisterPairsAreHeld : Prop :=
  ∀ (s : State) (acc : Acc) (off : BitVec 21),
    let k := holdKey acc off.toNat
    let d := descOf s.isC off.toNat
    let u := s.crossing acc
    let v := u.atStart
    let answer := fun (t : State) (w : Nat) => ({ t with out := s.out ++ [.regData (BitVec.ofNat 32 w)] } : State)
    (∀ (size : BitVec 2) (w : W32), Reached s acc off.toNat → (size ≠ 2 ∨ off.toNat % 4 ≠ 0) →
      exec (.registerWrite acc off size w) s = .next { s with out := s.out ++ [.regError] })
    ∧ (∀ w, Reached s acc off.toNat → off.toNat % 4 = 0 → d = none → Takes s acc (.registerWrite acc off 2 w) (fun u => u))
    ∧ (∀ w x, Reached s acc off.toNat → off.toNat % 4 = 0 → d = some x → x.pair = .lo →
      Takes s acc (.registerWrite acc off 2 w) (fun u => u.setHeldWrite k (some (off.toNat, s.built off.toNat w))))
    ∧ (∀ (size : BitVec 2), (size ≠ 2 ∨ off.toNat % 4 ≠ 0) → s.rst.por = false → (acc.dbg && s.dbgClosed) = false →
      exec (.loReadCapture acc ⟨off, size⟩) s = .next { s with out := s.out ++ [.regError] })
    ∧ (s.regGate acc off.toNat false = .answered → off.toNat % 4 = 0 →
      let read := exec (.loReadCapture acc ⟨off, 2⟩) s
      (d = none → read = .next (answer u 0))
      ∧ (∀ x, d = some x → x.pair = .single → read = .next (answer u (v.wordRead off.toNat)))
      ∧ (∀ x, d = some x → x.pair = .lo →
        read = .next (answer (u.setCapture k (some (off.toNat, v.wordRead (off.toNat + 4)))) (v.wordRead off.toNat)))
      ∧ (∀ x lo c, d = some x → x.pair = .hi → (tget {} s.holds k).cap = some (lo, c) → lo + 4 = off.toNat →
        read = .next (answer (u.setCapture k none) c))
      ∧ (∀ x, d = some x → x.pair = .hi → (∀ e, (tget {} s.holds k).cap = some e → e.1 + 4 ≠ off.toNat) →
        read = .next (answer u (v.wordRead off.toNat))))

/-- The commands of a partition and how it stops (R291, R292, R295, R296): START takes STOPPED to RESTARTING, QUIESCE asks RUN
to stop at PFM_PAT, ABORT takes RESTARTING back, and any other use is a CMD_ERR; a drained QUIESCING partition stops, and one
whose time is over shows QTO and stops. -/
def Obligations.PartitionCommandsChangeState : Prop :=
  (∀ (s : State) (acc : Acc) (p : BitVec 5), p.toNat < s.nPart → Reached s acc (R.pfmPctrl p.toNat) →
    let bad := fun (u : State) => u.setFlag (R.pfmPstate p.toNat) 3 true
    Takes s acc (.partitionStart acc p) (fun u =>
        if s.pstate p.toNat = 0 then ((u.setPstate p.toNat 1).startChecks p.toNat).1 else bad u)
    ∧ Takes s acc (.partitionQuiesce acc p) (fun u => if s.pstate p.toNat = 2 then
        u.modPrt p.toNat (fun x => { x with quiesceReq := true }) else bad u)
    ∧ Takes s acc (.partitionAbort acc p) (fun u => if s.pstate p.toNat = 1 then u.setPstate p.toNat 0 else bad u))
  ∧ (∀ (s : State) (p : BitVec 5), s.Inv → s.pstate p.toNat = 3 → s.drained p.toNat = true →
    ∃ t, exec (.drained p) s = .next t ∧ t.pstate p.toNat = 0 ∧ (t.prt p.toNat).begun = false ∧ t.grid = s.grid
      ∧ t.cst = s.cst ∧ t.wel = s.wel)
  ∧ (∀ (s : State) (p : BitVec 5), s.Inv → s.pstate p.toNat = 3 →
    let lim := s.fld (R.pfmPqto p.toNat) 15 0
    (lim ≠ 0 → (s.prt p.toNat).qTick + lim ≤ s.grid.tick →
      ∃ t, exec (.quiesceTimeout p) s = .next t ∧ t.pstate p.toNat = 0 ∧ t.flag (R.pfmPstate p.toNat) 5 = true
        ∧ (t.prt p.toNat).begun = false ∧ t.grid = s.grid)
    ∧ ((lim = 0 ∨ s.grid.tick < (s.prt p.toNat).qTick + lim) → exec (.quiesceTimeout p) s = .next s))

/-- Snapshots (R276, R277, R278, R339): where channel 62 is chosen, the copier sends what a bank holds, then reads the next spill
images, then sends the header, tags and modes, then one block after another; when every section is written and answered, COMPLETE is
written; RESTORE stores RSEL and PEN, and brings back the entries, basins and lists of an area that passes its checks, and ends when
its writes are answered; another area is refused. -/
def Obligations.SnapshotsCopyAndRestore : Prop :=
  (∀ (s : State) (p : BitVec 5) (n : Snap), s.Still → (s.prt p.toNat).snap = some n → s.chosen = some s.snapChan →
    s.snapDue p.toNat n = true →
    let x := s.chan s.snapChan
    let images := s.spillNum p.toNat
    (s.snapWritten p.toNat n = false →
      (∀ b t, n.buf = b :: t →
        exec (.snapshotBlockCopy p) s = .next ((s.snapWrites p.toNat { n with buf := t } b.2.2).served s.snapChan))
      ∧ (n.buf = [] → n.images < images → s.clk.lostM = false →
        let m := min 256 (images - n.images)
        let u := ((s.setChan s.snapChan { x with
            work := x.work ++ [.snapRead p.toNat (16 * n.images) (16 * m)], credit := x.credit - (16 * m : Nat) }).modPrt p.toNat
          (fun x => { x with snap := some { n with images := n.images + m } })).served s.snapChan
        exec (.snapshotBlockCopy p) s = .next { u with out := s.out ++ [.memRead (.snapshot p.toNat)
          (s.pair (R.pfmPspillAddr p.toNat) + 16 * n.images) (16 * m) none (s.qosOf (.snapshot p.toNat))] })
      ∧ (∀ w t, n.buf = [] → images ≤ n.images → n.head = w :: t →
        exec (.snapshotBlockCopy p) s = .next ((s.snapWrites p.toNat { n with head := t } [w]).served s.snapChan))
      ∧ (∀ key rest, n.buf = [] → images ≤ n.images → n.head = [] → n.next = some (key, rest) →
        exec (.snapshotBlockCopy p) s = .next (((s.cycles 4).snapWrites p.toNat { n with todo := rest }
          (s.blockWrites p.toNat key)).served s.snapChan)))
    ∧ (s.snapWritten p.toNat n = true →
      exec (.snapshotComplete p) s = .next ((s.snapWrites p.toNat { n with finishing := true } [(0x3C, 4, 1)]).served s.snapChan)))
  ∧ (∀ (s : State) (acc : Acc) (p : BitVec 5) (rsel pen : Bool) (m : List Byte), Reached s acc (R.culPsnapCtrl p.toNat) →
    p.toNat < s.nPart → s.pstate p.toNat = 0 → (s.prt p.toNat).restoring = false → (s.crossing acc).wasLocked p.toNat = false →
    let off := R.culPsnapCtrl p.toNat
    (s.areaOk p.toNat m = false → Takes s acc (.restore acc p ⟨rsel, pen, m⟩) (fun u =>
      let w := (u.setFld off 30 30 (bit rsel)).setFld off 29 29 (bit pen)
      (w.memRd (.restore p.toNat) (w.areaBase p.toNat (bit rsel)) 64 none).setFlag (R.culPsnapStatus p.toNat) 29 true))
    ∧ (s.areaOk p.toNat m = true → ∃ t, exec (.restore acc p ⟨rsel, pen, m⟩) s = .next t ∧ (t.prt p.toNat).restoring = true
      ∧ t.flag off 31 = true ∧ t.flag off 30 = rsel ∧ t.flag off 29 = pen ∧ t.wel = s.wel ∧ t.grid = s.grid
      ∧ (∀ i, s.resBase p.toNat + i < s.resEnd p.toNat → s.isFrame (s.resBase p.toNat + i) = false →
        t.entry (s.resBase p.toNat + i) = Cistern.unpack (BitVec.ofNat 128 (bytesAt m (s.snapOff p.toNat 1 + 16 * i) 16)))
      ∧ (∀ i, s.basinBase p.toNat + i < s.basinEnd p.toNat →
        t.basin (s.basinBase p.toNat + i) = BitVec.ofNat 512 (bytesAt m (s.snapOff p.toNat 2 + 64 * i) 64))
      ∧ (∀ i, s.bodyBase p.toNat + i < s.bodyEnd p.toNat →
        tget 0 t.cst.rl (s.bodyBase p.toNat + i) = BitVec.ofNat 128 (bytesAt m (s.snapOff p.toNat 5 + 16 * i) 16))))
  ∧ (∀ (s : State) (p : BitVec 5), (s.prt p.toNat).restoring = true → s.pump.waits = [] →
    let u : State := { s with pump := { s.pump with
      writes := s.pump.writes.filter (fun w => w.who != .restore p.toNat) } }
    exec (.restoreDone p) s
      = .next ((u.setFlag (R.culPsnapCtrl p.toNat) 31 false).modPrt p.toNat (fun x => { x with restoring := false })))

/-- Commands of the Pump (R325, R332, R338, R339, R340, R343): EN 1 starts a DISABLED channel at HEAD with CNT 0, EN 0 lets it end
(on Kyordol-C through DRAINING with CNT and CUR undefined), a HEAD write restarts an idle channel, ADD raises CNT and makes it
ACTIVE, ABORT begins its end, what the channel's state does not allow is a CMD_ERR, and the reserved channels ignore them; RESUME
takes effect when every channel is quiet; a rate window gives every channel its share. -/
def Obligations.PumpCommandsChangeState : Prop :=
  (∀ (s : State) (acc : Acc) (c : BitVec 6) (v : W32), c.toNat < s.nChan → Reached s acc (R.pmpCcfg c.toNat) →
    let off := R.pmpCcfg c.toNat
    let w := if s.snapChan ≤ c.toNat ∨ s.nFunc ≤ bits v.toNat 23 16 then setBits v.toNat 23 16 (s.fld off 23 16) else v.toNat
    let u := fun (z : State) => z.plain off (setBits w 31 31 (s.fld off 31 31))
    let st := s.cstate c.toNat
    let x := s.chan c.toNat
    let h := s.pair (R.pmpChead c.toNat)
    (v.getLsbD 31 = true →
      (st = 6 ∨ st = 0 ∧ s.pumpStopped = true → Takes s acc (.channelEnable acc c v) (fun z => (u z).cmdErr c.toNat))
      ∧ (st = 0 → s.pumpStopped = false → Takes s acc (.channelEnable acc c v) (fun z =>
          ((((((u z).setFlag off 31 true).setFld (R.pmpCcnt c.toNat) 15 0 0).setPair (R.pmpCcur c.toNat) h).setCstate c.toNat 1).setChan
            c.toNat { x.clear with nextAddr := h / 32 * 32, nextHost := h.testBit 0 })))
      ∧ (st ≠ 0 → st ≠ 6 → Takes s acc (.channelEnable acc c v) (fun z => (u z).setFlag off 31 true)))
    ∧ (v.getLsbD 31 = false →
      let d := fun (z : State) => (u z).setFlag off 31 false
      (s.snapChan ≤ c.toNat → Takes s acc (.channelDisable acc c v) u)
      ∧ (c.toNat < s.snapChan →
        (st = 4 ∨ s.isC = false ∧ (st = 1 ∨ st = 5) → Takes s acc (.channelDisable acc c v) (fun z =>
          (((d z).setFld (R.pmpCcnt c.toNat) 15 0 0).setChan c.toNat x.clear).setCstate c.toNat 0))
        ∧ (s.isC = false → st = 2 ∨ st = 3 → Takes s acc (.channelDisable acc c v) (fun z =>
          let e := (d z).setChan c.toNat { x with endDis := true }
          if st = 2 then e.setCstate c.toNat 3 else e))
        ∧ (s.isC = true → st = 1 ∨ st = 2 ∨ st = 5 → Takes s acc (.channelDisable acc c v) (fun z =>
          ((d z).chanUndefined c.toNat).setCstate c.toNat 6))
        ∧ (st = 0 ∨ st = 6 ∨ s.isC = true ∧ st = 3 → Takes s acc (.channelDisable acc c v) d))))
  ∧ (∀ (s : State) (acc : Acc) (win : Bool) (c : BitVec 6), c.toNat < s.nChan →
    (win = true → s.viewChan (accFn acc) = some c.toNat) → (win = false ∨ c.toNat < s.snapChan) →
    let st := s.cstate c.toNat
    let own : Bool := decide (c.toNat < s.snapChan)
    (∀ v : W32, let off := if win then R.pmpFhead (accFn acc) + 4 else R.pmpChead c.toNat + 4
      Reached s acc off →
      let k := holdKey acc off
      let h := headOf (s.loHalf k (off - 4) + v.toNat * 2 ^ 32)
      Takes s acc (.headWrite acc win c v) (fun z =>
        let u := z.setHeldWrite k none
        if own = false then u
        else if st = 0 then u.setPair (R.pmpChead c.toNat) h
        else if st = 1 ∨ st = 5 then
          (((u.setPair (R.pmpChead c.toNat) h).setPair (R.pmpCcur c.toNat) h).setCstate c.toNat 1).setChan c.toNat
            { (s.chan c.toNat).clear with nextAddr := h / 32 * 32, nextHost := h.testBit 0 }
        else u.cmdErr c.toNat))
    ∧ (let off := if win then R.pmpFcmd (accFn acc) else R.pmpCcmd c.toNat
      Reached s acc off →
      (∀ n : BitVec 16, Takes s acc (.add acc win c n) (fun u =>
        if own = false then u
        else if s.chanFuncOk c.toNat = false ∨ ¬(st = 1 ∧ n ≠ 0 ∨ st = 2) then u.cmdErr c.toNat
        else if 65535 < s.ccnt c.toNat + n.toNat then u.setFlag (R.pmpCstatus c.toNat) 25 true
        else (u.setFld (R.pmpCcnt c.toNat) 15 0 (s.ccnt c.toNat + n.toNat)).setCstate c.toNat 2))
      ∧ Takes s acc (.abort acc win c) (fun u =>
        if own = false then u
        else if s.isC = true ∨ s.pumpStopped = true then u.cmdErr c.toNat
        else if st = 2 then u.setCstate c.toNat 3 else if st = 1 then u else u.cmdErr c.toNat)))
  ∧ (∀ (s : State) (acc : Acc), Reached s acc R.pmpCtrl → Takes s acc (.pumpResume acc) (fun u => u.setFlag R.pmpCtrl 0 true))
  ∧ (∀ (s : State), s.Inv → s.flag R.pmpCtrl 0 = true → s.pumpQuiet = true →
    ∃ t, exec .pumpResumeEffect s = .next t ∧ t.pumpStopped = false ∧ t.flag R.pmpCtrl 0 = false
      ∧ t.flag R.pmpErrInfo 31 = false ∧ t.cst = s.cst ∧ t.out = s.out
      ∧ ∀ c, c < s.nChan → let h := s.pair (R.pmpCcur c)
        t.cstate c = (if s.cstate c = 4 then 1 else s.cstate c)
        ∧ t.chan c = if s.cstate c = 4 then { s.chan c with nextAddr := h / 32 * 32, nextHost := h.testBit 0 } else s.chan c)
  ∧ (∀ (s : State), s.Inv → ∃ t, exec .rateWindowStart s = .next t ∧ t.regs = s.regs ∧ t.out = s.out
      ∧ t.pump.traceCredit = min s.pump.traceCredit 0 + 1966
      ∧ ∀ c, c < s.nChan → t.chan c = { s.chan c with
          credit := min (s.chan c).credit 0 + (s.fld (R.pmpCshare c) 8 0 * 256 : Nat) })

/-- Transfers of the Pump (R330, R333, R334, R336, R337, R339): a descriptor's line is read for the channel that arbitration chooses and
the descriptor taken in, or it ends the list where it is malformed or outside the window; bursts are read, swapped and written, and
their answers count; an OP is issued and its response taken; a descriptor completes when its write-back is answered. -/
def Obligations.PumpMovesBytes : Prop :=
  (∀ (s : State) (c : Nat), s.chosen = some c → s.canReadDesc c = true → s.clk.lostM = false →
    let x := s.chan c
    ((∀ p, s.chanPart c = some p → x.nextHost = true ∨ s.inWindow p x.nextAddr 32 = true) →
      exec .descriptorRead s = .next { (s.served c).setChan c { x with reading := true } with
        out := if s.lineFetched c = true then s.out else s.out ++ [.memRead (.chan c) (x.nextAddr / 64 * 64) 64
          (s.hostCtx (s.chanHost c x.nextHost)) (s.qosOf (.chan c))] })
    ∧ (∀ p, s.Inv → s.chanPart c = some p → x.nextHost = false → s.inWindow p x.nextAddr 32 = false → x.descs = [] →
      x.wb = none →
      let d : PDesc := { addr := x.nextAddr, host := false, data := 0, bad := 6, got := false }
      exec .descriptorRead s = .next (((s.served c).setChan c { x with descs := [d] }).descError c d)))
  ∧ (∀ (s : State) (c : BitVec 6) (data : BitVec 256) (resp : BitVec 2), s.Inv → (s.chan c.toNat).reading = true →
    resp.toNat < 2 → s.cstate c.toNat = 2 → (s.chan c.toNat).descs = [] → (s.chan c.toNat).wb = none →
    (s.chan c.toNat).noProg = false →
    let x := s.chan c.toNat
    let d : PDesc := { addr := x.nextAddr, host := x.nextHost, data := data }
    let b := s.descBad c.toNat d
    let d' := { d with bad := b }
    let u := s.setChan c.toNat { x with reading := false, descs := [d'], nextAddr := d.next, nextHost := d.nhost }
    (b ≠ 0 → exec (.descriptorReadDone c data resp) s = .next (u.descError c.toNat d'))
    ∧ (b = 0 → 0 < d.len ∨ d.isOp = true → exec (.descriptorReadDone c data resp) s = .next u))
  ∧ (∀ (s : State) (c : Nat), s.chosen = some c →
    (c = s.sumpChan → exec .burstReadIssue s = .next ((s.drain c).served c))
    ∧ (∀ i d, c ≠ s.sumpChan → s.canBurst c = true → s.clk.lostM = false → nextCut (s.chan c).descs 0 = some (i, d) →
      let x := s.chan c
      exec .burstReadIssue s = .next { (s.served c).setChan c { x with
          descs := x.descs.set i { d with cut := d.cut + d.burst },
          bursts := x.bursts ++ [{ desc := x.base + i, off := d.cut, len := d.burst }],
          credit := x.credit - (d.burst : Nat) } with
        out := s.out ++ [.memRead (.chan c) (d.src + d.cut) d.burst (s.hostCtx (s.chanHost c d.shost)) (s.qosOf (.chan c))] }))
  ∧ (∀ (s : State) (c : BitVec 6) (data : List Byte) (resp : BitVec 2) (b : Burst) (d : PDesc), c.toNat < s.snapChan →
    s.cstate c.toNat ≠ 6 → resp.toNat < 2 →
    let x := s.chan c.toNat
    let q := fun (b : Burst) => !b.written && !b.failed
    x.bursts.find? q = some b → x.descOf b = some d →
    exec (.burstReadDone c data resp) s
      = .next ((s.setChan c.toNat { x with bursts := updFirst q (fun b => { b with written := true }) x.bursts }).memWr
          (.chan c.toNat) (d.dst + b.off) b.len (ofBytes (d.swapped (data.take b.len))) (s.chanHost c.toNat d.dhost)))
  ∧ (∀ (s : State) (c : BitVec 6) (resp : BitVec 2) (b : Burst) (d : PDesc), c.toNat < s.snapChan →
    s.cstate c.toNat ≠ 6 → resp.toNat < 2 →
    let x := s.chan c.toNat
    let q := fun (b : Burst) => b.written && !b.okay && !b.failed
    x.bursts.find? q = some b → x.descOf b = some d →
    let a := s.memAckAt (.chan c.toNat) (d.dst + b.off) b.len
    let u := a.setChan c.toNat ({ a.chan c.toNat with
      bursts := updFirst q (fun b => { b with okay := true }) (a.chan c.toNat).bursts }.prune)
    exec (.burstWriteDone c resp) s
      = .next ((u.countBytes c.toNat (u.chanPart c.toNat) b.len).chanAdvance c.toNat 4))
  ∧ (∀ (s : State) (c : BitVec 6) (resp : BitVec 2) (d : PDesc), s.Inv → s.pump.waits = [] → resp.toNat < 2 →
    let x := s.chan c.toNat
    x.wb = some 1 → x.descs = [d] → s.cstate c.toNat ≠ 6 →
    let a := (s.memAckAt (.chan c.toNat) (d.addr + 16) 16).setChan c.toNat { x with wb := none }
    let u := (a.countBytes c.toNat (s.chanPart c.toNat) 16).descFinish c.toNat d 1
    exec (.descriptorWriteBackDone c resp) s = .next u ∧ (u.chan c.toNat).descs = []
      ∧ u.ccnt c.toNat = (if d.last then 0 else s.ccnt c.toNat - 1)
      ∧ u.fld (R.pmpCstatus c.toNat) 19 16 = 1)
  ∧ (∀ (s : State) (c : BitVec 6), s.Inv → (s.chan c.toNat).quiet = true → (s.chan c.toNat).opRsp = none →
    let x := s.chan c.toNat
    (s.cstate c.toNat = 6 → x.reset = false →
      exec (.channelQuiet c) s = .next ((s.setChan c.toNat x.clear).setCstate c.toNat 0))
    ∧ (s.cstate c.toNat = 3 → x.descs = [] → exec (.channelQuiet c) s = .next (s.chanEnd c.toNat))
    ∧ (∀ d, s.cstate c.toNat = 3 → x.descs = [d] → d.bad = 0 → d.cut < d.len →
      exec (.channelQuiet c) s = .next (s.chanResidue c.toNat d)))
  ∧ (∀ (s : State) (c : BitVec 6) (d : PDesc) (p n : Nat) (l : List PDesc),
    let x := s.chan c.toNat
    let q := pumpReq c.toNat d
    let e := s.entry n
    let e' := { e with count := e.count + 1 }
    x.descs = d :: l → d.isOp = true → d.bad = 0 → s.cstate c.toNat = 2 → s.pumpStopped = false →
    s.chanHeld c.toNat = false → x.opOut = false → x.opRsp = none → x.wb = none → c.toNat < s.snapChan →
    Serves s q p n → d.opc = Op.arrive → e.status = stArmed → (e.kind = kBarrier ∨ e.kind = kEvent) → q.gen = e.gen →
    s.tagged p q.index.toNat = none → e.count.toNat + 1 < e.target.toNat →
    ∃ t, exec (.opIssue c) s = .next t ∧ t.out = s.out
      ∧ Accounts ((s.setEntry n e').setChan c.toNat { x with opRsp := some (e'.rsp Res.ok) }) t)
  ∧ (∀ (s : State) (c : BitVec 6) (d : PDesc) (r : BankRsp), s.Inv → (s.chan c.toNat).opRsp = some r →
    (s.chan c.toNat).descs = [d] → s.cstate c.toNat = 2 → s.pumpStopped = false →
    let u := (s.setChan c.toNat { s.chan c.toNat with opRsp := none }).setFld (R.pmpCstatus c.toNat) 15 12 r.result
    exec (.opResponse c) s = .next (if d.wb then u.descWb c.toNat d 1 r.result 0 else u.descFinish c.toNat d 1))

/-- Halts (R360, R361, R363): HALT on OBS_HCMD, and an edge of a tap with a break mask, reach every partition of the mask that
is in RUN and not halted, and use one halt ID; RESUME waits for its boundary or, where it is late, reaches the halted
partitions at once; a received beat concerns the multi-die partitions that span its chip, and goes on if it is new. -/
def Obligations.HaltsReachPartitions : Prop :=
  (∀ (s : State) (acc : Acc), s.Calm →
    let halts := fun (t : State) (m : Nat) => (∀ p, p < s.nPart →
        (t.prt p).haltPend = ((s.prt p).haltPend || (m.testBit p && s.pstate p == 2 && !(s.prt p).halted)))
      ∧ t.obs.haltId = s.obs.haltId + 1 ∧ t.cst = s.cst ∧ t.wel = s.wel ∧ t.grid = s.grid
    (Reached s acc R.obsHcmd → ∃ t, exec (.haltCommand acc) s = .next t ∧ halts t (s.reg R.obsHmask))
    ∧ (∀ (tap : BitVec 12) (p : Nat), s.tapPart tap.toNat = some p → s.up = true →
      (s.reg (R.obsPbrk p) = 0 → exec (.tapBreak tap) s = .next s)
      ∧ (s.reg (R.obsPbrk p) ≠ 0 → s.rst.kst ≠ 3 → ∃ t, exec (.tapBreak tap) s = .next t ∧ halts t (s.reg (R.obsPbrk p)))
      ∧ (s.reg (R.obsPbrk p) ≠ 0 → s.rst.kst = 3 → exec (.tapBreak tap) s = .next { s with
          held := s.held ++ [.tapBreak tap], rst := { s.rst with waking := true } }))
    ∧ (Reached s acc R.obsHcmd → let e := s.leadTick
      ∃ t, exec (.resumeCommand acc) s = .next t ∧ t.obs.haltId = s.obs.haltId + 1 ∧ t.cst = s.cst ∧ t.wel = s.wel
        ∧ (s.tickno + 1 < e → t.parts = s.parts
          ∧ t.obs.resumes = s.obs.resumes ++ [(e, BitVec.ofNat 32 (s.reg R.obsHmask))])
        ∧ (e ≤ s.tickno + 1 → t.obs.resumes = s.obs.resumes ∧ t.flag R.obsStatus 5 = true ∧ ∀ p, p < s.nPart →
          (t.prt p).resumePend = ((s.prt p).resumePend || ((s.reg R.obsHmask).testBit p && (s.prt p).halted)))))
  ∧ (∀ (s : State) (port : BitVec 3) (b : Beat), s.Calm → s.up = true → (s.port port.toNat).rx = [b] → b.beat = 0 →
    b.last = true → b.btype = 1 → b.pay.testBit 4 = false →
    let chip := bits b.pay 27 16
    let m := bits b.pay 75 44
    let e := bits b.pay 123 76
    let seen := fun (t : State) => (chip, bits b.pay 43 28) ∈ t.obs.seen
    let here := fun p => m.testBit p && s.multiDie p && s.spans p (s.trayOf chip)
    (b.pay % 16 = 8 → ∃ t, exec (.haltToken port) s = .next t ∧ seen t ∧ t.cst = s.cst ∧ ∀ p, p < s.nPart →
      (t.prt p).haltPend = ((s.prt p).haltPend || (here p && s.pstate p == 2 && !(s.prt p).halted)))
    ∧ (b.pay % 16 = 9 → ∃ t, exec (.resumeToken port) s = .next t ∧ seen t ∧ t.cst = s.cst
      ∧ (e ≤ s.tickno + 1 → ∀ p, p < s.nPart → (t.prt p).resumePend = ((s.prt p).resumePend || (here p && (s.prt p).halted)))
      ∧ (s.tickno + 1 < e → t.parts = s.parts ∧ t.obs.resumes.length = s.obs.resumes.length + 1)))
  ∧ (∀ (s : State) (chip : BitVec 12) (id : BitVec 16), exec (.haltSeenEntryRetire chip id) s
      = .next { s with obs := { s.obs with seen := s.obs.seen.erase (chip.toNat, id.toNat) } })

/-- The global STOP (R364, R367) and tap clocks (R359): STOP and START on OBS_HCMD or in a beat wait for their effective tick, whatever
is in force, and note whether it is late; the cut is complete when every port in use has exchanged its mark and no report waits; a
window gives its region's state, and notes when it stopped. -/
def Obligations.StopAndStartFixTheirTick : Prop :=
  (∀ (s : State) (acc : Acc), Reached s acc R.obsHcmd →
    let e := s.leadTick
    let known := fun (t : State) (start : Bool) => t.parts = s.parts ∧ t.cst = s.cst ∧ t.stop = { s.stop with
        pend := insertTick (e, start, decide (e ≤ s.tickno)) s.stop.pend }
    (∃ t, exec (.stop acc) s = .next t ∧ known t false) ∧ ∃ t, exec (.start acc) s = .next t ∧ known t true)
  ∧ (∀ (s : State) (port : BitVec 3) (b : Beat), s.Calm → s.up = true → (s.port port.toNat).rx = [b] → b.beat = 0 →
    b.last = true → b.btype = 1 → b.pay.testBit 4 = true →
    let e := bits b.pay 123 76
    let known := fun (t : State) (start : Bool) => t.parts = s.parts ∧ t.stop = { s.stop with
        pend := insertTick (e, start, decide (e ≤ s.tickno)) s.stop.pend }
    (b.pay % 16 = 8 → ∃ t, exec (.haltToken port) s = .next t ∧ known t false)
    ∧ (b.pay % 16 = 9 → ∃ t, exec (.resumeToken port) s = .next t ∧ known t true))
  ∧ (∀ (s : State), s.stop.inForce = true → s.stop.cut = false →
    s.upPorts.all (fun k => s.markCame k && s.markAcked k) = true → s.reportsIn = true →
    let u : State := { s with stop := { s.stop with cut := true } }
    exec .stopCut s = .next (u.ao { type := 0x0E, unit := 11, aux := 1, info := s.stop.e.toNat }))
  ∧ (∀ (s : State) (r : BitVec 3) (n : BitVec 16), s.up = true →
    let off := R.obsTclk r.toNat
    let nom := s.fld off 15 0
    let new := if nom = 0 ∨ 15 * nom ≤ 16 * n.toNat then 0 else if 0 < n.toNat then 1 else 2
    let u := s.setFld off 31 30 new
    (s.fld off 31 30 = 2 → new = 2 → exec (.tclkWindow r n) s = .next u)
    ∧ (s.fld off 31 30 = 2 → new ≠ 2 → exec (.tclkWindow r n) s = .next (u.restart r.toNat))
    ∧ (s.fld off 31 30 ≠ 2 → new = 2 →
      exec (.tclkWindow r n) s = .next { u with obs := { s.obs with stopTb := tset 0 s.obs.stopTb r.toNat s.now } })
    ∧ (s.fld off 31 30 ≠ 2 → new ≠ 2 → exec (.tclkWindow r n) s = .next u))

/-- Tensor dumps (R370, R372): DUMP_TENSOR takes a free entry and arms it, or is REFUSED: RIGHTS for a function without CTL or
bytes outside the window, DESC_FORMAT for a field out of range, POOL_EXHAUSTED where no entry is free; a dump whose bytes and
header are all written frees its entry and completes DONE with the tick. -/
def Obligations.DumpsTakeAndFreeEntries : Prop :=
  (∀ (s : State) (f : BitVec 8) (c : Cmd), HostServes s f.toNat c 8 →
    let x : Dump := { func := f.toNat, cidx := c.cidx, part := s.cmdPart f.toNat c, cmd := c.data, order := s.obs.dumpOrder }
    let refused := fun code => HostGives s (.dumpTensor f) f.toNat c (s.fly f.toNat c) { cstat := 1, fcode := code }
    (s.fnCtl f.toNat = false → refused Fc.rights)
    ∧ (s.fnCtl f.toNat = true →
      (s.dumpFormat x = true → refused Fc.descFormat)
      ∧ (s.dumpFormat x = false → s.dumpInside x = false → refused Fc.rights)
      ∧ (s.dumpFormat x = false → s.dumpInside x = true →
        ((∀ d, d < 16 → tget none s.obs.dumps d ≠ none) → refused Fc.poolExhausted)
        ∧ (∀ d, d < 16 → tget none s.obs.dumps d = none → (∀ e, e < d → tget none s.obs.dumps e ≠ none) →
          exec (.dumpTensor f) s = .next { s.fly f.toNat c (.dump d) with obs := { s.obs with
            dumps := tset none s.obs.dumps d (some x), dumpOrder := s.obs.dumpOrder + 1 } }))))
  ∧ (∀ (s : State) (d : BitVec 4) (x : Dump) (i : InFlight), s.Calm → tget none s.obs.dumps d.toNat = some x →
    x.armed = false → x.read = x.total →
    (x.answered = x.total + 64 → (s.fn x.func).findFlight x.cidx = some i →
      exec (.dumpDone d) s = .next (({ s with obs := { s.obs with dumps := tset none s.obs.dumps d.toNat none } } : State).complete
        x.func i.cmd { data := x.tick }))
    ∧ (x.answered ≠ x.total + 64 → exec (.dumpDone d) s = .next s))

/-- The block's side of the meter link (R383, R384, R385, R391, R393, R395): a frame is answered by a status word; a periodic
cut waits for an idle link; MARK and CONFIG frames queue up to four; a REPORT frame that passes its CRC is copied; the debug
port is unlocked on a production part only in a presence window. -/
def Obligations.MeterLinkSendsFrames : Prop :=
  (∀ (s : State) (w : BitVec 16), (s.glink.flight = none → exec (.statusWord w) s = .next s)
    ∧ ∀ fr, s.glink.flight = some fr →
      let u := s.setLinkUp true
      let v := if w = 3 then u.setFlag R.pfmGauStatus 2 true else u
      let g := { s.glink with flight := none, fseq := s.glink.fseq + 1, restart := false }
      (w = 1 ∨ w = 3 → s.glink.queue = [] → exec (.statusWord w) s = .next { v with glink := g })
      ∧ (∀ x l, w = 1 ∨ w = 3 → s.glink.queue = x :: l → exec (.statusWord w) s
          = .next { v with glink := { g with flight := some x, queue := l }, out := s.out ++ [.gauFrame (g.words x)] })
      ∧ (w = 2 → exec (.statusWord w) s = .next { u with out := s.out ++ [.gauFrame (s.glink.words fr)] }))
  ∧ (∀ (s : State),
    ((s.flag R.hgCtrl 0 = true ∨ s.up = false) → exec .deltaTimer s = .next s)
    ∧ (s.flag R.hgCtrl 0 = false → s.up = true →
      (s.rst.kst = 3 → exec .deltaTimer s = .next { s with glink := { s.glink with due := true } })
      ∧ (s.rst.kst ≠ 3 → (s.glink.flight ≠ none ∨ s.glink.queue ≠ []) → exec .deltaTimer s = .next s)
      ∧ (s.rst.kst ≠ 3 → s.glink.flight = none → s.glink.queue = [] →
        exec .deltaTimer s = .next (s.gauCut (List.range s.nPart)))))
  ∧ (∀ (s : State) (acc : Acc) (v : W32), Reached s acc R.pfmGauMark → v.getLsbD 31 = true → bits v.toNat 4 0 < s.nPart →
    let p := bits v.toNat 4 0
    let tag := BitVec.ofNat 32 (s.reg R.pfmGauTag)
    Takes s acc (.pfmGauMark acc v) (fun u => if 4 ≤ s.glink.marks then u.setFlag R.pfmGauStatus 6 true
      else (u.gauCut [p]).gauQueue ⟨0x2000, [BitVec.ofNat 16 p, tag.setWidth 16, tag.extractLsb' 16 16]⟩))
  ∧ (∀ (s : State) (acc : Acc) (v : W32), Reached s acc (R.pfmGauCfgw + 4) →
    let k := holdKey acc (R.pfmGauCfgw + 4)
    let value := BitVec.ofNat 32 (s.loHalf k R.pfmGauCfgw)
    Takes s acc (.pfmGauCfgw acc v) (fun z =>
      let u := z.setHeldWrite k none
      if 4 ≤ s.glink.marks then u.setFlag R.pfmGauStatus 6 true
      else u.gauQueue ⟨0x3000, [BitVec.ofNat 16 (v.toNat % 256), value.setWidth 16, value.extractLsb' 16 16]⟩))
  ∧ (∀ (s : State) (ws : List (BitVec 16)) (off lo hi c : BitVec 16),
    (crcOk ws = false → exec (.reportFrame ws) s = .next s)
    ∧ (s.Inv → ws = [0x8000, off, 2, lo, hi, c] → crcOk ws = true → off.toNat % 4 = 0 → off ≠ 8 →
      descOf s.isC (0xC0000 + off.toNat) ≠ none → ∃ t, exec (.reportFrame ws) s = .next t
        ∧ t = { s with regs := t.regs, fresh := t.fresh }
        ∧ t.reg (0xC0000 + off.toNat) = lo.toNat + hi.toNat * 65536 ∧ t.flag R.gauStatus 0 = true
        ∧ ∀ r, r ≠ 0xC0000 + off.toNat → r ≠ R.gauStatus → t.reg r = s.reg r))
  ∧ (∀ (s : State), exec .linkUpTimeout s = .next ((s.setFlag R.pfmGauStatus 5 false).setFlag R.gauStatus 1 false))
  ∧ (∀ (s : State) (acc : Acc) (both : Bool), Reached s acc R.pfmPriv →
    Takes s acc (.dbgLock acc both) (fun u => u.setFlag R.pfmGauStatus 0 false)
    ∧ Takes s acc (.dbgUnlock acc) (fun u => if s.flag R.pfmCfgId 13 = false then u.setFlag R.pfmGauStatus 0 true
      else if s.flag R.gauStatus 6 = true then (u.setFlag R.pfmGauStatus 0 true).setIsland (s.island.presence 3)
      else (u.setFlag R.pfmGauStatus 1 true).setIsland (s.island.presence 4)))

/-- The Gauge (R380, R384 to R386, R388 to R392, R394): a frame in sequence is applied and answered ACCEPT, one taken before is
answered without effect, one that cannot be read is answered BAD; a CONFIG frame is applied only with the seal open and in
range, and is kept in the older copy of the configuration; intervals, power, the seal and presence write their log records; the reader port answers a request that passes its
CRC. -/
def Obligations.GaugeAppliesFramesAndLogs : Prop :=
  (∀ (s : State) (ws : List (BitVec 16)), let g := s.island
    let w0 := (ws.getD 0 0).toNat
    let f := ws.getD 1 0
    let g1 := { g with lastFseq := f }
    let n := bits w0 5 0
    let p := bits (ws.getD 2 0).toNat 4 0
    let k := bits (ws.getD 2 0).toNat 7 0
    let v := (ws.getD 3 0).toNat + (ws.getD 4 0).toNat * 2 ^ 16
    let bad : Host.Outcome State Fault Refusal := .next { s with out := s.out ++ [.gauStatus 2] }
    let again : Host.Outcome State Fault Refusal := .next { s with out := s.out ++ [.gauStatus 1] }
    g.live = true →
    (crcOk ws = false → exec (.deltaFrame ws) s = bad ∧ exec (.markFrame ws) s = bad ∧ exec (.configFrame ws) s = bad)
    ∧ (crcOk ws = true → bits w0 15 12 = 1 → n ≤ 32 → ws.length = 9 + 16 * n → w0.testBit 11 = false →
      (f = g.lastFseq → exec (.deltaFrame ws) s = again)
      ∧ (f = g.lastFseq + 1 → let x := (List.range n).foldl (Island.addEntry ws) g1
        let y := { x with satFlag := g.satFlag || w0.testBit 10, lastTick := BitVec.ofNat 48 (at48 ws 5) }
        IslandGives s (.deltaFrame ws) y [.gauStatus 1]))
    ∧ (crcOk ws = true → bits w0 15 12 = 2 → ws.length = 6 → w0.testBit 11 = false →
      (f = g.lastFseq → exec (.markFrame ws) s = again)
      ∧ (f = g.lastFseq + 1 →
        let x := (g1.interval p).log 0x02 p (tget 0 g.tag p + v * 2 ^ 32 + g.lastTick.toNat * 2 ^ 64) false false
        IslandGives s (.markFrame ws) { x with tag := tset 0 g.tag p v } [.gauStatus 1]))
    ∧ (crcOk ws = true → bits w0 15 12 = 3 → ws.length = 6 → w0.testBit 11 = false →
      (f = g.lastFseq → exec (.configFrame ws) s = again)
      ∧ (f = g.lastFseq + 1 → let ok := g.sealOpen && g.paramOk k v
        let x := g1.log 0x05 0xFF (k + bit ok * 256 + g.param k * 2 ^ 16 + v * 2 ^ 48) false false
        IslandGives s (.configFrame ws) (if ok then (x.setParam k v).save else x) [.gauStatus (if ok then 1 else 3)])))
  ∧ (∀ (s : State), let g := s.island
    IslandGives s .gaugePowerUp g.powerUp []
    ∧ (g.live = true →
      (let x := (g.changed.foldl Island.interval g).log 0x07 0xFF 0 false false;
        IslandGives s .gauPwrfail { x with failing := true } [])
      ∧ IslandGives s .interval (g.changed.foldl Island.interval g) []
      ∧ (g.sealOpen = false → let x := { g with sealOpen := true, sealCnt := g.sealCnt + 1, chainBreak := false }
        IslandGives s .sealOpen (x.save.log 0x03 0xFF x.sealCnt.toNat false false) [])
      ∧ (g.sealOpen = true → let x := { g with sealOpen := false }
        IslandGives s .sealClose (x.log 0x04 0xFF g.sealCnt.toNat false false) [])
      ∧ (g.presOpen = false → let x := { g with presOpen := true, presStuck := false }
        IslandGives s .presenceWindowOpen (x.log 0x09 0xFF 0 false false) [])
      ∧ IslandGives s .presenceWindowClose { g with presOpen := false } []
      ∧ (let x := { g with presOpen := false, presStuck := true }
        IslandGives s .presStuck (x.log 0x09 0xFF 1 false false) [])
      ∧ ∀ v, IslandGives s (.cfgJmpChange v) { g with jmp := v } []))
  ∧ (∀ (s : State) (req : BitVec 96), let g := s.island
    let bs := toBytes 12 req.toNat
    let reply := fun (l : List Byte) => ({ s with out := s.out ++ [.gauRd (withCrc l)] } : State)
    g.up = true → bytesAt bs 10 2 = crc16Bytes (bs.take 10) →
    (bytesAt bs 0 1 = 1 → exec (.readId req) s = .next (reply (toBytes 4 g.meterId.toNat
        ++ toBytes 4 Config.gauVer.toNat ++ toBytes 4 g.sealCnt.toNat ++ toBytes 6 g.gtime.toNat)))
    ∧ (bytesAt bs 0 1 = 2 → 1 ≤ bytesAt bs 3 1 → bytesAt bs 3 1 ≤ 64 → exec (.readRegs req) s
      = .next (reply ((List.range (bytesAt bs 3 1)).flatMap (fun i => toBytes 4 (g.reg (bytesAt bs 1 2 + 4 * i))))))
    ∧ (∀ r, bytesAt bs 0 1 = 3 → findRec g.flash (bytesAt bs 1 6) = some r →
      exec (.readLog req) s = .next (reply (toBytes 64 r.toNat))))
end

