-- ==== Sys2Proof/Laws/Tab.lean ====
section
/-! SUPPORT. The laws of sparse tables: a read after a write, and that every table operation keeps the canonical form. -/

namespace Sys2Proof.Machine

/-! ## Sorted tables -/

/-- A table sorted above `b` is sorted above anything less. -/
theorem tsorted_weaken {α : Type} {t : Tab α} {a b : Nat} (h : tsorted (some b) t = true) (hab : a ≤ b) :
    tsorted (some a) t = true := by
  cases t with
  | nil => rfl
  | cons e t => simp only [tsorted, Bool.and_eq_true, decide_eq_true_eq] at h ⊢; exact ⟨by omega, h.2⟩

/-- A table sorted above a key is sorted. -/
theorem tsorted_none {α : Type} {t : Tab α} {b : Nat} (h : tsorted (some b) t = true) : tsorted none t = true := by
  cases t with
  | nil => rfl
  | cons e t => simp only [tsorted, Bool.and_eq_true] at h ⊢; exact h.2

/-- Every key of a table sorted above `b` is above `b`. -/
theorem tsorted_lt {α : Type} {t : Tab α} {b : Nat} (h : tsorted (some b) t = true) : ∀ e ∈ t, b < e.1 := by
  induction t generalizing b with
  | nil => simp
  | cons e t ih =>
    simp only [tsorted, Bool.and_eq_true, decide_eq_true_eq] at h
    intro x hx
    rcases List.mem_cons.1 hx with rfl | hx
    · exact h.1
    · exact Nat.lt_trans h.1 (ih h.2 x hx)

/-- Sorted above `b` is: sorted, and every key above `b`. -/
theorem tsorted_some_iff {α : Type} {t : Tab α} {b : Nat} :
    tsorted (some b) t = true ↔ tsorted none t = true ∧ ∀ e ∈ t, b < e.1 := by
  constructor
  · exact fun h => ⟨tsorted_none h, tsorted_lt h⟩
  · intro h
    cases t with
    | nil => rfl
    | cons e t =>
      simp only [tsorted, Bool.and_eq_true, decide_eq_true_eq] at h ⊢
      exact ⟨h.2 e (List.mem_cons_self ..), h.1⟩

/-- A sorted table is one whose keys strictly rise. -/
theorem tsorted_iff_pairwise {α : Type} {t : Tab α} : tsorted none t = true ↔ t.Pairwise (fun a b => a.1 < b.1) := by
  induction t with
  | nil => simp [tsorted]
  | cons e t ih => rw [List.pairwise_cons, ← ih]; simp only [tsorted]; rw [tsorted_some_iff, and_comm]

/-- The canonical form: keys strictly rise, and no entry holds the default. -/
theorem twf_iff {α : Type} [DecidableEq α] {d : α} {t : Tab α} :
    twf d t = true ↔ t.Pairwise (fun a b => a.1 < b.1) ∧ ∀ e ∈ t, e.2 ≠ d := by
  simp [twf, tsorted_iff_pairwise, List.all_eq_true]

@[simp] theorem twf_nil {α : Type} [DecidableEq α] (d : α) : twf d ([] : Tab α) = true := rfl

/-! ## What the operations leave in the table -/

/-- A member after a removal was one before. -/
theorem mem_tdel {α : Type} {t : Tab α} {k : Nat} {e : Nat × α} (h : e ∈ tdel t k) : e ∈ t := by
  induction t with
  | nil => simp [tdel] at h
  | cons x t ih =>
    simp only [tdel] at h
    split at h
    · exact List.mem_cons_of_mem _ h
    · split at h
      · exact h
      · rcases List.mem_cons.1 h with rfl | h
        · exact List.mem_cons_self ..
        · exact List.mem_cons_of_mem _ (ih h)

/-- A member after an insertion is the new entry or was one before. -/
theorem mem_tins {α : Type} {t : Tab α} {k : Nat} {v : α} {e : Nat × α} (h : e ∈ tins v t k) : e = (k, v) ∨ e ∈ t := by
  induction t with
  | nil => exact .inl (by simpa [tins] using h)
  | cons x t ih =>
    simp only [tins] at h
    split at h
    · rcases List.mem_cons.1 h with rfl | h
      · exact .inl rfl
      · exact .inr (List.mem_cons_of_mem _ h)
    · split at h
      · rcases List.mem_cons.1 h with rfl | h
        · exact .inl rfl
        · exact .inr h
      · rcases List.mem_cons.1 h with rfl | h
        · exact .inr (List.mem_cons_self ..)
        · rcases ih h with h | h
          · exact .inl h
          · exact .inr (List.mem_cons_of_mem _ h)

/-- Removal keeps the keys rising. -/
theorem tdel_pairwise {α : Type} {t : Tab α} (k : Nat) (h : t.Pairwise (fun a b => a.1 < b.1)) :
    (tdel t k).Pairwise (fun a b => a.1 < b.1) := by
  induction t with
  | nil => simp [tdel]
  | cons x t ih =>
    have h' := List.pairwise_cons.1 h
    simp only [tdel]
    split
    · exact h'.2
    · split
      · exact h
      · exact List.pairwise_cons.2 ⟨fun e he => h'.1 e (mem_tdel he), ih h'.2⟩

/-- Insertion keeps the keys rising. -/
theorem tins_pairwise {α : Type} {t : Tab α} (v : α) (k : Nat) (h : t.Pairwise (fun a b => a.1 < b.1)) :
    (tins v t k).Pairwise (fun a b => a.1 < b.1) := by
  induction t with
  | nil => simp [tins]
  | cons x t ih =>
    have h' := List.pairwise_cons.1 h
    simp only [tins]
    split
    · next hk => exact List.pairwise_cons.2 ⟨fun e he => hk ▸ h'.1 e he, h'.2⟩
    · split
      · next hlt =>
        exact List.pairwise_cons.2 ⟨fun e he => by
          rcases List.mem_cons.1 he with rfl | he
          · exact hlt
          · exact Nat.lt_trans hlt (h'.1 e he), h⟩
      · next hne hge =>
        refine List.pairwise_cons.2 ⟨fun e he => ?_, ih h'.2⟩
        rcases mem_tins he with rfl | he
        · exact Nat.lt_of_le_of_ne (Nat.le_of_not_lt hge) hne
        · exact h'.1 e he

/-- A write keeps the canonical form. -/
@[simp] theorem twf_tset {α : Type} [DecidableEq α] {d : α} {t : Tab α} (k : Nat) (v : α) (h : twf d t = true) :
    twf d (tset d t k v) = true := by
  rw [twf_iff] at h ⊢
  unfold tset
  split
  · exact ⟨tdel_pairwise k h.1, fun e he => h.2 e (mem_tdel he)⟩
  · next hv =>
    refine ⟨tins_pairwise v k h.1, fun e he => ?_⟩
    rcases mem_tins he with rfl | he
    · exact hv
    · exact h.2 e he

@[simp] theorem twf_tmod {α : Type} [DecidableEq α] {d : α} {t : Tab α} (k : Nat) (f : α → α) (h : twf d t = true) :
    twf d (tmod d t k f) = true := twf_tset _ _ h

/-- Every filter keeps the canonical form. -/
theorem twf_filter {α : Type} [DecidableEq α] {d : α} {t : Tab α} (p : Nat × α → Bool) (h : twf d t = true) :
    twf d (t.filter p) = true := by
  rw [twf_iff] at h ⊢
  exact ⟨h.1.filter _, fun e he => h.2 e (List.mem_filter.1 he).1⟩

@[simp] theorem twf_tclear {α : Type} [DecidableEq α] {d : α} {t : Tab α} (lo hi : Nat) (h : twf d t = true) :
    twf d (tclear t lo hi) = true := twf_filter _ h

/-- Filling a range keeps the canonical form. -/
@[simp] theorem twf_tfill {α : Type} [DecidableEq α] {d : α} {t : Tab α} (lo n : Nat) (f : Nat → α)
    (h : twf d t = true) : twf d (tfill d t lo n f) = true := by
  rw [twf_iff] at h ⊢
  have hmid : ∀ e ∈ ((List.range n).map (fun i => (lo + i, f i))).filter (fun e => decide (e.2 ≠ d)),
      lo ≤ e.1 ∧ e.1 < lo + n ∧ e.2 ≠ d := by
    intro e he
    obtain ⟨hm, hd⟩ := List.mem_filter.1 he
    obtain ⟨i, hi, rfl⟩ := List.mem_map.1 hm
    have := List.mem_range.1 hi
    exact ⟨by simp, by simpa using this, by simpa using hd⟩
  unfold tfill
  refine ⟨?_, ?_⟩
  · rw [List.pairwise_append, List.pairwise_append]
    refine ⟨h.1.filter _, ⟨?_, h.1.filter _, ?_⟩, ?_⟩
    · refine List.Pairwise.filter _ ?_
      rw [List.pairwise_map]
      exact List.pairwise_lt_range.imp (fun hab => by simpa using hab)
    · intro a ha b hb
      have h2 := (List.mem_filter.1 hb).2
      simp only [decide_eq_true_eq] at h2
      exact Nat.lt_of_lt_of_le (hmid a ha).2.1 h2
    · intro a ha b hb
      have h1 := (List.mem_filter.1 ha).2
      simp only [decide_eq_true_eq] at h1
      rcases List.mem_append.1 hb with hb | hb
      · exact Nat.lt_of_lt_of_le h1 (hmid b hb).1
      · have h2 := (List.mem_filter.1 hb).2
        simp only [decide_eq_true_eq] at h2
        omega
  · intro e he
    rcases List.mem_append.1 he with he | he
    · exact h.2 e (List.mem_filter.1 he).1
    · rcases List.mem_append.1 he with he | he
      · exact (hmid e he).2.2
      · exact h.2 e (List.mem_filter.1 he).1

/-- Changing every entry keeps the canonical form. -/
@[simp] theorem twf_tmap {α : Type} [DecidableEq α] {d : α} {t : Tab α} (f : Nat → α → α) (h : twf d t = true) :
    twf d (tmap d t f) = true := by
  rw [twf_iff] at h ⊢
  unfold tmap
  refine ⟨?_, fun e he => by simpa using (List.mem_filter.1 he).2⟩
  refine List.Pairwise.filter _ ?_
  rw [List.pairwise_map]
  exact h.1

/-! ## Reads after writes -/

/-- A key below every listed key reads as the default. -/
theorem tget_of_lt {α : Type} (d : α) {t : Tab α} {k : Nat} (h : ∀ e ∈ t, k < e.1) : tget d t k = d := by
  cases t with
  | nil => rfl
  | cons e t =>
    have := h e (List.mem_cons_self ..)
    simp only [tget]
    rw [if_neg (by omega), if_pos this]

theorem tget_tins_same {α : Type} (d : α) (t : Tab α) (k : Nat) (v : α) : tget d (tins v t k) k = v := by
  induction t with
  | nil => simp [tins, tget]
  | cons e t ih =>
    simp only [tins]
    split
    · simp [tget]
    · split
      · simp [tget]
      · next h1 h2 => simp only [tget]; rw [if_neg h1, if_neg h2, ih]

theorem tget_tins_ne {α : Type} (d : α) (t : Tab α) (k j : Nat) (v : α) (h : j ≠ k) (hs : t.Pairwise (fun a b => a.1 < b.1)) :
    tget d (tins v t k) j = tget d t j := by
  induction t with
  | nil => simp only [tins, tget]; rw [if_neg (Ne.symm h)]; simp
  | cons e t ih =>
    have hs' := List.pairwise_cons.1 hs
    simp only [tins]
    split
    · next h1 => simp only [tget, h1]; rw [if_neg (Ne.symm h), if_neg (Ne.symm h)]
    · split
      · next h1 h2 =>
        simp only [tget]
        rw [if_neg (Ne.symm h)]
        by_cases hj : j < k
        · rw [if_pos hj, if_neg (by omega), if_pos (by omega)]
        · rw [if_neg hj]
      · simp only [tget]; rw [ih hs'.2]

theorem tget_tdel_same {α : Type} (d : α) (t : Tab α) (k : Nat) (hs : t.Pairwise (fun a b => a.1 < b.1)) :
    tget d (tdel t k) k = d := by
  induction t with
  | nil => rfl
  | cons e t ih =>
    have hs' := List.pairwise_cons.1 hs
    simp only [tdel]
    split
    · next h => exact tget_of_lt d (fun x hx => h ▸ hs'.1 x hx)
    · split
      · next h1 h2 => simp only [tget]; rw [if_neg h1, if_pos h2]
      · next h1 h2 => simp only [tget]; rw [if_neg h1, if_neg h2, ih hs'.2]

theorem tget_tdel_ne {α : Type} (d : α) (t : Tab α) (k j : Nat) (h : j ≠ k) (hs : t.Pairwise (fun a b => a.1 < b.1)) :
    tget d (tdel t k) j = tget d t j := by
  induction t with
  | nil => rfl
  | cons e t ih =>
    have hs' := List.pairwise_cons.1 hs
    simp only [tdel]
    split
    · next h1 =>
      simp only [tget]
      rw [if_neg (by omega)]
      by_cases hj : j < e.1
      · rw [if_pos hj]; exact tget_of_lt d (fun x hx => Nat.lt_trans hj (hs'.1 x hx))
      · rw [if_neg hj]
    · split
      · rfl
      · simp only [tget]; rw [ih hs'.2]

/-- A read after a write to the same key gives the value written. -/
theorem tget_tset_same {α : Type} [DecidableEq α] (d : α) (t : Tab α) (k : Nat) (v : α)
    (hs : t.Pairwise (fun a b => a.1 < b.1)) : tget d (tset d t k v) k = v := by
  unfold tset
  split
  · next h => rw [tget_tdel_same d t k hs, h]
  · exact tget_tins_same d t k v

/-- A write leaves every other key alone, whatever those read as by default. -/
theorem tget_tset_ne {α : Type} [DecidableEq α] (d d' : α) (t : Tab α) (k j : Nat) (v : α) (h : j ≠ k)
    (hs : t.Pairwise (fun a b => a.1 < b.1)) : tget d' (tset d t k v) j = tget d' t j := by
  unfold tset
  split
  · exact tget_tdel_ne d' t k j h hs
  · exact tget_tins_ne d' t k j v h hs

/-- A write that answers a value different from the default needs no canonical form to be read back. -/
theorem tget_tset_of_ne {α : Type} [DecidableEq α] (d : α) (t : Tab α) (k : Nat) (v : α) (h : v ≠ d) :
    tget d (tset d t k v) k = v := by
  unfold tset; rw [if_neg h]; exact tget_tins_same d t k v

end Sys2Proof.Machine
end

