-- ==== Sys2Proof/Laws/Evolves.lean ====
section
/-! SUPPORT. How a state evolves: the rules that every later lemma of this kind is made of. -/

namespace Sys2Proof.Machine

theorem Evolves.refl (s : State) : Evolves s s := ⟨rfl, rfl, id⟩

theorem Evolves.trans {a b c : State} (h : Evolves a b) (g : Evolves b c) : Evolves a c :=
  ⟨g.build.trans h.build, g.pending.trans h.pending, fun i => g.inv (h.inv i)⟩

/-! The parts of the invariant, spelled out. -/

theorem Cst.wf_iff (c : Cst) : c.Wf ↔ (twf {} c.ent = true ∧ twf 0 c.basins = true ∧ twf {} c.lanes = true
    ∧ twf 0 c.rl = true ∧ twf 0 c.err = true ∧ twf false c.bad = true ∧ twf false c.badBasin = true
    ∧ twf 0 c.tags = true) := ⟨fun h => h, fun h => h⟩

theorem Wel.wf_iff (w : Wel) : w.Wf ↔ (twf freeWell w.w = true ∧ twf false w.poison = true) := ⟨fun h => h, fun h => h⟩

theorem Rst.wf_iff (r : Rst) : r.Wf ↔ r.kst ≤ 3 := ⟨fun h => h, fun h => h⟩

theorem Pipe.wf_iff (p : Pipe) : p.Wf ↔ (twf none p.act = true ∧ twf none p.shadow = true ∧ twf {} p.taps = true
    ∧ twf {} p.leafs = true ∧ twf {} p.grants = true) := ⟨fun h => h, fun h => h⟩

theorem Cul.wf_iff (c : Cul) : c.Wf ↔ twf {} c.ports = true := ⟨fun h => h, fun h => h⟩

theorem Pump.wf_iff (p : Pump) : p.Wf ↔ twf {} p.chans = true := ⟨fun h => h, fun h => h⟩

theorem Obs.wf_iff (o : Obs) : o.Wf ↔ (twf {} o.sumps = true ∧ twf none o.dumps = true) := ⟨fun h => h, fun h => h⟩

theorem GLink.wf_iff (g : GLink) : g.Wf ↔ twf 0 g.delta = true := ⟨fun h => h, fun h => h⟩

theorem regsWf_iff {t : Tab W32} :
    regsWf t = true ↔ t.Pairwise (fun a b => a.1 < b.1) ∧ ∀ e ∈ t, e.2 ≠ regReset e.1 := by
  simp [regsWf, tsorted_iff_pairwise, List.all_eq_true]

/-- A register write keeps the canonical form. -/
theorem regsWf_tset {t : Tab W32} (off : Nat) (v : W32) (h : regsWf t = true) :
    regsWf (tset (regReset off) t off v) = true := by
  rw [regsWf_iff] at h ⊢
  unfold tset
  split
  · exact ⟨tdel_pairwise off h.1, fun e he => h.2 e (mem_tdel he)⟩
  · next hv =>
    refine ⟨tins_pairwise v off h.1, fun e he => ?_⟩
    rcases mem_tins he with rfl | he
    · exact hv
    · exact h.2 e he

theorem regsWf_filter {t : Tab W32} (p : Nat × W32 → Bool) (h : regsWf t = true) : regsWf (t.filter p) = true := by
  rw [regsWf_iff] at h ⊢
  exact ⟨h.1.filter _, fun e he => h.2 e (List.mem_filter.1 he).1⟩

theorem regsWf_tclear {t : Tab W32} (lo hi : Nat) (h : regsWf t = true) : regsWf (tclear t lo hi) = true :=
  regsWf_filter _ h

/-- A fold of changes that each keep the canonical form keeps it. -/
theorem twf_foldl {α β : Type} [DecidableEq α] {d : α} {f : Tab α → β → Tab α}
    (hf : ∀ t a, twf d t = true → twf d (f t a) = true) : ∀ (l : List β) {t : Tab α}, twf d t = true → twf d (l.foldl f t) = true
  | [], _, h => h
  | a :: l, _, h => twf_foldl hf l (hf _ a h)

/-- A change of any part but the queue and the build: the parts of the invariant each kept. -/
theorem Evolves.update {s0 t : State} (h : Evolves s0 t) {held out freeCtr clk grid stop pipe cul} {parts : Tab PartRt}
    {fns : Tab Fn} {obs glink island pump fetchTurn} {holds : Tab Hold} {start fresh} {regs : Tab W32} {cst : Cst} {wel : Wel}
    {rst : Rst}
    (hg : regsWf t.regs = true → regsWf regs = true) (hc : t.cst.Wf → cst.Wf) (hw : t.wel.Wf → wel.Wf)
    (hr : t.rst.Wf → rst.Wf) (hp : t.pipe.Wf → pipe.Wf) (hl : t.cul.Wf → cul.Wf) (hm : t.pump.Wf → pump.Wf)
    (ho : t.obs.Wf → obs.Wf) (hk : t.glink.Wf → glink.Wf) (ht : twf {} t.parts = true → twf {} parts = true)
    (hf : twf {} t.fns = true → twf {} fns = true) (hh : twf {} t.holds = true → twf {} holds = true) :
    Evolves s0 (State.mk t.pending held out freeCtr t.build regs clk grid stop cst pipe wel cul rst parts fns obs glink
      island pump fetchTurn holds start fresh) :=
  ⟨h.build, h.pending, fun i => ⟨hg (h.inv i).regs, hc (h.inv i).cst, hw (h.inv i).wel, hr (h.inv i).rst,
    hp (h.inv i).pipe, hl (h.inv i).cul, hm (h.inv i).pump, ho (h.inv i).obs, hk (h.inv i).glink, ht (h.inv i).parts,
    hf (h.inv i).fns, hh (h.inv i).holds⟩⟩

theorem Evolves.ite {s0 a b : State} {c : Prop} [Decidable c] (ha : Evolves s0 a) (hb : Evolves s0 b) :
    Evolves s0 (if c then a else b) := by split <;> assumption

theorem Evolves.ite_fst {β : Type} {s0 : State} {a b : State × β} {c : Prop} [Decidable c] (ha : Evolves s0 a.1)
    (hb : Evolves s0 b.1) : Evolves s0 (if c then a else b).1 := by split <;> assumption

/-- A fold evolves if each of its steps does. -/
theorem Evolves.foldl {α : Type} {s0 : State} {f : State → α → State} (hf : ∀ t a, Evolves s0 t → Evolves s0 (f t a)) :
    ∀ (l : List α) {t : State}, Evolves s0 t → Evolves s0 (l.foldl f t)
  | [], _, h => h
  | a :: l, _, h => Evolves.foldl hf l (hf _ a h)

/-- The same of a fold that carries a value beside the state. -/
theorem Evolves.foldl_fst {α β : Type} {s0 : State} {f : State × β → α → State × β}
    (hf : ∀ t a, Evolves s0 t.1 → Evolves s0 (f t a).1) :
    ∀ (l : List α) {t : State × β}, Evolves s0 t.1 → Evolves s0 (l.foldl f t).1
  | [], _, h => h
  | a :: l, _, h => Evolves.foldl_fst hf l (hf _ a h)

/-- An outcome evolves if its next state does. -/
def Outcome.Evolves (s0 : State) (o : Host.Outcome State Fault Refusal) : Prop :=
  ∀ t, o = .next t → Machine.Evolves s0 t

theorem Outcome.evolves_next {s0 t : State} (h : Machine.Evolves s0 t) : Outcome.Evolves s0 (.next t) := by
  intro u hu
  cases hu
  exact h

theorem Outcome.evolves_ite {s0 : State} {a b : Host.Outcome State Fault Refusal} {c : Prop} [Decidable c]
    (ha : Outcome.Evolves s0 a) (hb : Outcome.Evolves s0 b) : Outcome.Evolves s0 (if c then a else b) := by
  split <;> assumption

end Sys2Proof.Machine
end

