-- ==== Sys2Proof/Laws/State.lean ====
section
/-! SUPPORT. One lemma for each operation and each field of the state that it leaves alone. -/

namespace Sys2Proof.Machine

/-- What every step of a fold leaves alone, the fold does. -/
theorem foldl_field {α β : Type} (g : State → β) (f : State → α → State) (h : ∀ t a, g (f t a) = g t) (l : List α)
    (s : State) : g (l.foldl f s) = g s := by
  induction l generalizing s with
  | nil => rfl
  | cons a l ih => exact (ih _).trans (h _ _)

/-! ### State.setReg -/

@[simp] theorem State.setReg_pending (s : State) (off v : Nat) : (s.setReg off v).pending = s.pending := rfl
@[simp] theorem State.setReg_held (s : State) (off v : Nat) : (s.setReg off v).held = s.held := rfl
@[simp] theorem State.setReg_out (s : State) (off v : Nat) : (s.setReg off v).out = s.out := rfl
@[simp] theorem State.setReg_freeCtr (s : State) (off v : Nat) : (s.setReg off v).freeCtr = s.freeCtr := rfl
@[simp] theorem State.setReg_build (s : State) (off v : Nat) : (s.setReg off v).build = s.build := rfl
@[simp] theorem State.setReg_clk (s : State) (off v : Nat) : (s.setReg off v).clk = s.clk := rfl
@[simp] theorem State.setReg_grid (s : State) (off v : Nat) : (s.setReg off v).grid = s.grid := rfl
@[simp] theorem State.setReg_stop (s : State) (off v : Nat) : (s.setReg off v).stop = s.stop := rfl
@[simp] theorem State.setReg_cst (s : State) (off v : Nat) : (s.setReg off v).cst = s.cst := rfl
@[simp] theorem State.setReg_pipe (s : State) (off v : Nat) : (s.setReg off v).pipe = s.pipe := rfl
@[simp] theorem State.setReg_wel (s : State) (off v : Nat) : (s.setReg off v).wel = s.wel := rfl
@[simp] theorem State.setReg_cul (s : State) (off v : Nat) : (s.setReg off v).cul = s.cul := rfl
@[simp] theorem State.setReg_rst (s : State) (off v : Nat) : (s.setReg off v).rst = s.rst := rfl
@[simp] theorem State.setReg_parts (s : State) (off v : Nat) : (s.setReg off v).parts = s.parts := rfl
@[simp] theorem State.setReg_fns (s : State) (off v : Nat) : (s.setReg off v).fns = s.fns := rfl
@[simp] theorem State.setReg_obs (s : State) (off v : Nat) : (s.setReg off v).obs = s.obs := rfl
@[simp] theorem State.setReg_glink (s : State) (off v : Nat) : (s.setReg off v).glink = s.glink := rfl
@[simp] theorem State.setReg_island (s : State) (off v : Nat) : (s.setReg off v).island = s.island := rfl
@[simp] theorem State.setReg_pump (s : State) (off v : Nat) : (s.setReg off v).pump = s.pump := rfl
@[simp] theorem State.setReg_fetchTurn (s : State) (off v : Nat) : (s.setReg off v).fetchTurn = s.fetchTurn := rfl
@[simp] theorem State.setReg_holds (s : State) (off v : Nat) : (s.setReg off v).holds = s.holds := rfl
@[simp] theorem State.setReg_start (s : State) (off v : Nat) : (s.setReg off v).start = s.start := rfl
@[simp] theorem State.setReg_fresh (s : State) (off v : Nat) : (s.setReg off v).fresh = s.fresh := rfl

/-! ### State.setFld -/

@[simp] theorem State.setFld_pending (s : State) (off hi lo v : Nat) : (s.setFld off hi lo v).pending = s.pending :=
    rfl
@[simp] theorem State.setFld_held (s : State) (off hi lo v : Nat) : (s.setFld off hi lo v).held = s.held := rfl
@[simp] theorem State.setFld_out (s : State) (off hi lo v : Nat) : (s.setFld off hi lo v).out = s.out := rfl
@[simp] theorem State.setFld_freeCtr (s : State) (off hi lo v : Nat) : (s.setFld off hi lo v).freeCtr = s.freeCtr :=
    rfl
@[simp] theorem State.setFld_build (s : State) (off hi lo v : Nat) : (s.setFld off hi lo v).build = s.build := rfl
@[simp] theorem State.setFld_clk (s : State) (off hi lo v : Nat) : (s.setFld off hi lo v).clk = s.clk := rfl
@[simp] theorem State.setFld_grid (s : State) (off hi lo v : Nat) : (s.setFld off hi lo v).grid = s.grid := rfl
@[simp] theorem State.setFld_stop (s : State) (off hi lo v : Nat) : (s.setFld off hi lo v).stop = s.stop := rfl
@[simp] theorem State.setFld_cst (s : State) (off hi lo v : Nat) : (s.setFld off hi lo v).cst = s.cst := rfl
@[simp] theorem State.setFld_pipe (s : State) (off hi lo v : Nat) : (s.setFld off hi lo v).pipe = s.pipe := rfl
@[simp] theorem State.setFld_wel (s : State) (off hi lo v : Nat) : (s.setFld off hi lo v).wel = s.wel := rfl
@[simp] theorem State.setFld_cul (s : State) (off hi lo v : Nat) : (s.setFld off hi lo v).cul = s.cul := rfl
@[simp] theorem State.setFld_rst (s : State) (off hi lo v : Nat) : (s.setFld off hi lo v).rst = s.rst := rfl
@[simp] theorem State.setFld_parts (s : State) (off hi lo v : Nat) : (s.setFld off hi lo v).parts = s.parts := rfl
@[simp] theorem State.setFld_fns (s : State) (off hi lo v : Nat) : (s.setFld off hi lo v).fns = s.fns := rfl
@[simp] theorem State.setFld_obs (s : State) (off hi lo v : Nat) : (s.setFld off hi lo v).obs = s.obs := rfl
@[simp] theorem State.setFld_glink (s : State) (off hi lo v : Nat) : (s.setFld off hi lo v).glink = s.glink := rfl
@[simp] theorem State.setFld_island (s : State) (off hi lo v : Nat) : (s.setFld off hi lo v).island = s.island := rfl
@[simp] theorem State.setFld_pump (s : State) (off hi lo v : Nat) : (s.setFld off hi lo v).pump = s.pump := rfl
@[simp] theorem State.setFld_fetchTurn (s : State) (off hi lo v : Nat) : (s.setFld off hi lo v).fetchTurn =
    s.fetchTurn := rfl
@[simp] theorem State.setFld_holds (s : State) (off hi lo v : Nat) : (s.setFld off hi lo v).holds = s.holds := rfl
@[simp] theorem State.setFld_start (s : State) (off hi lo v : Nat) : (s.setFld off hi lo v).start = s.start := rfl
@[simp] theorem State.setFld_fresh (s : State) (off hi lo v : Nat) : (s.setFld off hi lo v).fresh = s.fresh := rfl

/-! ### State.setFlag -/

@[simp] theorem State.setFlag_pending (s : State) (off i : Nat) (b : Bool) : (s.setFlag off i b).pending = s.pending
    := rfl
@[simp] theorem State.setFlag_held (s : State) (off i : Nat) (b : Bool) : (s.setFlag off i b).held = s.held := rfl
@[simp] theorem State.setFlag_out (s : State) (off i : Nat) (b : Bool) : (s.setFlag off i b).out = s.out := rfl
@[simp] theorem State.setFlag_freeCtr (s : State) (off i : Nat) (b : Bool) : (s.setFlag off i b).freeCtr = s.freeCtr
    := rfl
@[simp] theorem State.setFlag_build (s : State) (off i : Nat) (b : Bool) : (s.setFlag off i b).build = s.build := rfl
@[simp] theorem State.setFlag_clk (s : State) (off i : Nat) (b : Bool) : (s.setFlag off i b).clk = s.clk := rfl
@[simp] theorem State.setFlag_grid (s : State) (off i : Nat) (b : Bool) : (s.setFlag off i b).grid = s.grid := rfl
@[simp] theorem State.setFlag_stop (s : State) (off i : Nat) (b : Bool) : (s.setFlag off i b).stop = s.stop := rfl
@[simp] theorem State.setFlag_cst (s : State) (off i : Nat) (b : Bool) : (s.setFlag off i b).cst = s.cst := rfl
@[simp] theorem State.setFlag_pipe (s : State) (off i : Nat) (b : Bool) : (s.setFlag off i b).pipe = s.pipe := rfl
@[simp] theorem State.setFlag_wel (s : State) (off i : Nat) (b : Bool) : (s.setFlag off i b).wel = s.wel := rfl
@[simp] theorem State.setFlag_cul (s : State) (off i : Nat) (b : Bool) : (s.setFlag off i b).cul = s.cul := rfl
@[simp] theorem State.setFlag_rst (s : State) (off i : Nat) (b : Bool) : (s.setFlag off i b).rst = s.rst := rfl
@[simp] theorem State.setFlag_parts (s : State) (off i : Nat) (b : Bool) : (s.setFlag off i b).parts = s.parts := rfl
@[simp] theorem State.setFlag_fns (s : State) (off i : Nat) (b : Bool) : (s.setFlag off i b).fns = s.fns := rfl
@[simp] theorem State.setFlag_obs (s : State) (off i : Nat) (b : Bool) : (s.setFlag off i b).obs = s.obs := rfl
@[simp] theorem State.setFlag_glink (s : State) (off i : Nat) (b : Bool) : (s.setFlag off i b).glink = s.glink := rfl
@[simp] theorem State.setFlag_island (s : State) (off i : Nat) (b : Bool) : (s.setFlag off i b).island = s.island :=
    rfl
@[simp] theorem State.setFlag_pump (s : State) (off i : Nat) (b : Bool) : (s.setFlag off i b).pump = s.pump := rfl
@[simp] theorem State.setFlag_fetchTurn (s : State) (off i : Nat) (b : Bool) : (s.setFlag off i b).fetchTurn =
    s.fetchTurn := rfl
@[simp] theorem State.setFlag_holds (s : State) (off i : Nat) (b : Bool) : (s.setFlag off i b).holds = s.holds := rfl
@[simp] theorem State.setFlag_start (s : State) (off i : Nat) (b : Bool) : (s.setFlag off i b).start = s.start := rfl

/-! ### State.bump -/

@[simp] theorem State.bump_pending (s : State) (off n : Nat) : (s.bump off n).pending = s.pending := rfl
@[simp] theorem State.bump_held (s : State) (off n : Nat) : (s.bump off n).held = s.held := rfl
@[simp] theorem State.bump_out (s : State) (off n : Nat) : (s.bump off n).out = s.out := rfl
@[simp] theorem State.bump_freeCtr (s : State) (off n : Nat) : (s.bump off n).freeCtr = s.freeCtr := rfl
@[simp] theorem State.bump_build (s : State) (off n : Nat) : (s.bump off n).build = s.build := rfl
@[simp] theorem State.bump_clk (s : State) (off n : Nat) : (s.bump off n).clk = s.clk := rfl
@[simp] theorem State.bump_grid (s : State) (off n : Nat) : (s.bump off n).grid = s.grid := rfl
@[simp] theorem State.bump_stop (s : State) (off n : Nat) : (s.bump off n).stop = s.stop := rfl
@[simp] theorem State.bump_cst (s : State) (off n : Nat) : (s.bump off n).cst = s.cst := rfl
@[simp] theorem State.bump_pipe (s : State) (off n : Nat) : (s.bump off n).pipe = s.pipe := rfl
@[simp] theorem State.bump_wel (s : State) (off n : Nat) : (s.bump off n).wel = s.wel := rfl
@[simp] theorem State.bump_cul (s : State) (off n : Nat) : (s.bump off n).cul = s.cul := rfl
@[simp] theorem State.bump_rst (s : State) (off n : Nat) : (s.bump off n).rst = s.rst := rfl
@[simp] theorem State.bump_parts (s : State) (off n : Nat) : (s.bump off n).parts = s.parts := rfl
@[simp] theorem State.bump_fns (s : State) (off n : Nat) : (s.bump off n).fns = s.fns := rfl
@[simp] theorem State.bump_obs (s : State) (off n : Nat) : (s.bump off n).obs = s.obs := rfl
@[simp] theorem State.bump_glink (s : State) (off n : Nat) : (s.bump off n).glink = s.glink := rfl
@[simp] theorem State.bump_island (s : State) (off n : Nat) : (s.bump off n).island = s.island := rfl
@[simp] theorem State.bump_pump (s : State) (off n : Nat) : (s.bump off n).pump = s.pump := rfl
@[simp] theorem State.bump_fetchTurn (s : State) (off n : Nat) : (s.bump off n).fetchTurn = s.fetchTurn := rfl
@[simp] theorem State.bump_holds (s : State) (off n : Nat) : (s.bump off n).holds = s.holds := rfl
@[simp] theorem State.bump_start (s : State) (off n : Nat) : (s.bump off n).start = s.start := rfl
@[simp] theorem State.bump_fresh (s : State) (off n : Nat) : (s.bump off n).fresh = s.fresh := rfl

/-! ### State.setPair -/

@[simp] theorem State.setPair_pending (s : State) (off v : Nat) : (s.setPair off v).pending = s.pending := rfl
@[simp] theorem State.setPair_held (s : State) (off v : Nat) : (s.setPair off v).held = s.held := rfl
@[simp] theorem State.setPair_out (s : State) (off v : Nat) : (s.setPair off v).out = s.out := rfl
@[simp] theorem State.setPair_freeCtr (s : State) (off v : Nat) : (s.setPair off v).freeCtr = s.freeCtr := rfl
@[simp] theorem State.setPair_build (s : State) (off v : Nat) : (s.setPair off v).build = s.build := rfl
@[simp] theorem State.setPair_clk (s : State) (off v : Nat) : (s.setPair off v).clk = s.clk := rfl
@[simp] theorem State.setPair_grid (s : State) (off v : Nat) : (s.setPair off v).grid = s.grid := rfl
@[simp] theorem State.setPair_stop (s : State) (off v : Nat) : (s.setPair off v).stop = s.stop := rfl
@[simp] theorem State.setPair_cst (s : State) (off v : Nat) : (s.setPair off v).cst = s.cst := rfl
@[simp] theorem State.setPair_pipe (s : State) (off v : Nat) : (s.setPair off v).pipe = s.pipe := rfl
@[simp] theorem State.setPair_wel (s : State) (off v : Nat) : (s.setPair off v).wel = s.wel := rfl
@[simp] theorem State.setPair_cul (s : State) (off v : Nat) : (s.setPair off v).cul = s.cul := rfl
@[simp] theorem State.setPair_rst (s : State) (off v : Nat) : (s.setPair off v).rst = s.rst := rfl
@[simp] theorem State.setPair_parts (s : State) (off v : Nat) : (s.setPair off v).parts = s.parts := rfl
@[simp] theorem State.setPair_fns (s : State) (off v : Nat) : (s.setPair off v).fns = s.fns := rfl
@[simp] theorem State.setPair_obs (s : State) (off v : Nat) : (s.setPair off v).obs = s.obs := rfl
@[simp] theorem State.setPair_glink (s : State) (off v : Nat) : (s.setPair off v).glink = s.glink := rfl
@[simp] theorem State.setPair_island (s : State) (off v : Nat) : (s.setPair off v).island = s.island := rfl
@[simp] theorem State.setPair_pump (s : State) (off v : Nat) : (s.setPair off v).pump = s.pump := rfl
@[simp] theorem State.setPair_fetchTurn (s : State) (off v : Nat) : (s.setPair off v).fetchTurn = s.fetchTurn := rfl
@[simp] theorem State.setPair_holds (s : State) (off v : Nat) : (s.setPair off v).holds = s.holds := rfl
@[simp] theorem State.setPair_start (s : State) (off v : Nat) : (s.setPair off v).start = s.start := rfl
@[simp] theorem State.setPair_fresh (s : State) (off v : Nat) : (s.setPair off v).fresh = s.fresh := rfl

/-! ### State.emit -/

@[simp] theorem State.emit_pending (s : State) (o : Out) : (s.emit o).pending = s.pending := by
  unfold State.emit; (try dsimp only); (repeat' split) <;> rfl
@[simp] theorem State.emit_held (s : State) (o : Out) : (s.emit o).held = s.held := by
  unfold State.emit; (try dsimp only); (repeat' split) <;> rfl
@[simp] theorem State.emit_freeCtr (s : State) (o : Out) : (s.emit o).freeCtr = s.freeCtr := by
  unfold State.emit; (try dsimp only); (repeat' split) <;> rfl
@[simp] theorem State.emit_build (s : State) (o : Out) : (s.emit o).build = s.build := by
  unfold State.emit; (try dsimp only); (repeat' split) <;> rfl
@[simp] theorem State.emit_regs (s : State) (o : Out) : (s.emit o).regs = s.regs := by
  unfold State.emit; (try dsimp only); (repeat' split) <;> rfl
@[simp] theorem State.emit_grid (s : State) (o : Out) : (s.emit o).grid = s.grid := by
  unfold State.emit; (try dsimp only); (repeat' split) <;> rfl
@[simp] theorem State.emit_stop (s : State) (o : Out) : (s.emit o).stop = s.stop := by
  unfold State.emit; (try dsimp only); (repeat' split) <;> rfl
@[simp] theorem State.emit_cst (s : State) (o : Out) : (s.emit o).cst = s.cst := by
  unfold State.emit; (try dsimp only); (repeat' split) <;> rfl
@[simp] theorem State.emit_pipe (s : State) (o : Out) : (s.emit o).pipe = s.pipe := by
  unfold State.emit; (try dsimp only); (repeat' split) <;> rfl
@[simp] theorem State.emit_wel (s : State) (o : Out) : (s.emit o).wel = s.wel := by
  unfold State.emit; (try dsimp only); (repeat' split) <;> rfl
@[simp] theorem State.emit_cul (s : State) (o : Out) : (s.emit o).cul = s.cul := by
  unfold State.emit; (try dsimp only); (repeat' split) <;> rfl
@[simp] theorem State.emit_rst (s : State) (o : Out) : (s.emit o).rst = s.rst := by
  unfold State.emit; (try dsimp only); (repeat' split) <;> rfl
@[simp] theorem State.emit_parts (s : State) (o : Out) : (s.emit o).parts = s.parts := by
  unfold State.emit; (try dsimp only); (repeat' split) <;> rfl
@[simp] theorem State.emit_fns (s : State) (o : Out) : (s.emit o).fns = s.fns := by
  unfold State.emit; (try dsimp only); (repeat' split) <;> rfl
@[simp] theorem State.emit_obs (s : State) (o : Out) : (s.emit o).obs = s.obs := by
  unfold State.emit; (try dsimp only); (repeat' split) <;> rfl
@[simp] theorem State.emit_glink (s : State) (o : Out) : (s.emit o).glink = s.glink := by
  unfold State.emit; (try dsimp only); (repeat' split) <;> rfl
@[simp] theorem State.emit_island (s : State) (o : Out) : (s.emit o).island = s.island := by
  unfold State.emit; (try dsimp only); (repeat' split) <;> rfl
@[simp] theorem State.emit_pump (s : State) (o : Out) : (s.emit o).pump = s.pump := by
  unfold State.emit; (try dsimp only); (repeat' split) <;> rfl
@[simp] theorem State.emit_fetchTurn (s : State) (o : Out) : (s.emit o).fetchTurn = s.fetchTurn := by
  unfold State.emit; (try dsimp only); (repeat' split) <;> rfl
@[simp] theorem State.emit_holds (s : State) (o : Out) : (s.emit o).holds = s.holds := by
  unfold State.emit; (try dsimp only); (repeat' split) <;> rfl
@[simp] theorem State.emit_start (s : State) (o : Out) : (s.emit o).start = s.start := by
  unfold State.emit; (try dsimp only); (repeat' split) <;> rfl
@[simp] theorem State.emit_fresh (s : State) (o : Out) : (s.emit o).fresh = s.fresh := by
  unfold State.emit; (try dsimp only); (repeat' split) <;> rfl

/-! ### State.nextFree -/

@[simp] theorem State.nextFree_pending (s : State) : (s.nextFree).pending = s.pending := rfl
@[simp] theorem State.nextFree_held (s : State) : (s.nextFree).held = s.held := rfl
@[simp] theorem State.nextFree_out (s : State) : (s.nextFree).out = s.out := rfl
@[simp] theorem State.nextFree_build (s : State) : (s.nextFree).build = s.build := rfl
@[simp] theorem State.nextFree_regs (s : State) : (s.nextFree).regs = s.regs := rfl
@[simp] theorem State.nextFree_clk (s : State) : (s.nextFree).clk = s.clk := rfl
@[simp] theorem State.nextFree_grid (s : State) : (s.nextFree).grid = s.grid := rfl
@[simp] theorem State.nextFree_stop (s : State) : (s.nextFree).stop = s.stop := rfl
@[simp] theorem State.nextFree_cst (s : State) : (s.nextFree).cst = s.cst := rfl
@[simp] theorem State.nextFree_pipe (s : State) : (s.nextFree).pipe = s.pipe := rfl
@[simp] theorem State.nextFree_wel (s : State) : (s.nextFree).wel = s.wel := rfl
@[simp] theorem State.nextFree_cul (s : State) : (s.nextFree).cul = s.cul := rfl
@[simp] theorem State.nextFree_rst (s : State) : (s.nextFree).rst = s.rst := rfl
@[simp] theorem State.nextFree_parts (s : State) : (s.nextFree).parts = s.parts := rfl
@[simp] theorem State.nextFree_fns (s : State) : (s.nextFree).fns = s.fns := rfl
@[simp] theorem State.nextFree_obs (s : State) : (s.nextFree).obs = s.obs := rfl
@[simp] theorem State.nextFree_glink (s : State) : (s.nextFree).glink = s.glink := rfl
@[simp] theorem State.nextFree_island (s : State) : (s.nextFree).island = s.island := rfl
@[simp] theorem State.nextFree_pump (s : State) : (s.nextFree).pump = s.pump := rfl
@[simp] theorem State.nextFree_fetchTurn (s : State) : (s.nextFree).fetchTurn = s.fetchTurn := rfl
@[simp] theorem State.nextFree_holds (s : State) : (s.nextFree).holds = s.holds := rfl
@[simp] theorem State.nextFree_start (s : State) : (s.nextFree).start = s.start := rfl
@[simp] theorem State.nextFree_fresh (s : State) : (s.nextFree).fresh = s.fresh := rfl

/-! ### State.memIssue -/

@[simp] theorem State.memIssue_pending (s : State) (t : MemTxn) : (s.memIssue t).pending = s.pending := by
  unfold State.memIssue; (repeat' split) <;> simp
@[simp] theorem State.memIssue_held (s : State) (t : MemTxn) : (s.memIssue t).held = s.held := by
  unfold State.memIssue; (repeat' split) <;> simp
@[simp] theorem State.memIssue_freeCtr (s : State) (t : MemTxn) : (s.memIssue t).freeCtr = s.freeCtr := by
  unfold State.memIssue; (repeat' split) <;> simp
@[simp] theorem State.memIssue_build (s : State) (t : MemTxn) : (s.memIssue t).build = s.build := by
  unfold State.memIssue; (repeat' split) <;> simp
@[simp] theorem State.memIssue_regs (s : State) (t : MemTxn) : (s.memIssue t).regs = s.regs := by
  unfold State.memIssue; (repeat' split) <;> simp
@[simp] theorem State.memIssue_grid (s : State) (t : MemTxn) : (s.memIssue t).grid = s.grid := by
  unfold State.memIssue; (repeat' split) <;> simp
@[simp] theorem State.memIssue_stop (s : State) (t : MemTxn) : (s.memIssue t).stop = s.stop := by
  unfold State.memIssue; (repeat' split) <;> simp
@[simp] theorem State.memIssue_cst (s : State) (t : MemTxn) : (s.memIssue t).cst = s.cst := by
  unfold State.memIssue; (repeat' split) <;> simp
@[simp] theorem State.memIssue_pipe (s : State) (t : MemTxn) : (s.memIssue t).pipe = s.pipe := by
  unfold State.memIssue; (repeat' split) <;> simp
@[simp] theorem State.memIssue_wel (s : State) (t : MemTxn) : (s.memIssue t).wel = s.wel := by
  unfold State.memIssue; (repeat' split) <;> simp
@[simp] theorem State.memIssue_cul (s : State) (t : MemTxn) : (s.memIssue t).cul = s.cul := by
  unfold State.memIssue; (repeat' split) <;> simp
@[simp] theorem State.memIssue_rst (s : State) (t : MemTxn) : (s.memIssue t).rst = s.rst := by
  unfold State.memIssue; (repeat' split) <;> simp
@[simp] theorem State.memIssue_parts (s : State) (t : MemTxn) : (s.memIssue t).parts = s.parts := by
  unfold State.memIssue; (repeat' split) <;> simp
@[simp] theorem State.memIssue_fns (s : State) (t : MemTxn) : (s.memIssue t).fns = s.fns := by
  unfold State.memIssue; (repeat' split) <;> simp
@[simp] theorem State.memIssue_obs (s : State) (t : MemTxn) : (s.memIssue t).obs = s.obs := by
  unfold State.memIssue; (repeat' split) <;> simp
@[simp] theorem State.memIssue_glink (s : State) (t : MemTxn) : (s.memIssue t).glink = s.glink := by
  unfold State.memIssue; (repeat' split) <;> simp
@[simp] theorem State.memIssue_island (s : State) (t : MemTxn) : (s.memIssue t).island = s.island := by
  unfold State.memIssue; (repeat' split) <;> simp
@[simp] theorem State.memIssue_fetchTurn (s : State) (t : MemTxn) : (s.memIssue t).fetchTurn = s.fetchTurn := by
  unfold State.memIssue; (repeat' split) <;> simp
@[simp] theorem State.memIssue_holds (s : State) (t : MemTxn) : (s.memIssue t).holds = s.holds := by
  unfold State.memIssue; (repeat' split) <;> simp
@[simp] theorem State.memIssue_start (s : State) (t : MemTxn) : (s.memIssue t).start = s.start := by
  unfold State.memIssue; (repeat' split) <;> simp
@[simp] theorem State.memIssue_fresh (s : State) (t : MemTxn) : (s.memIssue t).fresh = s.fresh := by
  unfold State.memIssue; (repeat' split) <;> simp

/-! ### State.memGo -/

@[simp] theorem State.memGo_pending (s : State) (n : Nat) : (s.memGo n).pending = s.pending := by
  induction n generalizing s with
  | zero => rfl
  | succ n ih => unfold State.memGo; split <;> simp [ih]
@[simp] theorem State.memGo_held (s : State) (n : Nat) : (s.memGo n).held = s.held := by
  induction n generalizing s with
  | zero => rfl
  | succ n ih => unfold State.memGo; split <;> simp [ih]
@[simp] theorem State.memGo_freeCtr (s : State) (n : Nat) : (s.memGo n).freeCtr = s.freeCtr := by
  induction n generalizing s with
  | zero => rfl
  | succ n ih => unfold State.memGo; split <;> simp [ih]
@[simp] theorem State.memGo_build (s : State) (n : Nat) : (s.memGo n).build = s.build := by
  induction n generalizing s with
  | zero => rfl
  | succ n ih => unfold State.memGo; split <;> simp [ih]
@[simp] theorem State.memGo_regs (s : State) (n : Nat) : (s.memGo n).regs = s.regs := by
  induction n generalizing s with
  | zero => rfl
  | succ n ih => unfold State.memGo; split <;> simp [ih]
@[simp] theorem State.memGo_grid (s : State) (n : Nat) : (s.memGo n).grid = s.grid := by
  induction n generalizing s with
  | zero => rfl
  | succ n ih => unfold State.memGo; split <;> simp [ih]
@[simp] theorem State.memGo_stop (s : State) (n : Nat) : (s.memGo n).stop = s.stop := by
  induction n generalizing s with
  | zero => rfl
  | succ n ih => unfold State.memGo; split <;> simp [ih]
@[simp] theorem State.memGo_cst (s : State) (n : Nat) : (s.memGo n).cst = s.cst := by
  induction n generalizing s with
  | zero => rfl
  | succ n ih => unfold State.memGo; split <;> simp [ih]
@[simp] theorem State.memGo_pipe (s : State) (n : Nat) : (s.memGo n).pipe = s.pipe := by
  induction n generalizing s with
  | zero => rfl
  | succ n ih => unfold State.memGo; split <;> simp [ih]
@[simp] theorem State.memGo_wel (s : State) (n : Nat) : (s.memGo n).wel = s.wel := by
  induction n generalizing s with
  | zero => rfl
  | succ n ih => unfold State.memGo; split <;> simp [ih]
@[simp] theorem State.memGo_cul (s : State) (n : Nat) : (s.memGo n).cul = s.cul := by
  induction n generalizing s with
  | zero => rfl
  | succ n ih => unfold State.memGo; split <;> simp [ih]
@[simp] theorem State.memGo_rst (s : State) (n : Nat) : (s.memGo n).rst = s.rst := by
  induction n generalizing s with
  | zero => rfl
  | succ n ih => unfold State.memGo; split <;> simp [ih]
@[simp] theorem State.memGo_parts (s : State) (n : Nat) : (s.memGo n).parts = s.parts := by
  induction n generalizing s with
  | zero => rfl
  | succ n ih => unfold State.memGo; split <;> simp [ih]
@[simp] theorem State.memGo_fns (s : State) (n : Nat) : (s.memGo n).fns = s.fns := by
  induction n generalizing s with
  | zero => rfl
  | succ n ih => unfold State.memGo; split <;> simp [ih]
@[simp] theorem State.memGo_obs (s : State) (n : Nat) : (s.memGo n).obs = s.obs := by
  induction n generalizing s with
  | zero => rfl
  | succ n ih => unfold State.memGo; split <;> simp [ih]
@[simp] theorem State.memGo_glink (s : State) (n : Nat) : (s.memGo n).glink = s.glink := by
  induction n generalizing s with
  | zero => rfl
  | succ n ih => unfold State.memGo; split <;> simp [ih]
@[simp] theorem State.memGo_island (s : State) (n : Nat) : (s.memGo n).island = s.island := by
  induction n generalizing s with
  | zero => rfl
  | succ n ih => unfold State.memGo; split <;> simp [ih]
@[simp] theorem State.memGo_fetchTurn (s : State) (n : Nat) : (s.memGo n).fetchTurn = s.fetchTurn := by
  induction n generalizing s with
  | zero => rfl
  | succ n ih => unfold State.memGo; split <;> simp [ih]
@[simp] theorem State.memGo_holds (s : State) (n : Nat) : (s.memGo n).holds = s.holds := by
  induction n generalizing s with
  | zero => rfl
  | succ n ih => unfold State.memGo; split <;> simp [ih]
@[simp] theorem State.memGo_start (s : State) (n : Nat) : (s.memGo n).start = s.start := by
  induction n generalizing s with
  | zero => rfl
  | succ n ih => unfold State.memGo; split <;> simp [ih]
@[simp] theorem State.memGo_fresh (s : State) (n : Nat) : (s.memGo n).fresh = s.fresh := by
  induction n generalizing s with
  | zero => rfl
  | succ n ih => unfold State.memGo; split <;> simp [ih]

/-! ### State.memFlush -/

@[simp] theorem State.memFlush_pending (s : State) : (s.memFlush).pending = s.pending := by
  simp [State.memFlush]
@[simp] theorem State.memFlush_held (s : State) : (s.memFlush).held = s.held := by
  simp [State.memFlush]
@[simp] theorem State.memFlush_freeCtr (s : State) : (s.memFlush).freeCtr = s.freeCtr := by
  simp [State.memFlush]
@[simp] theorem State.memFlush_build (s : State) : (s.memFlush).build = s.build := by
  simp [State.memFlush]
@[simp] theorem State.memFlush_regs (s : State) : (s.memFlush).regs = s.regs := by
  simp [State.memFlush]
@[simp] theorem State.memFlush_grid (s : State) : (s.memFlush).grid = s.grid := by
  simp [State.memFlush]
@[simp] theorem State.memFlush_stop (s : State) : (s.memFlush).stop = s.stop := by
  simp [State.memFlush]
@[simp] theorem State.memFlush_cst (s : State) : (s.memFlush).cst = s.cst := by
  simp [State.memFlush]
@[simp] theorem State.memFlush_pipe (s : State) : (s.memFlush).pipe = s.pipe := by
  simp [State.memFlush]
@[simp] theorem State.memFlush_wel (s : State) : (s.memFlush).wel = s.wel := by
  simp [State.memFlush]
@[simp] theorem State.memFlush_cul (s : State) : (s.memFlush).cul = s.cul := by
  simp [State.memFlush]
@[simp] theorem State.memFlush_rst (s : State) : (s.memFlush).rst = s.rst := by
  simp [State.memFlush]
@[simp] theorem State.memFlush_parts (s : State) : (s.memFlush).parts = s.parts := by
  simp [State.memFlush]
@[simp] theorem State.memFlush_fns (s : State) : (s.memFlush).fns = s.fns := by
  simp [State.memFlush]
@[simp] theorem State.memFlush_obs (s : State) : (s.memFlush).obs = s.obs := by
  simp [State.memFlush]
@[simp] theorem State.memFlush_glink (s : State) : (s.memFlush).glink = s.glink := by
  simp [State.memFlush]
@[simp] theorem State.memFlush_island (s : State) : (s.memFlush).island = s.island := by
  simp [State.memFlush]
@[simp] theorem State.memFlush_fetchTurn (s : State) : (s.memFlush).fetchTurn = s.fetchTurn := by
  simp [State.memFlush]
@[simp] theorem State.memFlush_holds (s : State) : (s.memFlush).holds = s.holds := by
  simp [State.memFlush]
@[simp] theorem State.memFlush_start (s : State) : (s.memFlush).start = s.start := by
  simp [State.memFlush]
@[simp] theorem State.memFlush_fresh (s : State) : (s.memFlush).fresh = s.fresh := by
  simp [State.memFlush]

/-! ### State.memPut -/

@[simp] theorem State.memPut_pending (s : State) (t : MemTxn) : (s.memPut t).pending = s.pending := by
  unfold State.memPut; split <;> simp
@[simp] theorem State.memPut_held (s : State) (t : MemTxn) : (s.memPut t).held = s.held := by
  unfold State.memPut; split <;> simp
@[simp] theorem State.memPut_freeCtr (s : State) (t : MemTxn) : (s.memPut t).freeCtr = s.freeCtr := by
  unfold State.memPut; split <;> simp
@[simp] theorem State.memPut_build (s : State) (t : MemTxn) : (s.memPut t).build = s.build := by
  unfold State.memPut; split <;> simp
@[simp] theorem State.memPut_regs (s : State) (t : MemTxn) : (s.memPut t).regs = s.regs := by
  unfold State.memPut; split <;> simp
@[simp] theorem State.memPut_grid (s : State) (t : MemTxn) : (s.memPut t).grid = s.grid := by
  unfold State.memPut; split <;> simp
@[simp] theorem State.memPut_stop (s : State) (t : MemTxn) : (s.memPut t).stop = s.stop := by
  unfold State.memPut; split <;> simp
@[simp] theorem State.memPut_cst (s : State) (t : MemTxn) : (s.memPut t).cst = s.cst := by
  unfold State.memPut; split <;> simp
@[simp] theorem State.memPut_pipe (s : State) (t : MemTxn) : (s.memPut t).pipe = s.pipe := by
  unfold State.memPut; split <;> simp
@[simp] theorem State.memPut_wel (s : State) (t : MemTxn) : (s.memPut t).wel = s.wel := by
  unfold State.memPut; split <;> simp
@[simp] theorem State.memPut_cul (s : State) (t : MemTxn) : (s.memPut t).cul = s.cul := by
  unfold State.memPut; split <;> simp
@[simp] theorem State.memPut_rst (s : State) (t : MemTxn) : (s.memPut t).rst = s.rst := by
  unfold State.memPut; split <;> simp
@[simp] theorem State.memPut_parts (s : State) (t : MemTxn) : (s.memPut t).parts = s.parts := by
  unfold State.memPut; split <;> simp
@[simp] theorem State.memPut_fns (s : State) (t : MemTxn) : (s.memPut t).fns = s.fns := by
  unfold State.memPut; split <;> simp
@[simp] theorem State.memPut_obs (s : State) (t : MemTxn) : (s.memPut t).obs = s.obs := by
  unfold State.memPut; split <;> simp
@[simp] theorem State.memPut_glink (s : State) (t : MemTxn) : (s.memPut t).glink = s.glink := by
  unfold State.memPut; split <;> simp
@[simp] theorem State.memPut_island (s : State) (t : MemTxn) : (s.memPut t).island = s.island := by
  unfold State.memPut; split <;> simp
@[simp] theorem State.memPut_fetchTurn (s : State) (t : MemTxn) : (s.memPut t).fetchTurn = s.fetchTurn := by
  unfold State.memPut; split <;> simp
@[simp] theorem State.memPut_holds (s : State) (t : MemTxn) : (s.memPut t).holds = s.holds := by
  unfold State.memPut; split <;> simp
@[simp] theorem State.memPut_start (s : State) (t : MemTxn) : (s.memPut t).start = s.start := by
  unfold State.memPut; split <;> simp
@[simp] theorem State.memPut_fresh (s : State) (t : MemTxn) : (s.memPut t).fresh = s.fresh := by
  unfold State.memPut; split <;> simp

/-! ### State.memWr -/

@[simp] theorem State.memWr_pending (s : State) (who : MemWho) (addr len data : Nat) (host : Option Nat) : (s.memWr
    who addr len data host).pending = s.pending := by
  simp [State.memWr]
@[simp] theorem State.memWr_held (s : State) (who : MemWho) (addr len data : Nat) (host : Option Nat) : (s.memWr who
    addr len data host).held = s.held := by
  simp [State.memWr]
@[simp] theorem State.memWr_freeCtr (s : State) (who : MemWho) (addr len data : Nat) (host : Option Nat) : (s.memWr
    who addr len data host).freeCtr = s.freeCtr := by
  simp [State.memWr]
@[simp] theorem State.memWr_build (s : State) (who : MemWho) (addr len data : Nat) (host : Option Nat) : (s.memWr who
    addr len data host).build = s.build := by
  simp [State.memWr]
@[simp] theorem State.memWr_regs (s : State) (who : MemWho) (addr len data : Nat) (host : Option Nat) : (s.memWr who
    addr len data host).regs = s.regs := by
  simp [State.memWr]
@[simp] theorem State.memWr_grid (s : State) (who : MemWho) (addr len data : Nat) (host : Option Nat) : (s.memWr who
    addr len data host).grid = s.grid := by
  simp [State.memWr]
@[simp] theorem State.memWr_stop (s : State) (who : MemWho) (addr len data : Nat) (host : Option Nat) : (s.memWr who
    addr len data host).stop = s.stop := by
  simp [State.memWr]
@[simp] theorem State.memWr_cst (s : State) (who : MemWho) (addr len data : Nat) (host : Option Nat) : (s.memWr who
    addr len data host).cst = s.cst := by
  simp [State.memWr]
@[simp] theorem State.memWr_pipe (s : State) (who : MemWho) (addr len data : Nat) (host : Option Nat) : (s.memWr who
    addr len data host).pipe = s.pipe := by
  simp [State.memWr]
@[simp] theorem State.memWr_wel (s : State) (who : MemWho) (addr len data : Nat) (host : Option Nat) : (s.memWr who
    addr len data host).wel = s.wel := by
  simp [State.memWr]
@[simp] theorem State.memWr_cul (s : State) (who : MemWho) (addr len data : Nat) (host : Option Nat) : (s.memWr who
    addr len data host).cul = s.cul := by
  simp [State.memWr]
@[simp] theorem State.memWr_rst (s : State) (who : MemWho) (addr len data : Nat) (host : Option Nat) : (s.memWr who
    addr len data host).rst = s.rst := by
  simp [State.memWr]
@[simp] theorem State.memWr_parts (s : State) (who : MemWho) (addr len data : Nat) (host : Option Nat) : (s.memWr who
    addr len data host).parts = s.parts := by
  simp [State.memWr]
@[simp] theorem State.memWr_fns (s : State) (who : MemWho) (addr len data : Nat) (host : Option Nat) : (s.memWr who
    addr len data host).fns = s.fns := by
  simp [State.memWr]
@[simp] theorem State.memWr_obs (s : State) (who : MemWho) (addr len data : Nat) (host : Option Nat) : (s.memWr who
    addr len data host).obs = s.obs := by
  simp [State.memWr]
@[simp] theorem State.memWr_glink (s : State) (who : MemWho) (addr len data : Nat) (host : Option Nat) : (s.memWr who
    addr len data host).glink = s.glink := by
  simp [State.memWr]
@[simp] theorem State.memWr_island (s : State) (who : MemWho) (addr len data : Nat) (host : Option Nat) : (s.memWr who
    addr len data host).island = s.island := by
  simp [State.memWr]
@[simp] theorem State.memWr_fetchTurn (s : State) (who : MemWho) (addr len data : Nat) (host : Option Nat) : (s.memWr
    who addr len data host).fetchTurn = s.fetchTurn := by
  simp [State.memWr]
@[simp] theorem State.memWr_holds (s : State) (who : MemWho) (addr len data : Nat) (host : Option Nat) : (s.memWr who
    addr len data host).holds = s.holds := by
  simp [State.memWr]
@[simp] theorem State.memWr_start (s : State) (who : MemWho) (addr len data : Nat) (host : Option Nat) : (s.memWr who
    addr len data host).start = s.start := by
  simp [State.memWr]
@[simp] theorem State.memWr_fresh (s : State) (who : MemWho) (addr len data : Nat) (host : Option Nat) : (s.memWr who
    addr len data host).fresh = s.fresh := by
  simp [State.memWr]

/-! ### State.memRd -/

@[simp] theorem State.memRd_pending (s : State) (who : MemWho) (addr len : Nat) (host : Option Nat) : (s.memRd who
    addr len host).pending = s.pending := by
  simp [State.memRd]
@[simp] theorem State.memRd_held (s : State) (who : MemWho) (addr len : Nat) (host : Option Nat) : (s.memRd who addr
    len host).held = s.held := by
  simp [State.memRd]
@[simp] theorem State.memRd_freeCtr (s : State) (who : MemWho) (addr len : Nat) (host : Option Nat) : (s.memRd who
    addr len host).freeCtr = s.freeCtr := by
  simp [State.memRd]
@[simp] theorem State.memRd_build (s : State) (who : MemWho) (addr len : Nat) (host : Option Nat) : (s.memRd who addr
    len host).build = s.build := by
  simp [State.memRd]
@[simp] theorem State.memRd_regs (s : State) (who : MemWho) (addr len : Nat) (host : Option Nat) : (s.memRd who addr
    len host).regs = s.regs := by
  simp [State.memRd]
@[simp] theorem State.memRd_grid (s : State) (who : MemWho) (addr len : Nat) (host : Option Nat) : (s.memRd who addr
    len host).grid = s.grid := by
  simp [State.memRd]
@[simp] theorem State.memRd_stop (s : State) (who : MemWho) (addr len : Nat) (host : Option Nat) : (s.memRd who addr
    len host).stop = s.stop := by
  simp [State.memRd]
@[simp] theorem State.memRd_cst (s : State) (who : MemWho) (addr len : Nat) (host : Option Nat) : (s.memRd who addr
    len host).cst = s.cst := by
  simp [State.memRd]
@[simp] theorem State.memRd_pipe (s : State) (who : MemWho) (addr len : Nat) (host : Option Nat) : (s.memRd who addr
    len host).pipe = s.pipe := by
  simp [State.memRd]
@[simp] theorem State.memRd_wel (s : State) (who : MemWho) (addr len : Nat) (host : Option Nat) : (s.memRd who addr
    len host).wel = s.wel := by
  simp [State.memRd]
@[simp] theorem State.memRd_cul (s : State) (who : MemWho) (addr len : Nat) (host : Option Nat) : (s.memRd who addr
    len host).cul = s.cul := by
  simp [State.memRd]
@[simp] theorem State.memRd_rst (s : State) (who : MemWho) (addr len : Nat) (host : Option Nat) : (s.memRd who addr
    len host).rst = s.rst := by
  simp [State.memRd]
@[simp] theorem State.memRd_parts (s : State) (who : MemWho) (addr len : Nat) (host : Option Nat) : (s.memRd who addr
    len host).parts = s.parts := by
  simp [State.memRd]
@[simp] theorem State.memRd_fns (s : State) (who : MemWho) (addr len : Nat) (host : Option Nat) : (s.memRd who addr
    len host).fns = s.fns := by
  simp [State.memRd]
@[simp] theorem State.memRd_obs (s : State) (who : MemWho) (addr len : Nat) (host : Option Nat) : (s.memRd who addr
    len host).obs = s.obs := by
  simp [State.memRd]
@[simp] theorem State.memRd_glink (s : State) (who : MemWho) (addr len : Nat) (host : Option Nat) : (s.memRd who addr
    len host).glink = s.glink := by
  simp [State.memRd]
@[simp] theorem State.memRd_island (s : State) (who : MemWho) (addr len : Nat) (host : Option Nat) : (s.memRd who addr
    len host).island = s.island := by
  simp [State.memRd]
@[simp] theorem State.memRd_fetchTurn (s : State) (who : MemWho) (addr len : Nat) (host : Option Nat) : (s.memRd who
    addr len host).fetchTurn = s.fetchTurn := by
  simp [State.memRd]
@[simp] theorem State.memRd_holds (s : State) (who : MemWho) (addr len : Nat) (host : Option Nat) : (s.memRd who addr
    len host).holds = s.holds := by
  simp [State.memRd]
@[simp] theorem State.memRd_start (s : State) (who : MemWho) (addr len : Nat) (host : Option Nat) : (s.memRd who addr
    len host).start = s.start := by
  simp [State.memRd]
@[simp] theorem State.memRd_fresh (s : State) (who : MemWho) (addr len : Nat) (host : Option Nat) : (s.memRd who addr
    len host).fresh = s.fresh := by
  simp [State.memRd]

/-! ### State.memAck -/

@[simp] theorem State.memAck_pending (s : State) (who : MemWho) : (s.memAck who).pending = s.pending := by
  simp [State.memAck]
@[simp] theorem State.memAck_held (s : State) (who : MemWho) : (s.memAck who).held = s.held := by
  simp [State.memAck]
@[simp] theorem State.memAck_freeCtr (s : State) (who : MemWho) : (s.memAck who).freeCtr = s.freeCtr := by
  simp [State.memAck]
@[simp] theorem State.memAck_build (s : State) (who : MemWho) : (s.memAck who).build = s.build := by
  simp [State.memAck]
@[simp] theorem State.memAck_regs (s : State) (who : MemWho) : (s.memAck who).regs = s.regs := by
  simp [State.memAck]
@[simp] theorem State.memAck_grid (s : State) (who : MemWho) : (s.memAck who).grid = s.grid := by
  simp [State.memAck]
@[simp] theorem State.memAck_stop (s : State) (who : MemWho) : (s.memAck who).stop = s.stop := by
  simp [State.memAck]
@[simp] theorem State.memAck_cst (s : State) (who : MemWho) : (s.memAck who).cst = s.cst := by
  simp [State.memAck]
@[simp] theorem State.memAck_pipe (s : State) (who : MemWho) : (s.memAck who).pipe = s.pipe := by
  simp [State.memAck]
@[simp] theorem State.memAck_wel (s : State) (who : MemWho) : (s.memAck who).wel = s.wel := by
  simp [State.memAck]
@[simp] theorem State.memAck_cul (s : State) (who : MemWho) : (s.memAck who).cul = s.cul := by
  simp [State.memAck]
@[simp] theorem State.memAck_rst (s : State) (who : MemWho) : (s.memAck who).rst = s.rst := by
  simp [State.memAck]
@[simp] theorem State.memAck_parts (s : State) (who : MemWho) : (s.memAck who).parts = s.parts := by
  simp [State.memAck]
@[simp] theorem State.memAck_fns (s : State) (who : MemWho) : (s.memAck who).fns = s.fns := by
  simp [State.memAck]
@[simp] theorem State.memAck_obs (s : State) (who : MemWho) : (s.memAck who).obs = s.obs := by
  simp [State.memAck]
@[simp] theorem State.memAck_glink (s : State) (who : MemWho) : (s.memAck who).glink = s.glink := by
  simp [State.memAck]
@[simp] theorem State.memAck_island (s : State) (who : MemWho) : (s.memAck who).island = s.island := by
  simp [State.memAck]
@[simp] theorem State.memAck_fetchTurn (s : State) (who : MemWho) : (s.memAck who).fetchTurn = s.fetchTurn := by
  simp [State.memAck]
@[simp] theorem State.memAck_holds (s : State) (who : MemWho) : (s.memAck who).holds = s.holds := by
  simp [State.memAck]
@[simp] theorem State.memAck_start (s : State) (who : MemWho) : (s.memAck who).start = s.start := by
  simp [State.memAck]
@[simp] theorem State.memAck_fresh (s : State) (who : MemWho) : (s.memAck who).fresh = s.fresh := by
  simp [State.memAck]

/-! ### State.memAckAt -/

@[simp] theorem State.memAckAt_pending (s : State) (who : MemWho) (addr len : Nat) : (s.memAckAt who addr len).pending
    = s.pending := by
  simp [State.memAckAt]
@[simp] theorem State.memAckAt_held (s : State) (who : MemWho) (addr len : Nat) : (s.memAckAt who addr len).held =
    s.held := by
  simp [State.memAckAt]
@[simp] theorem State.memAckAt_freeCtr (s : State) (who : MemWho) (addr len : Nat) : (s.memAckAt who addr len).freeCtr
    = s.freeCtr := by
  simp [State.memAckAt]
@[simp] theorem State.memAckAt_build (s : State) (who : MemWho) (addr len : Nat) : (s.memAckAt who addr len).build =
    s.build := by
  simp [State.memAckAt]
@[simp] theorem State.memAckAt_regs (s : State) (who : MemWho) (addr len : Nat) : (s.memAckAt who addr len).regs =
    s.regs := by
  simp [State.memAckAt]
@[simp] theorem State.memAckAt_grid (s : State) (who : MemWho) (addr len : Nat) : (s.memAckAt who addr len).grid =
    s.grid := by
  simp [State.memAckAt]
@[simp] theorem State.memAckAt_stop (s : State) (who : MemWho) (addr len : Nat) : (s.memAckAt who addr len).stop =
    s.stop := by
  simp [State.memAckAt]
@[simp] theorem State.memAckAt_cst (s : State) (who : MemWho) (addr len : Nat) : (s.memAckAt who addr len).cst = s.cst
    := by
  simp [State.memAckAt]
@[simp] theorem State.memAckAt_pipe (s : State) (who : MemWho) (addr len : Nat) : (s.memAckAt who addr len).pipe =
    s.pipe := by
  simp [State.memAckAt]
@[simp] theorem State.memAckAt_wel (s : State) (who : MemWho) (addr len : Nat) : (s.memAckAt who addr len).wel = s.wel
    := by
  simp [State.memAckAt]
@[simp] theorem State.memAckAt_cul (s : State) (who : MemWho) (addr len : Nat) : (s.memAckAt who addr len).cul = s.cul
    := by
  simp [State.memAckAt]
@[simp] theorem State.memAckAt_rst (s : State) (who : MemWho) (addr len : Nat) : (s.memAckAt who addr len).rst = s.rst
    := by
  simp [State.memAckAt]
@[simp] theorem State.memAckAt_parts (s : State) (who : MemWho) (addr len : Nat) : (s.memAckAt who addr len).parts =
    s.parts := by
  simp [State.memAckAt]
@[simp] theorem State.memAckAt_fns (s : State) (who : MemWho) (addr len : Nat) : (s.memAckAt who addr len).fns = s.fns
    := by
  simp [State.memAckAt]
@[simp] theorem State.memAckAt_obs (s : State) (who : MemWho) (addr len : Nat) : (s.memAckAt who addr len).obs = s.obs
    := by
  simp [State.memAckAt]
@[simp] theorem State.memAckAt_glink (s : State) (who : MemWho) (addr len : Nat) : (s.memAckAt who addr len).glink =
    s.glink := by
  simp [State.memAckAt]
@[simp] theorem State.memAckAt_island (s : State) (who : MemWho) (addr len : Nat) : (s.memAckAt who addr len).island =
    s.island := by
  simp [State.memAckAt]
@[simp] theorem State.memAckAt_fetchTurn (s : State) (who : MemWho) (addr len : Nat) : (s.memAckAt who addr
    len).fetchTurn = s.fetchTurn := by
  simp [State.memAckAt]
@[simp] theorem State.memAckAt_holds (s : State) (who : MemWho) (addr len : Nat) : (s.memAckAt who addr len).holds =
    s.holds := by
  simp [State.memAckAt]
@[simp] theorem State.memAckAt_start (s : State) (who : MemWho) (addr len : Nat) : (s.memAckAt who addr len).start =
    s.start := by
  simp [State.memAckAt]
@[simp] theorem State.memAckAt_fresh (s : State) (who : MemWho) (addr len : Nat) : (s.memAckAt who addr len).fresh =
    s.fresh := by
  simp [State.memAckAt]

/-! ### State.memGot -/

@[simp] theorem State.memGot_pending (s : State) (who : MemWho) : (s.memGot who).pending = s.pending := by
  simp [State.memGot]
@[simp] theorem State.memGot_held (s : State) (who : MemWho) : (s.memGot who).held = s.held := by
  simp [State.memGot]
@[simp] theorem State.memGot_freeCtr (s : State) (who : MemWho) : (s.memGot who).freeCtr = s.freeCtr := by
  simp [State.memGot]
@[simp] theorem State.memGot_build (s : State) (who : MemWho) : (s.memGot who).build = s.build := by
  simp [State.memGot]
@[simp] theorem State.memGot_regs (s : State) (who : MemWho) : (s.memGot who).regs = s.regs := by
  simp [State.memGot]
@[simp] theorem State.memGot_grid (s : State) (who : MemWho) : (s.memGot who).grid = s.grid := by
  simp [State.memGot]
@[simp] theorem State.memGot_stop (s : State) (who : MemWho) : (s.memGot who).stop = s.stop := by
  simp [State.memGot]
@[simp] theorem State.memGot_cst (s : State) (who : MemWho) : (s.memGot who).cst = s.cst := by
  simp [State.memGot]
@[simp] theorem State.memGot_pipe (s : State) (who : MemWho) : (s.memGot who).pipe = s.pipe := by
  simp [State.memGot]
@[simp] theorem State.memGot_wel (s : State) (who : MemWho) : (s.memGot who).wel = s.wel := by
  simp [State.memGot]
@[simp] theorem State.memGot_cul (s : State) (who : MemWho) : (s.memGot who).cul = s.cul := by
  simp [State.memGot]
@[simp] theorem State.memGot_rst (s : State) (who : MemWho) : (s.memGot who).rst = s.rst := by
  simp [State.memGot]
@[simp] theorem State.memGot_parts (s : State) (who : MemWho) : (s.memGot who).parts = s.parts := by
  simp [State.memGot]
@[simp] theorem State.memGot_fns (s : State) (who : MemWho) : (s.memGot who).fns = s.fns := by
  simp [State.memGot]
@[simp] theorem State.memGot_obs (s : State) (who : MemWho) : (s.memGot who).obs = s.obs := by
  simp [State.memGot]
@[simp] theorem State.memGot_glink (s : State) (who : MemWho) : (s.memGot who).glink = s.glink := by
  simp [State.memGot]
@[simp] theorem State.memGot_island (s : State) (who : MemWho) : (s.memGot who).island = s.island := by
  simp [State.memGot]
@[simp] theorem State.memGot_fetchTurn (s : State) (who : MemWho) : (s.memGot who).fetchTurn = s.fetchTurn := by
  simp [State.memGot]
@[simp] theorem State.memGot_holds (s : State) (who : MemWho) : (s.memGot who).holds = s.holds := by
  simp [State.memGot]
@[simp] theorem State.memGot_start (s : State) (who : MemWho) : (s.memGot who).start = s.start := by
  simp [State.memGot]
@[simp] theorem State.memGot_fresh (s : State) (who : MemWho) : (s.memGot who).fresh = s.fresh := by
  simp [State.memGot]

/-! ### State.setPrt -/

@[simp] theorem State.setPrt_pending (s : State) (p : Nat) (x : PartRt) : (s.setPrt p x).pending = s.pending := rfl
@[simp] theorem State.setPrt_held (s : State) (p : Nat) (x : PartRt) : (s.setPrt p x).held = s.held := rfl
@[simp] theorem State.setPrt_out (s : State) (p : Nat) (x : PartRt) : (s.setPrt p x).out = s.out := rfl
@[simp] theorem State.setPrt_freeCtr (s : State) (p : Nat) (x : PartRt) : (s.setPrt p x).freeCtr = s.freeCtr := rfl
@[simp] theorem State.setPrt_build (s : State) (p : Nat) (x : PartRt) : (s.setPrt p x).build = s.build := rfl
@[simp] theorem State.setPrt_regs (s : State) (p : Nat) (x : PartRt) : (s.setPrt p x).regs = s.regs := rfl
@[simp] theorem State.setPrt_clk (s : State) (p : Nat) (x : PartRt) : (s.setPrt p x).clk = s.clk := rfl
@[simp] theorem State.setPrt_grid (s : State) (p : Nat) (x : PartRt) : (s.setPrt p x).grid = s.grid := rfl
@[simp] theorem State.setPrt_stop (s : State) (p : Nat) (x : PartRt) : (s.setPrt p x).stop = s.stop := rfl
@[simp] theorem State.setPrt_cst (s : State) (p : Nat) (x : PartRt) : (s.setPrt p x).cst = s.cst := rfl
@[simp] theorem State.setPrt_pipe (s : State) (p : Nat) (x : PartRt) : (s.setPrt p x).pipe = s.pipe := rfl
@[simp] theorem State.setPrt_wel (s : State) (p : Nat) (x : PartRt) : (s.setPrt p x).wel = s.wel := rfl
@[simp] theorem State.setPrt_cul (s : State) (p : Nat) (x : PartRt) : (s.setPrt p x).cul = s.cul := rfl
@[simp] theorem State.setPrt_rst (s : State) (p : Nat) (x : PartRt) : (s.setPrt p x).rst = s.rst := rfl
@[simp] theorem State.setPrt_fns (s : State) (p : Nat) (x : PartRt) : (s.setPrt p x).fns = s.fns := rfl
@[simp] theorem State.setPrt_obs (s : State) (p : Nat) (x : PartRt) : (s.setPrt p x).obs = s.obs := rfl
@[simp] theorem State.setPrt_glink (s : State) (p : Nat) (x : PartRt) : (s.setPrt p x).glink = s.glink := rfl
@[simp] theorem State.setPrt_island (s : State) (p : Nat) (x : PartRt) : (s.setPrt p x).island = s.island := rfl
@[simp] theorem State.setPrt_pump (s : State) (p : Nat) (x : PartRt) : (s.setPrt p x).pump = s.pump := rfl
@[simp] theorem State.setPrt_fetchTurn (s : State) (p : Nat) (x : PartRt) : (s.setPrt p x).fetchTurn = s.fetchTurn
    := rfl
@[simp] theorem State.setPrt_holds (s : State) (p : Nat) (x : PartRt) : (s.setPrt p x).holds = s.holds := rfl
@[simp] theorem State.setPrt_start (s : State) (p : Nat) (x : PartRt) : (s.setPrt p x).start = s.start := rfl
@[simp] theorem State.setPrt_fresh (s : State) (p : Nat) (x : PartRt) : (s.setPrt p x).fresh = s.fresh := rfl

/-! ### State.modPrt -/

@[simp] theorem State.modPrt_pending (s : State) (p : Nat) (f : PartRt → PartRt) : (s.modPrt p f).pending =
    s.pending := rfl
@[simp] theorem State.modPrt_held (s : State) (p : Nat) (f : PartRt → PartRt) : (s.modPrt p f).held = s.held := rfl
@[simp] theorem State.modPrt_out (s : State) (p : Nat) (f : PartRt → PartRt) : (s.modPrt p f).out = s.out := rfl
@[simp] theorem State.modPrt_freeCtr (s : State) (p : Nat) (f : PartRt → PartRt) : (s.modPrt p f).freeCtr =
    s.freeCtr := rfl
@[simp] theorem State.modPrt_build (s : State) (p : Nat) (f : PartRt → PartRt) : (s.modPrt p f).build = s.build := rfl
@[simp] theorem State.modPrt_regs (s : State) (p : Nat) (f : PartRt → PartRt) : (s.modPrt p f).regs = s.regs := rfl
@[simp] theorem State.modPrt_clk (s : State) (p : Nat) (f : PartRt → PartRt) : (s.modPrt p f).clk = s.clk := rfl
@[simp] theorem State.modPrt_grid (s : State) (p : Nat) (f : PartRt → PartRt) : (s.modPrt p f).grid = s.grid := rfl
@[simp] theorem State.modPrt_stop (s : State) (p : Nat) (f : PartRt → PartRt) : (s.modPrt p f).stop = s.stop := rfl
@[simp] theorem State.modPrt_cst (s : State) (p : Nat) (f : PartRt → PartRt) : (s.modPrt p f).cst = s.cst := rfl
@[simp] theorem State.modPrt_pipe (s : State) (p : Nat) (f : PartRt → PartRt) : (s.modPrt p f).pipe = s.pipe := rfl
@[simp] theorem State.modPrt_wel (s : State) (p : Nat) (f : PartRt → PartRt) : (s.modPrt p f).wel = s.wel := rfl
@[simp] theorem State.modPrt_cul (s : State) (p : Nat) (f : PartRt → PartRt) : (s.modPrt p f).cul = s.cul := rfl
@[simp] theorem State.modPrt_rst (s : State) (p : Nat) (f : PartRt → PartRt) : (s.modPrt p f).rst = s.rst := rfl
@[simp] theorem State.modPrt_fns (s : State) (p : Nat) (f : PartRt → PartRt) : (s.modPrt p f).fns = s.fns := rfl
@[simp] theorem State.modPrt_obs (s : State) (p : Nat) (f : PartRt → PartRt) : (s.modPrt p f).obs = s.obs := rfl
@[simp] theorem State.modPrt_glink (s : State) (p : Nat) (f : PartRt → PartRt) : (s.modPrt p f).glink = s.glink := rfl
@[simp] theorem State.modPrt_island (s : State) (p : Nat) (f : PartRt → PartRt) : (s.modPrt p f).island = s.island
    := rfl
@[simp] theorem State.modPrt_pump (s : State) (p : Nat) (f : PartRt → PartRt) : (s.modPrt p f).pump = s.pump := rfl
@[simp] theorem State.modPrt_fetchTurn (s : State) (p : Nat) (f : PartRt → PartRt) : (s.modPrt p f).fetchTurn =
    s.fetchTurn := rfl
@[simp] theorem State.modPrt_holds (s : State) (p : Nat) (f : PartRt → PartRt) : (s.modPrt p f).holds = s.holds := rfl
@[simp] theorem State.modPrt_start (s : State) (p : Nat) (f : PartRt → PartRt) : (s.modPrt p f).start = s.start := rfl
@[simp] theorem State.modPrt_fresh (s : State) (p : Nat) (f : PartRt → PartRt) : (s.modPrt p f).fresh = s.fresh := rfl

/-! ### State.setFn -/

@[simp] theorem State.setFn_pending (s : State) (f : Nat) (x : Fn) : (s.setFn f x).pending = s.pending := rfl
@[simp] theorem State.setFn_held (s : State) (f : Nat) (x : Fn) : (s.setFn f x).held = s.held := rfl
@[simp] theorem State.setFn_out (s : State) (f : Nat) (x : Fn) : (s.setFn f x).out = s.out := rfl
@[simp] theorem State.setFn_freeCtr (s : State) (f : Nat) (x : Fn) : (s.setFn f x).freeCtr = s.freeCtr := rfl
@[simp] theorem State.setFn_build (s : State) (f : Nat) (x : Fn) : (s.setFn f x).build = s.build := rfl
@[simp] theorem State.setFn_regs (s : State) (f : Nat) (x : Fn) : (s.setFn f x).regs = s.regs := rfl
@[simp] theorem State.setFn_clk (s : State) (f : Nat) (x : Fn) : (s.setFn f x).clk = s.clk := rfl
@[simp] theorem State.setFn_grid (s : State) (f : Nat) (x : Fn) : (s.setFn f x).grid = s.grid := rfl
@[simp] theorem State.setFn_stop (s : State) (f : Nat) (x : Fn) : (s.setFn f x).stop = s.stop := rfl
@[simp] theorem State.setFn_cst (s : State) (f : Nat) (x : Fn) : (s.setFn f x).cst = s.cst := rfl
@[simp] theorem State.setFn_pipe (s : State) (f : Nat) (x : Fn) : (s.setFn f x).pipe = s.pipe := rfl
@[simp] theorem State.setFn_wel (s : State) (f : Nat) (x : Fn) : (s.setFn f x).wel = s.wel := rfl
@[simp] theorem State.setFn_cul (s : State) (f : Nat) (x : Fn) : (s.setFn f x).cul = s.cul := rfl
@[simp] theorem State.setFn_rst (s : State) (f : Nat) (x : Fn) : (s.setFn f x).rst = s.rst := rfl
@[simp] theorem State.setFn_parts (s : State) (f : Nat) (x : Fn) : (s.setFn f x).parts = s.parts := rfl
@[simp] theorem State.setFn_obs (s : State) (f : Nat) (x : Fn) : (s.setFn f x).obs = s.obs := rfl
@[simp] theorem State.setFn_glink (s : State) (f : Nat) (x : Fn) : (s.setFn f x).glink = s.glink := rfl
@[simp] theorem State.setFn_island (s : State) (f : Nat) (x : Fn) : (s.setFn f x).island = s.island := rfl
@[simp] theorem State.setFn_pump (s : State) (f : Nat) (x : Fn) : (s.setFn f x).pump = s.pump := rfl
@[simp] theorem State.setFn_fetchTurn (s : State) (f : Nat) (x : Fn) : (s.setFn f x).fetchTurn = s.fetchTurn := rfl
@[simp] theorem State.setFn_holds (s : State) (f : Nat) (x : Fn) : (s.setFn f x).holds = s.holds := rfl
@[simp] theorem State.setFn_start (s : State) (f : Nat) (x : Fn) : (s.setFn f x).start = s.start := rfl
@[simp] theorem State.setFn_fresh (s : State) (f : Nat) (x : Fn) : (s.setFn f x).fresh = s.fresh := rfl

/-! ### State.modFn -/

@[simp] theorem State.modFn_pending (s : State) (f : Nat) (g : Fn → Fn) : (s.modFn f g).pending = s.pending := rfl
@[simp] theorem State.modFn_held (s : State) (f : Nat) (g : Fn → Fn) : (s.modFn f g).held = s.held := rfl
@[simp] theorem State.modFn_out (s : State) (f : Nat) (g : Fn → Fn) : (s.modFn f g).out = s.out := rfl
@[simp] theorem State.modFn_freeCtr (s : State) (f : Nat) (g : Fn → Fn) : (s.modFn f g).freeCtr = s.freeCtr := rfl
@[simp] theorem State.modFn_build (s : State) (f : Nat) (g : Fn → Fn) : (s.modFn f g).build = s.build := rfl
@[simp] theorem State.modFn_regs (s : State) (f : Nat) (g : Fn → Fn) : (s.modFn f g).regs = s.regs := rfl
@[simp] theorem State.modFn_clk (s : State) (f : Nat) (g : Fn → Fn) : (s.modFn f g).clk = s.clk := rfl
@[simp] theorem State.modFn_grid (s : State) (f : Nat) (g : Fn → Fn) : (s.modFn f g).grid = s.grid := rfl
@[simp] theorem State.modFn_stop (s : State) (f : Nat) (g : Fn → Fn) : (s.modFn f g).stop = s.stop := rfl
@[simp] theorem State.modFn_cst (s : State) (f : Nat) (g : Fn → Fn) : (s.modFn f g).cst = s.cst := rfl
@[simp] theorem State.modFn_pipe (s : State) (f : Nat) (g : Fn → Fn) : (s.modFn f g).pipe = s.pipe := rfl
@[simp] theorem State.modFn_wel (s : State) (f : Nat) (g : Fn → Fn) : (s.modFn f g).wel = s.wel := rfl
@[simp] theorem State.modFn_cul (s : State) (f : Nat) (g : Fn → Fn) : (s.modFn f g).cul = s.cul := rfl
@[simp] theorem State.modFn_rst (s : State) (f : Nat) (g : Fn → Fn) : (s.modFn f g).rst = s.rst := rfl
@[simp] theorem State.modFn_parts (s : State) (f : Nat) (g : Fn → Fn) : (s.modFn f g).parts = s.parts := rfl
@[simp] theorem State.modFn_obs (s : State) (f : Nat) (g : Fn → Fn) : (s.modFn f g).obs = s.obs := rfl
@[simp] theorem State.modFn_glink (s : State) (f : Nat) (g : Fn → Fn) : (s.modFn f g).glink = s.glink := rfl
@[simp] theorem State.modFn_island (s : State) (f : Nat) (g : Fn → Fn) : (s.modFn f g).island = s.island := rfl
@[simp] theorem State.modFn_pump (s : State) (f : Nat) (g : Fn → Fn) : (s.modFn f g).pump = s.pump := rfl
@[simp] theorem State.modFn_fetchTurn (s : State) (f : Nat) (g : Fn → Fn) : (s.modFn f g).fetchTurn = s.fetchTurn :=
    rfl
@[simp] theorem State.modFn_holds (s : State) (f : Nat) (g : Fn → Fn) : (s.modFn f g).holds = s.holds := rfl
@[simp] theorem State.modFn_start (s : State) (f : Nat) (g : Fn → Fn) : (s.modFn f g).start = s.start := rfl
@[simp] theorem State.modFn_fresh (s : State) (f : Nat) (g : Fn → Fn) : (s.modFn f g).fresh = s.fresh := rfl

/-! ### State.usage -/

@[simp] theorem State.usage_pending (s : State) (p : Nat) (u : Usage) (n : Nat) : (s.usage p u n).pending =
    s.pending := by
  unfold State.usage; (try dsimp only); (repeat' split) <;> rfl
@[simp] theorem State.usage_held (s : State) (p : Nat) (u : Usage) (n : Nat) : (s.usage p u n).held = s.held := by
  unfold State.usage; (try dsimp only); (repeat' split) <;> rfl
@[simp] theorem State.usage_out (s : State) (p : Nat) (u : Usage) (n : Nat) : (s.usage p u n).out = s.out := by
  unfold State.usage; (try dsimp only); (repeat' split) <;> rfl
@[simp] theorem State.usage_freeCtr (s : State) (p : Nat) (u : Usage) (n : Nat) : (s.usage p u n).freeCtr =
    s.freeCtr := by
  unfold State.usage; (try dsimp only); (repeat' split) <;> rfl
@[simp] theorem State.usage_build (s : State) (p : Nat) (u : Usage) (n : Nat) : (s.usage p u n).build = s.build := by
  unfold State.usage; (try dsimp only); (repeat' split) <;> rfl
@[simp] theorem State.usage_clk (s : State) (p : Nat) (u : Usage) (n : Nat) : (s.usage p u n).clk = s.clk := by
  unfold State.usage; (try dsimp only); (repeat' split) <;> rfl
@[simp] theorem State.usage_grid (s : State) (p : Nat) (u : Usage) (n : Nat) : (s.usage p u n).grid = s.grid := by
  unfold State.usage; (try dsimp only); (repeat' split) <;> rfl
@[simp] theorem State.usage_stop (s : State) (p : Nat) (u : Usage) (n : Nat) : (s.usage p u n).stop = s.stop := by
  unfold State.usage; (try dsimp only); (repeat' split) <;> rfl
@[simp] theorem State.usage_cst (s : State) (p : Nat) (u : Usage) (n : Nat) : (s.usage p u n).cst = s.cst := by
  unfold State.usage; (try dsimp only); (repeat' split) <;> rfl
@[simp] theorem State.usage_pipe (s : State) (p : Nat) (u : Usage) (n : Nat) : (s.usage p u n).pipe = s.pipe := by
  unfold State.usage; (try dsimp only); (repeat' split) <;> rfl
@[simp] theorem State.usage_wel (s : State) (p : Nat) (u : Usage) (n : Nat) : (s.usage p u n).wel = s.wel := by
  unfold State.usage; (try dsimp only); (repeat' split) <;> rfl
@[simp] theorem State.usage_cul (s : State) (p : Nat) (u : Usage) (n : Nat) : (s.usage p u n).cul = s.cul := by
  unfold State.usage; (try dsimp only); (repeat' split) <;> rfl
@[simp] theorem State.usage_rst (s : State) (p : Nat) (u : Usage) (n : Nat) : (s.usage p u n).rst = s.rst := by
  unfold State.usage; (try dsimp only); (repeat' split) <;> rfl
@[simp] theorem State.usage_parts (s : State) (p : Nat) (u : Usage) (n : Nat) : (s.usage p u n).parts = s.parts := by
  unfold State.usage; (try dsimp only); (repeat' split) <;> rfl
@[simp] theorem State.usage_fns (s : State) (p : Nat) (u : Usage) (n : Nat) : (s.usage p u n).fns = s.fns := by
  unfold State.usage; (try dsimp only); (repeat' split) <;> rfl
@[simp] theorem State.usage_obs (s : State) (p : Nat) (u : Usage) (n : Nat) : (s.usage p u n).obs = s.obs := by
  unfold State.usage; (try dsimp only); (repeat' split) <;> rfl
@[simp] theorem State.usage_island (s : State) (p : Nat) (u : Usage) (n : Nat) : (s.usage p u n).island = s.island
    := by
  unfold State.usage; (try dsimp only); (repeat' split) <;> rfl
@[simp] theorem State.usage_pump (s : State) (p : Nat) (u : Usage) (n : Nat) : (s.usage p u n).pump = s.pump := by
  unfold State.usage; (try dsimp only); (repeat' split) <;> rfl
@[simp] theorem State.usage_fetchTurn (s : State) (p : Nat) (u : Usage) (n : Nat) : (s.usage p u n).fetchTurn =
    s.fetchTurn := by
  unfold State.usage; (try dsimp only); (repeat' split) <;> rfl
@[simp] theorem State.usage_holds (s : State) (p : Nat) (u : Usage) (n : Nat) : (s.usage p u n).holds = s.holds := by
  unfold State.usage; (try dsimp only); (repeat' split) <;> rfl
@[simp] theorem State.usage_start (s : State) (p : Nat) (u : Usage) (n : Nat) : (s.usage p u n).start = s.start := by
  unfold State.usage; (try dsimp only); (repeat' split) <;> rfl

/-! ### State.setSump -/

@[simp] theorem State.setSump_pending (s : State) (i : Nat) (x : Sump) : (s.setSump i x).pending = s.pending := rfl
@[simp] theorem State.setSump_held (s : State) (i : Nat) (x : Sump) : (s.setSump i x).held = s.held := rfl
@[simp] theorem State.setSump_out (s : State) (i : Nat) (x : Sump) : (s.setSump i x).out = s.out := rfl
@[simp] theorem State.setSump_freeCtr (s : State) (i : Nat) (x : Sump) : (s.setSump i x).freeCtr = s.freeCtr := rfl
@[simp] theorem State.setSump_build (s : State) (i : Nat) (x : Sump) : (s.setSump i x).build = s.build := rfl
@[simp] theorem State.setSump_regs (s : State) (i : Nat) (x : Sump) : (s.setSump i x).regs = s.regs := rfl
@[simp] theorem State.setSump_clk (s : State) (i : Nat) (x : Sump) : (s.setSump i x).clk = s.clk := rfl
@[simp] theorem State.setSump_grid (s : State) (i : Nat) (x : Sump) : (s.setSump i x).grid = s.grid := rfl
@[simp] theorem State.setSump_stop (s : State) (i : Nat) (x : Sump) : (s.setSump i x).stop = s.stop := rfl
@[simp] theorem State.setSump_cst (s : State) (i : Nat) (x : Sump) : (s.setSump i x).cst = s.cst := rfl
@[simp] theorem State.setSump_pipe (s : State) (i : Nat) (x : Sump) : (s.setSump i x).pipe = s.pipe := rfl
@[simp] theorem State.setSump_wel (s : State) (i : Nat) (x : Sump) : (s.setSump i x).wel = s.wel := rfl
@[simp] theorem State.setSump_cul (s : State) (i : Nat) (x : Sump) : (s.setSump i x).cul = s.cul := rfl
@[simp] theorem State.setSump_rst (s : State) (i : Nat) (x : Sump) : (s.setSump i x).rst = s.rst := rfl
@[simp] theorem State.setSump_parts (s : State) (i : Nat) (x : Sump) : (s.setSump i x).parts = s.parts := rfl
@[simp] theorem State.setSump_fns (s : State) (i : Nat) (x : Sump) : (s.setSump i x).fns = s.fns := rfl
@[simp] theorem State.setSump_glink (s : State) (i : Nat) (x : Sump) : (s.setSump i x).glink = s.glink := rfl
@[simp] theorem State.setSump_island (s : State) (i : Nat) (x : Sump) : (s.setSump i x).island = s.island := rfl
@[simp] theorem State.setSump_pump (s : State) (i : Nat) (x : Sump) : (s.setSump i x).pump = s.pump := rfl
@[simp] theorem State.setSump_fetchTurn (s : State) (i : Nat) (x : Sump) : (s.setSump i x).fetchTurn = s.fetchTurn
    := rfl
@[simp] theorem State.setSump_holds (s : State) (i : Nat) (x : Sump) : (s.setSump i x).holds = s.holds := rfl
@[simp] theorem State.setSump_start (s : State) (i : Nat) (x : Sump) : (s.setSump i x).start = s.start := rfl
@[simp] theorem State.setSump_fresh (s : State) (i : Nat) (x : Sump) : (s.setSump i x).fresh = s.fresh := rfl

/-! ### State.sumpLose -/

@[simp] theorem State.sumpLose_pending (s : State) (i : Nat) : (s.sumpLose i).pending = s.pending := by
  unfold State.sumpLose; (try dsimp only); (repeat' split) <;> rfl
@[simp] theorem State.sumpLose_held (s : State) (i : Nat) : (s.sumpLose i).held = s.held := by
  unfold State.sumpLose; (try dsimp only); (repeat' split) <;> rfl
@[simp] theorem State.sumpLose_out (s : State) (i : Nat) : (s.sumpLose i).out = s.out := by
  unfold State.sumpLose; (try dsimp only); (repeat' split) <;> rfl
@[simp] theorem State.sumpLose_freeCtr (s : State) (i : Nat) : (s.sumpLose i).freeCtr = s.freeCtr := by
  unfold State.sumpLose; (try dsimp only); (repeat' split) <;> rfl
@[simp] theorem State.sumpLose_build (s : State) (i : Nat) : (s.sumpLose i).build = s.build := by
  unfold State.sumpLose; (try dsimp only); (repeat' split) <;> rfl
@[simp] theorem State.sumpLose_clk (s : State) (i : Nat) : (s.sumpLose i).clk = s.clk := by
  unfold State.sumpLose; (try dsimp only); (repeat' split) <;> rfl
@[simp] theorem State.sumpLose_grid (s : State) (i : Nat) : (s.sumpLose i).grid = s.grid := by
  unfold State.sumpLose; (try dsimp only); (repeat' split) <;> rfl
@[simp] theorem State.sumpLose_stop (s : State) (i : Nat) : (s.sumpLose i).stop = s.stop := by
  unfold State.sumpLose; (try dsimp only); (repeat' split) <;> rfl
@[simp] theorem State.sumpLose_cst (s : State) (i : Nat) : (s.sumpLose i).cst = s.cst := by
  unfold State.sumpLose; (try dsimp only); (repeat' split) <;> rfl
@[simp] theorem State.sumpLose_pipe (s : State) (i : Nat) : (s.sumpLose i).pipe = s.pipe := by
  unfold State.sumpLose; (try dsimp only); (repeat' split) <;> rfl
@[simp] theorem State.sumpLose_wel (s : State) (i : Nat) : (s.sumpLose i).wel = s.wel := by
  unfold State.sumpLose; (try dsimp only); (repeat' split) <;> rfl
@[simp] theorem State.sumpLose_cul (s : State) (i : Nat) : (s.sumpLose i).cul = s.cul := by
  unfold State.sumpLose; (try dsimp only); (repeat' split) <;> rfl
@[simp] theorem State.sumpLose_rst (s : State) (i : Nat) : (s.sumpLose i).rst = s.rst := by
  unfold State.sumpLose; (try dsimp only); (repeat' split) <;> rfl
@[simp] theorem State.sumpLose_parts (s : State) (i : Nat) : (s.sumpLose i).parts = s.parts := by
  unfold State.sumpLose; (try dsimp only); (repeat' split) <;> rfl
@[simp] theorem State.sumpLose_fns (s : State) (i : Nat) : (s.sumpLose i).fns = s.fns := by
  unfold State.sumpLose; (try dsimp only); (repeat' split) <;> rfl
@[simp] theorem State.sumpLose_glink (s : State) (i : Nat) : (s.sumpLose i).glink = s.glink := by
  unfold State.sumpLose; (try dsimp only); (repeat' split) <;> rfl
@[simp] theorem State.sumpLose_island (s : State) (i : Nat) : (s.sumpLose i).island = s.island := by
  unfold State.sumpLose; (try dsimp only); (repeat' split) <;> rfl
@[simp] theorem State.sumpLose_pump (s : State) (i : Nat) : (s.sumpLose i).pump = s.pump := by
  unfold State.sumpLose; (try dsimp only); (repeat' split) <;> rfl
@[simp] theorem State.sumpLose_fetchTurn (s : State) (i : Nat) : (s.sumpLose i).fetchTurn = s.fetchTurn := by
  unfold State.sumpLose; (try dsimp only); (repeat' split) <;> rfl
@[simp] theorem State.sumpLose_holds (s : State) (i : Nat) : (s.sumpLose i).holds = s.holds := by
  unfold State.sumpLose; (try dsimp only); (repeat' split) <;> rfl
@[simp] theorem State.sumpLose_start (s : State) (i : Nat) : (s.sumpLose i).start = s.start := by
  unfold State.sumpLose; (try dsimp only); (repeat' split) <;> rfl
@[simp] theorem State.sumpLose_fresh (s : State) (i : Nat) : (s.sumpLose i).fresh = s.fresh := by
  unfold State.sumpLose; (try dsimp only); (repeat' split) <;> rfl

/-! ### State.sumpPut -/

@[simp] theorem State.sumpPut_pending (s : State) (i : Nat) (r : Nat) : (s.sumpPut i r).pending = s.pending := by
  unfold State.sumpPut; (try dsimp only); (repeat' split) <;> first | rfl | simp
@[simp] theorem State.sumpPut_held (s : State) (i : Nat) (r : Nat) : (s.sumpPut i r).held = s.held := by
  unfold State.sumpPut; (try dsimp only); (repeat' split) <;> first | rfl | simp
@[simp] theorem State.sumpPut_out (s : State) (i : Nat) (r : Nat) : (s.sumpPut i r).out = s.out := by
  unfold State.sumpPut; (try dsimp only); (repeat' split) <;> first | rfl | simp
@[simp] theorem State.sumpPut_freeCtr (s : State) (i : Nat) (r : Nat) : (s.sumpPut i r).freeCtr = s.freeCtr := by
  unfold State.sumpPut; (try dsimp only); (repeat' split) <;> first | rfl | simp
@[simp] theorem State.sumpPut_build (s : State) (i : Nat) (r : Nat) : (s.sumpPut i r).build = s.build := by
  unfold State.sumpPut; (try dsimp only); (repeat' split) <;> first | rfl | simp
@[simp] theorem State.sumpPut_clk (s : State) (i : Nat) (r : Nat) : (s.sumpPut i r).clk = s.clk := by
  unfold State.sumpPut; (try dsimp only); (repeat' split) <;> first | rfl | simp
@[simp] theorem State.sumpPut_grid (s : State) (i : Nat) (r : Nat) : (s.sumpPut i r).grid = s.grid := by
  unfold State.sumpPut; (try dsimp only); (repeat' split) <;> first | rfl | simp
@[simp] theorem State.sumpPut_stop (s : State) (i : Nat) (r : Nat) : (s.sumpPut i r).stop = s.stop := by
  unfold State.sumpPut; (try dsimp only); (repeat' split) <;> first | rfl | simp
@[simp] theorem State.sumpPut_cst (s : State) (i : Nat) (r : Nat) : (s.sumpPut i r).cst = s.cst := by
  unfold State.sumpPut; (try dsimp only); (repeat' split) <;> first | rfl | simp
@[simp] theorem State.sumpPut_pipe (s : State) (i : Nat) (r : Nat) : (s.sumpPut i r).pipe = s.pipe := by
  unfold State.sumpPut; (try dsimp only); (repeat' split) <;> first | rfl | simp
@[simp] theorem State.sumpPut_wel (s : State) (i : Nat) (r : Nat) : (s.sumpPut i r).wel = s.wel := by
  unfold State.sumpPut; (try dsimp only); (repeat' split) <;> first | rfl | simp
@[simp] theorem State.sumpPut_cul (s : State) (i : Nat) (r : Nat) : (s.sumpPut i r).cul = s.cul := by
  unfold State.sumpPut; (try dsimp only); (repeat' split) <;> first | rfl | simp
@[simp] theorem State.sumpPut_rst (s : State) (i : Nat) (r : Nat) : (s.sumpPut i r).rst = s.rst := by
  unfold State.sumpPut; (try dsimp only); (repeat' split) <;> first | rfl | simp
@[simp] theorem State.sumpPut_parts (s : State) (i : Nat) (r : Nat) : (s.sumpPut i r).parts = s.parts := by
  unfold State.sumpPut; (try dsimp only); (repeat' split) <;> first | rfl | simp
@[simp] theorem State.sumpPut_fns (s : State) (i : Nat) (r : Nat) : (s.sumpPut i r).fns = s.fns := by
  unfold State.sumpPut; (try dsimp only); (repeat' split) <;> first | rfl | simp
@[simp] theorem State.sumpPut_glink (s : State) (i : Nat) (r : Nat) : (s.sumpPut i r).glink = s.glink := by
  unfold State.sumpPut; (try dsimp only); (repeat' split) <;> first | rfl | simp
@[simp] theorem State.sumpPut_island (s : State) (i : Nat) (r : Nat) : (s.sumpPut i r).island = s.island := by
  unfold State.sumpPut; (try dsimp only); (repeat' split) <;> first | rfl | simp
@[simp] theorem State.sumpPut_pump (s : State) (i : Nat) (r : Nat) : (s.sumpPut i r).pump = s.pump := by
  unfold State.sumpPut; (try dsimp only); (repeat' split) <;> first | rfl | simp
@[simp] theorem State.sumpPut_fetchTurn (s : State) (i : Nat) (r : Nat) : (s.sumpPut i r).fetchTurn = s.fetchTurn :=
    by
  unfold State.sumpPut; (try dsimp only); (repeat' split) <;> first | rfl | simp
@[simp] theorem State.sumpPut_holds (s : State) (i : Nat) (r : Nat) : (s.sumpPut i r).holds = s.holds := by
  unfold State.sumpPut; (try dsimp only); (repeat' split) <;> first | rfl | simp
@[simp] theorem State.sumpPut_start (s : State) (i : Nat) (r : Nat) : (s.sumpPut i r).start = s.start := by
  unfold State.sumpPut; (try dsimp only); (repeat' split) <;> first | rfl | simp
@[simp] theorem State.sumpPut_fresh (s : State) (i : Nat) (r : Nat) : (s.sumpPut i r).fresh = s.fresh := by
  unfold State.sumpPut; (try dsimp only); (repeat' split) <;> first | rfl | simp

/-! ### State.sumpCarried -/

@[simp] theorem State.sumpCarried_pending (s : State) (i : Nat) : (s.sumpCarried i).pending = s.pending := rfl
@[simp] theorem State.sumpCarried_held (s : State) (i : Nat) : (s.sumpCarried i).held = s.held := rfl
@[simp] theorem State.sumpCarried_out (s : State) (i : Nat) : (s.sumpCarried i).out = s.out := rfl
@[simp] theorem State.sumpCarried_freeCtr (s : State) (i : Nat) : (s.sumpCarried i).freeCtr = s.freeCtr := rfl
@[simp] theorem State.sumpCarried_build (s : State) (i : Nat) : (s.sumpCarried i).build = s.build := rfl
@[simp] theorem State.sumpCarried_regs (s : State) (i : Nat) : (s.sumpCarried i).regs = s.regs := rfl
@[simp] theorem State.sumpCarried_clk (s : State) (i : Nat) : (s.sumpCarried i).clk = s.clk := rfl
@[simp] theorem State.sumpCarried_grid (s : State) (i : Nat) : (s.sumpCarried i).grid = s.grid := rfl
@[simp] theorem State.sumpCarried_stop (s : State) (i : Nat) : (s.sumpCarried i).stop = s.stop := rfl
@[simp] theorem State.sumpCarried_cst (s : State) (i : Nat) : (s.sumpCarried i).cst = s.cst := rfl
@[simp] theorem State.sumpCarried_pipe (s : State) (i : Nat) : (s.sumpCarried i).pipe = s.pipe := rfl
@[simp] theorem State.sumpCarried_wel (s : State) (i : Nat) : (s.sumpCarried i).wel = s.wel := rfl
@[simp] theorem State.sumpCarried_cul (s : State) (i : Nat) : (s.sumpCarried i).cul = s.cul := rfl
@[simp] theorem State.sumpCarried_rst (s : State) (i : Nat) : (s.sumpCarried i).rst = s.rst := rfl
@[simp] theorem State.sumpCarried_parts (s : State) (i : Nat) : (s.sumpCarried i).parts = s.parts := rfl
@[simp] theorem State.sumpCarried_fns (s : State) (i : Nat) : (s.sumpCarried i).fns = s.fns := rfl
@[simp] theorem State.sumpCarried_glink (s : State) (i : Nat) : (s.sumpCarried i).glink = s.glink := rfl
@[simp] theorem State.sumpCarried_island (s : State) (i : Nat) : (s.sumpCarried i).island = s.island := rfl
@[simp] theorem State.sumpCarried_pump (s : State) (i : Nat) : (s.sumpCarried i).pump = s.pump := rfl
@[simp] theorem State.sumpCarried_fetchTurn (s : State) (i : Nat) : (s.sumpCarried i).fetchTurn = s.fetchTurn := rfl
@[simp] theorem State.sumpCarried_holds (s : State) (i : Nat) : (s.sumpCarried i).holds = s.holds := rfl
@[simp] theorem State.sumpCarried_start (s : State) (i : Nat) : (s.sumpCarried i).start = s.start := rfl
@[simp] theorem State.sumpCarried_fresh (s : State) (i : Nat) : (s.sumpCarried i).fresh = s.fresh := rfl

/-! ### State.aoFaultCounts -/

@[simp] theorem State.aoFaultCounts_pending (s : State) (r : FaultRec) : (s.aoFaultCounts r).pending = s.pending := by
  unfold State.aoFaultCounts; (try dsimp only); (repeat' split) <;> rfl
@[simp] theorem State.aoFaultCounts_held (s : State) (r : FaultRec) : (s.aoFaultCounts r).held = s.held := by
  unfold State.aoFaultCounts; (try dsimp only); (repeat' split) <;> rfl
@[simp] theorem State.aoFaultCounts_out (s : State) (r : FaultRec) : (s.aoFaultCounts r).out = s.out := by
  unfold State.aoFaultCounts; (try dsimp only); (repeat' split) <;> rfl
@[simp] theorem State.aoFaultCounts_freeCtr (s : State) (r : FaultRec) : (s.aoFaultCounts r).freeCtr = s.freeCtr := by
  unfold State.aoFaultCounts; (try dsimp only); (repeat' split) <;> rfl
@[simp] theorem State.aoFaultCounts_build (s : State) (r : FaultRec) : (s.aoFaultCounts r).build = s.build := by
  unfold State.aoFaultCounts; (try dsimp only); (repeat' split) <;> rfl
@[simp] theorem State.aoFaultCounts_clk (s : State) (r : FaultRec) : (s.aoFaultCounts r).clk = s.clk := by
  unfold State.aoFaultCounts; (try dsimp only); (repeat' split) <;> rfl
@[simp] theorem State.aoFaultCounts_grid (s : State) (r : FaultRec) : (s.aoFaultCounts r).grid = s.grid := by
  unfold State.aoFaultCounts; (try dsimp only); (repeat' split) <;> rfl
@[simp] theorem State.aoFaultCounts_stop (s : State) (r : FaultRec) : (s.aoFaultCounts r).stop = s.stop := by
  unfold State.aoFaultCounts; (try dsimp only); (repeat' split) <;> rfl
@[simp] theorem State.aoFaultCounts_cst (s : State) (r : FaultRec) : (s.aoFaultCounts r).cst = s.cst := by
  unfold State.aoFaultCounts; (try dsimp only); (repeat' split) <;> rfl
@[simp] theorem State.aoFaultCounts_pipe (s : State) (r : FaultRec) : (s.aoFaultCounts r).pipe = s.pipe := by
  unfold State.aoFaultCounts; (try dsimp only); (repeat' split) <;> rfl
@[simp] theorem State.aoFaultCounts_wel (s : State) (r : FaultRec) : (s.aoFaultCounts r).wel = s.wel := by
  unfold State.aoFaultCounts; (try dsimp only); (repeat' split) <;> rfl
@[simp] theorem State.aoFaultCounts_cul (s : State) (r : FaultRec) : (s.aoFaultCounts r).cul = s.cul := by
  unfold State.aoFaultCounts; (try dsimp only); (repeat' split) <;> rfl
@[simp] theorem State.aoFaultCounts_rst (s : State) (r : FaultRec) : (s.aoFaultCounts r).rst = s.rst := by
  unfold State.aoFaultCounts; (try dsimp only); (repeat' split) <;> rfl
@[simp] theorem State.aoFaultCounts_parts (s : State) (r : FaultRec) : (s.aoFaultCounts r).parts = s.parts := by
  unfold State.aoFaultCounts; (try dsimp only); (repeat' split) <;> rfl
@[simp] theorem State.aoFaultCounts_fns (s : State) (r : FaultRec) : (s.aoFaultCounts r).fns = s.fns := by
  unfold State.aoFaultCounts; (try dsimp only); (repeat' split) <;> rfl
@[simp] theorem State.aoFaultCounts_obs (s : State) (r : FaultRec) : (s.aoFaultCounts r).obs = s.obs := by
  unfold State.aoFaultCounts; (try dsimp only); (repeat' split) <;> rfl
@[simp] theorem State.aoFaultCounts_glink (s : State) (r : FaultRec) : (s.aoFaultCounts r).glink = s.glink := by
  unfold State.aoFaultCounts; (try dsimp only); (repeat' split) <;> rfl
@[simp] theorem State.aoFaultCounts_island (s : State) (r : FaultRec) : (s.aoFaultCounts r).island = s.island := by
  unfold State.aoFaultCounts; (try dsimp only); (repeat' split) <;> rfl
@[simp] theorem State.aoFaultCounts_pump (s : State) (r : FaultRec) : (s.aoFaultCounts r).pump = s.pump := by
  unfold State.aoFaultCounts; (try dsimp only); (repeat' split) <;> rfl
@[simp] theorem State.aoFaultCounts_fetchTurn (s : State) (r : FaultRec) : (s.aoFaultCounts r).fetchTurn =
    s.fetchTurn := by
  unfold State.aoFaultCounts; (try dsimp only); (repeat' split) <;> rfl
@[simp] theorem State.aoFaultCounts_holds (s : State) (r : FaultRec) : (s.aoFaultCounts r).holds = s.holds := by
  unfold State.aoFaultCounts; (try dsimp only); (repeat' split) <;> rfl
@[simp] theorem State.aoFaultCounts_start (s : State) (r : FaultRec) : (s.aoFaultCounts r).start = s.start := by
  unfold State.aoFaultCounts; (try dsimp only); (repeat' split) <;> rfl
@[simp] theorem State.aoFaultCounts_fresh (s : State) (r : FaultRec) : (s.aoFaultCounts r).fresh = s.fresh := by
  unfold State.aoFaultCounts; (try dsimp only); (repeat' split) <;> rfl

/-! ### State.count -/

@[simp] theorem State.count_pending (s : State) (e : Evt) : (s.count e).pending = s.pending := by
  unfold State.count; (try dsimp only); (repeat' split) <;> rfl
@[simp] theorem State.count_held (s : State) (e : Evt) : (s.count e).held = s.held := by
  unfold State.count; (try dsimp only); (repeat' split) <;> rfl
@[simp] theorem State.count_out (s : State) (e : Evt) : (s.count e).out = s.out := by
  unfold State.count; (try dsimp only); (repeat' split) <;> rfl
@[simp] theorem State.count_freeCtr (s : State) (e : Evt) : (s.count e).freeCtr = s.freeCtr := by
  unfold State.count; (try dsimp only); (repeat' split) <;> rfl
@[simp] theorem State.count_build (s : State) (e : Evt) : (s.count e).build = s.build := by
  unfold State.count; (try dsimp only); (repeat' split) <;> rfl
@[simp] theorem State.count_regs (s : State) (e : Evt) : (s.count e).regs = s.regs := by
  unfold State.count; (try dsimp only); (repeat' split) <;> rfl
@[simp] theorem State.count_clk (s : State) (e : Evt) : (s.count e).clk = s.clk := by
  unfold State.count; (try dsimp only); (repeat' split) <;> rfl
@[simp] theorem State.count_grid (s : State) (e : Evt) : (s.count e).grid = s.grid := by
  unfold State.count; (try dsimp only); (repeat' split) <;> rfl
@[simp] theorem State.count_stop (s : State) (e : Evt) : (s.count e).stop = s.stop := by
  unfold State.count; (try dsimp only); (repeat' split) <;> rfl
@[simp] theorem State.count_cst (s : State) (e : Evt) : (s.count e).cst = s.cst := by
  unfold State.count; (try dsimp only); (repeat' split) <;> rfl
@[simp] theorem State.count_pipe (s : State) (e : Evt) : (s.count e).pipe = s.pipe := by
  unfold State.count; (try dsimp only); (repeat' split) <;> rfl
@[simp] theorem State.count_wel (s : State) (e : Evt) : (s.count e).wel = s.wel := by
  unfold State.count; (try dsimp only); (repeat' split) <;> rfl
@[simp] theorem State.count_cul (s : State) (e : Evt) : (s.count e).cul = s.cul := by
  unfold State.count; (try dsimp only); (repeat' split) <;> rfl
@[simp] theorem State.count_rst (s : State) (e : Evt) : (s.count e).rst = s.rst := by
  unfold State.count; (try dsimp only); (repeat' split) <;> rfl
@[simp] theorem State.count_parts (s : State) (e : Evt) : (s.count e).parts = s.parts := by
  unfold State.count; (try dsimp only); (repeat' split) <;> rfl
@[simp] theorem State.count_fns (s : State) (e : Evt) : (s.count e).fns = s.fns := by
  unfold State.count; (try dsimp only); (repeat' split) <;> rfl
@[simp] theorem State.count_glink (s : State) (e : Evt) : (s.count e).glink = s.glink := by
  unfold State.count; (try dsimp only); (repeat' split) <;> rfl
@[simp] theorem State.count_island (s : State) (e : Evt) : (s.count e).island = s.island := by
  unfold State.count; (try dsimp only); (repeat' split) <;> rfl
@[simp] theorem State.count_pump (s : State) (e : Evt) : (s.count e).pump = s.pump := by
  unfold State.count; (try dsimp only); (repeat' split) <;> rfl
@[simp] theorem State.count_fetchTurn (s : State) (e : Evt) : (s.count e).fetchTurn = s.fetchTurn := by
  unfold State.count; (try dsimp only); (repeat' split) <;> rfl
@[simp] theorem State.count_holds (s : State) (e : Evt) : (s.count e).holds = s.holds := by
  unfold State.count; (try dsimp only); (repeat' split) <;> rfl
@[simp] theorem State.count_start (s : State) (e : Evt) : (s.count e).start = s.start := by
  unfold State.count; (try dsimp only); (repeat' split) <;> rfl
@[simp] theorem State.count_fresh (s : State) (e : Evt) : (s.count e).fresh = s.fresh := by
  unfold State.count; (try dsimp only); (repeat' split) <;> rfl

/-! ### State.irqSend -/

@[simp] theorem State.irqSend_pending (s : State) (f v : Nat) : (s.irqSend f v).pending = s.pending := by
  unfold State.irqSend; (try dsimp only); (repeat' split) <;> rfl
@[simp] theorem State.irqSend_held (s : State) (f v : Nat) : (s.irqSend f v).held = s.held := by
  unfold State.irqSend; (try dsimp only); (repeat' split) <;> rfl
@[simp] theorem State.irqSend_freeCtr (s : State) (f v : Nat) : (s.irqSend f v).freeCtr = s.freeCtr := by
  unfold State.irqSend; (try dsimp only); (repeat' split) <;> rfl
@[simp] theorem State.irqSend_build (s : State) (f v : Nat) : (s.irqSend f v).build = s.build := by
  unfold State.irqSend; (try dsimp only); (repeat' split) <;> rfl
@[simp] theorem State.irqSend_regs (s : State) (f v : Nat) : (s.irqSend f v).regs = s.regs := by
  unfold State.irqSend; (try dsimp only); (repeat' split) <;> rfl
@[simp] theorem State.irqSend_clk (s : State) (f v : Nat) : (s.irqSend f v).clk = s.clk := by
  unfold State.irqSend; (try dsimp only); (repeat' split) <;> rfl
@[simp] theorem State.irqSend_grid (s : State) (f v : Nat) : (s.irqSend f v).grid = s.grid := by
  unfold State.irqSend; (try dsimp only); (repeat' split) <;> rfl
@[simp] theorem State.irqSend_stop (s : State) (f v : Nat) : (s.irqSend f v).stop = s.stop := by
  unfold State.irqSend; (try dsimp only); (repeat' split) <;> rfl
@[simp] theorem State.irqSend_cst (s : State) (f v : Nat) : (s.irqSend f v).cst = s.cst := by
  unfold State.irqSend; (try dsimp only); (repeat' split) <;> rfl
@[simp] theorem State.irqSend_pipe (s : State) (f v : Nat) : (s.irqSend f v).pipe = s.pipe := by
  unfold State.irqSend; (try dsimp only); (repeat' split) <;> rfl
@[simp] theorem State.irqSend_wel (s : State) (f v : Nat) : (s.irqSend f v).wel = s.wel := by
  unfold State.irqSend; (try dsimp only); (repeat' split) <;> rfl
@[simp] theorem State.irqSend_cul (s : State) (f v : Nat) : (s.irqSend f v).cul = s.cul := by
  unfold State.irqSend; (try dsimp only); (repeat' split) <;> rfl
@[simp] theorem State.irqSend_rst (s : State) (f v : Nat) : (s.irqSend f v).rst = s.rst := by
  unfold State.irqSend; (try dsimp only); (repeat' split) <;> rfl
@[simp] theorem State.irqSend_parts (s : State) (f v : Nat) : (s.irqSend f v).parts = s.parts := by
  unfold State.irqSend; (try dsimp only); (repeat' split) <;> rfl
@[simp] theorem State.irqSend_obs (s : State) (f v : Nat) : (s.irqSend f v).obs = s.obs := by
  unfold State.irqSend; (try dsimp only); (repeat' split) <;> rfl
@[simp] theorem State.irqSend_glink (s : State) (f v : Nat) : (s.irqSend f v).glink = s.glink := by
  unfold State.irqSend; (try dsimp only); (repeat' split) <;> rfl
@[simp] theorem State.irqSend_island (s : State) (f v : Nat) : (s.irqSend f v).island = s.island := by
  unfold State.irqSend; (try dsimp only); (repeat' split) <;> rfl
@[simp] theorem State.irqSend_pump (s : State) (f v : Nat) : (s.irqSend f v).pump = s.pump := by
  unfold State.irqSend; (try dsimp only); (repeat' split) <;> rfl
@[simp] theorem State.irqSend_fetchTurn (s : State) (f v : Nat) : (s.irqSend f v).fetchTurn = s.fetchTurn := by
  unfold State.irqSend; (try dsimp only); (repeat' split) <;> rfl
@[simp] theorem State.irqSend_holds (s : State) (f v : Nat) : (s.irqSend f v).holds = s.holds := by
  unfold State.irqSend; (try dsimp only); (repeat' split) <;> rfl
@[simp] theorem State.irqSend_start (s : State) (f v : Nat) : (s.irqSend f v).start = s.start := by
  unfold State.irqSend; (try dsimp only); (repeat' split) <;> rfl
@[simp] theorem State.irqSend_fresh (s : State) (f v : Nat) : (s.irqSend f v).fresh = s.fresh := by
  unfold State.irqSend; (try dsimp only); (repeat' split) <;> rfl

/-! ### State.irqEvent -/

@[simp] theorem State.irqEvent_pending (s : State) (f v : Nat) : (s.irqEvent f v).pending = s.pending := by
  unfold State.irqEvent; (try dsimp only); (repeat' split) <;> first | rfl | simp
@[simp] theorem State.irqEvent_held (s : State) (f v : Nat) : (s.irqEvent f v).held = s.held := by
  unfold State.irqEvent; (try dsimp only); (repeat' split) <;> first | rfl | simp
@[simp] theorem State.irqEvent_freeCtr (s : State) (f v : Nat) : (s.irqEvent f v).freeCtr = s.freeCtr := by
  unfold State.irqEvent; (try dsimp only); (repeat' split) <;> first | rfl | simp
@[simp] theorem State.irqEvent_build (s : State) (f v : Nat) : (s.irqEvent f v).build = s.build := by
  unfold State.irqEvent; (try dsimp only); (repeat' split) <;> first | rfl | simp
@[simp] theorem State.irqEvent_clk (s : State) (f v : Nat) : (s.irqEvent f v).clk = s.clk := by
  unfold State.irqEvent; (try dsimp only); (repeat' split) <;> first | rfl | simp
@[simp] theorem State.irqEvent_grid (s : State) (f v : Nat) : (s.irqEvent f v).grid = s.grid := by
  unfold State.irqEvent; (try dsimp only); (repeat' split) <;> first | rfl | simp
@[simp] theorem State.irqEvent_stop (s : State) (f v : Nat) : (s.irqEvent f v).stop = s.stop := by
  unfold State.irqEvent; (try dsimp only); (repeat' split) <;> first | rfl | simp
@[simp] theorem State.irqEvent_cst (s : State) (f v : Nat) : (s.irqEvent f v).cst = s.cst := by
  unfold State.irqEvent; (try dsimp only); (repeat' split) <;> first | rfl | simp
@[simp] theorem State.irqEvent_pipe (s : State) (f v : Nat) : (s.irqEvent f v).pipe = s.pipe := by
  unfold State.irqEvent; (try dsimp only); (repeat' split) <;> first | rfl | simp
@[simp] theorem State.irqEvent_wel (s : State) (f v : Nat) : (s.irqEvent f v).wel = s.wel := by
  unfold State.irqEvent; (try dsimp only); (repeat' split) <;> first | rfl | simp
@[simp] theorem State.irqEvent_cul (s : State) (f v : Nat) : (s.irqEvent f v).cul = s.cul := by
  unfold State.irqEvent; (try dsimp only); (repeat' split) <;> first | rfl | simp
@[simp] theorem State.irqEvent_rst (s : State) (f v : Nat) : (s.irqEvent f v).rst = s.rst := by
  unfold State.irqEvent; (try dsimp only); (repeat' split) <;> first | rfl | simp
@[simp] theorem State.irqEvent_parts (s : State) (f v : Nat) : (s.irqEvent f v).parts = s.parts := by
  unfold State.irqEvent; (try dsimp only); (repeat' split) <;> first | rfl | simp
@[simp] theorem State.irqEvent_obs (s : State) (f v : Nat) : (s.irqEvent f v).obs = s.obs := by
  unfold State.irqEvent; (try dsimp only); (repeat' split) <;> first | rfl | simp
@[simp] theorem State.irqEvent_glink (s : State) (f v : Nat) : (s.irqEvent f v).glink = s.glink := by
  unfold State.irqEvent; (try dsimp only); (repeat' split) <;> first | rfl | simp
@[simp] theorem State.irqEvent_island (s : State) (f v : Nat) : (s.irqEvent f v).island = s.island := by
  unfold State.irqEvent; (try dsimp only); (repeat' split) <;> first | rfl | simp
@[simp] theorem State.irqEvent_pump (s : State) (f v : Nat) : (s.irqEvent f v).pump = s.pump := by
  unfold State.irqEvent; (try dsimp only); (repeat' split) <;> first | rfl | simp
@[simp] theorem State.irqEvent_fetchTurn (s : State) (f v : Nat) : (s.irqEvent f v).fetchTurn = s.fetchTurn := by
  unfold State.irqEvent; (try dsimp only); (repeat' split) <;> first | rfl | simp
@[simp] theorem State.irqEvent_holds (s : State) (f v : Nat) : (s.irqEvent f v).holds = s.holds := by
  unfold State.irqEvent; (try dsimp only); (repeat' split) <;> first | rfl | simp
@[simp] theorem State.irqEvent_start (s : State) (f v : Nat) : (s.irqEvent f v).start = s.start := by
  unfold State.irqEvent; (try dsimp only); (repeat' split) <;> first | rfl | simp

/-! ### State.cplWrite -/

@[simp] theorem State.cplWrite_pending (s : State) (f : Nat) (c : Cmd) (r : CplRec) : (s.cplWrite f c r).pending =
    s.pending := by
  unfold State.cplWrite; simp
@[simp] theorem State.cplWrite_held (s : State) (f : Nat) (c : Cmd) (r : CplRec) : (s.cplWrite f c r).held = s.held
    := by
  unfold State.cplWrite; simp
@[simp] theorem State.cplWrite_freeCtr (s : State) (f : Nat) (c : Cmd) (r : CplRec) : (s.cplWrite f c r).freeCtr =
    s.freeCtr := by
  unfold State.cplWrite; simp
@[simp] theorem State.cplWrite_build (s : State) (f : Nat) (c : Cmd) (r : CplRec) : (s.cplWrite f c r).build =
    s.build := by
  unfold State.cplWrite; simp
@[simp] theorem State.cplWrite_regs (s : State) (f : Nat) (c : Cmd) (r : CplRec) : (s.cplWrite f c r).regs = s.regs
    := by
  unfold State.cplWrite; simp
@[simp] theorem State.cplWrite_grid (s : State) (f : Nat) (c : Cmd) (r : CplRec) : (s.cplWrite f c r).grid = s.grid
    := by
  unfold State.cplWrite; simp
@[simp] theorem State.cplWrite_stop (s : State) (f : Nat) (c : Cmd) (r : CplRec) : (s.cplWrite f c r).stop = s.stop
    := by
  unfold State.cplWrite; simp
@[simp] theorem State.cplWrite_cst (s : State) (f : Nat) (c : Cmd) (r : CplRec) : (s.cplWrite f c r).cst = s.cst := by
  unfold State.cplWrite; simp
@[simp] theorem State.cplWrite_pipe (s : State) (f : Nat) (c : Cmd) (r : CplRec) : (s.cplWrite f c r).pipe = s.pipe
    := by
  unfold State.cplWrite; simp
@[simp] theorem State.cplWrite_wel (s : State) (f : Nat) (c : Cmd) (r : CplRec) : (s.cplWrite f c r).wel = s.wel := by
  unfold State.cplWrite; simp
@[simp] theorem State.cplWrite_cul (s : State) (f : Nat) (c : Cmd) (r : CplRec) : (s.cplWrite f c r).cul = s.cul := by
  unfold State.cplWrite; simp
@[simp] theorem State.cplWrite_rst (s : State) (f : Nat) (c : Cmd) (r : CplRec) : (s.cplWrite f c r).rst = s.rst := by
  unfold State.cplWrite; simp
@[simp] theorem State.cplWrite_parts (s : State) (f : Nat) (c : Cmd) (r : CplRec) : (s.cplWrite f c r).parts =
    s.parts := by
  unfold State.cplWrite; simp
@[simp] theorem State.cplWrite_obs (s : State) (f : Nat) (c : Cmd) (r : CplRec) : (s.cplWrite f c r).obs = s.obs := by
  unfold State.cplWrite; simp
@[simp] theorem State.cplWrite_glink (s : State) (f : Nat) (c : Cmd) (r : CplRec) : (s.cplWrite f c r).glink =
    s.glink := by
  unfold State.cplWrite; simp
@[simp] theorem State.cplWrite_island (s : State) (f : Nat) (c : Cmd) (r : CplRec) : (s.cplWrite f c r).island =
    s.island := by
  unfold State.cplWrite; simp
@[simp] theorem State.cplWrite_fetchTurn (s : State) (f : Nat) (c : Cmd) (r : CplRec) : (s.cplWrite f c r).fetchTurn
    = s.fetchTurn := by
  unfold State.cplWrite; simp
@[simp] theorem State.cplWrite_holds (s : State) (f : Nat) (c : Cmd) (r : CplRec) : (s.cplWrite f c r).holds =
    s.holds := by
  unfold State.cplWrite; simp
@[simp] theorem State.cplWrite_start (s : State) (f : Nat) (c : Cmd) (r : CplRec) : (s.cplWrite f c r).start = s.start
    := by
  unfold State.cplWrite; simp
@[simp] theorem State.cplWrite_fresh (s : State) (f : Nat) (c : Cmd) (r : CplRec) : (s.cplWrite f c r).fresh = s.fresh
    := by
  unfold State.cplWrite; simp

/-! ### State.setChan -/

@[simp] theorem State.setChan_pending (s : State) (c : Nat) (x : Chan) : (s.setChan c x).pending = s.pending := rfl
@[simp] theorem State.setChan_held (s : State) (c : Nat) (x : Chan) : (s.setChan c x).held = s.held := rfl
@[simp] theorem State.setChan_out (s : State) (c : Nat) (x : Chan) : (s.setChan c x).out = s.out := rfl
@[simp] theorem State.setChan_freeCtr (s : State) (c : Nat) (x : Chan) : (s.setChan c x).freeCtr = s.freeCtr := rfl
@[simp] theorem State.setChan_build (s : State) (c : Nat) (x : Chan) : (s.setChan c x).build = s.build := rfl
@[simp] theorem State.setChan_regs (s : State) (c : Nat) (x : Chan) : (s.setChan c x).regs = s.regs := rfl
@[simp] theorem State.setChan_clk (s : State) (c : Nat) (x : Chan) : (s.setChan c x).clk = s.clk := rfl
@[simp] theorem State.setChan_grid (s : State) (c : Nat) (x : Chan) : (s.setChan c x).grid = s.grid := rfl
@[simp] theorem State.setChan_stop (s : State) (c : Nat) (x : Chan) : (s.setChan c x).stop = s.stop := rfl
@[simp] theorem State.setChan_cst (s : State) (c : Nat) (x : Chan) : (s.setChan c x).cst = s.cst := rfl
@[simp] theorem State.setChan_pipe (s : State) (c : Nat) (x : Chan) : (s.setChan c x).pipe = s.pipe := rfl
@[simp] theorem State.setChan_wel (s : State) (c : Nat) (x : Chan) : (s.setChan c x).wel = s.wel := rfl
@[simp] theorem State.setChan_cul (s : State) (c : Nat) (x : Chan) : (s.setChan c x).cul = s.cul := rfl
@[simp] theorem State.setChan_rst (s : State) (c : Nat) (x : Chan) : (s.setChan c x).rst = s.rst := rfl
@[simp] theorem State.setChan_parts (s : State) (c : Nat) (x : Chan) : (s.setChan c x).parts = s.parts := rfl
@[simp] theorem State.setChan_fns (s : State) (c : Nat) (x : Chan) : (s.setChan c x).fns = s.fns := rfl
@[simp] theorem State.setChan_obs (s : State) (c : Nat) (x : Chan) : (s.setChan c x).obs = s.obs := rfl
@[simp] theorem State.setChan_glink (s : State) (c : Nat) (x : Chan) : (s.setChan c x).glink = s.glink := rfl
@[simp] theorem State.setChan_island (s : State) (c : Nat) (x : Chan) : (s.setChan c x).island = s.island := rfl
@[simp] theorem State.setChan_fetchTurn (s : State) (c : Nat) (x : Chan) : (s.setChan c x).fetchTurn = s.fetchTurn
    := rfl
@[simp] theorem State.setChan_holds (s : State) (c : Nat) (x : Chan) : (s.setChan c x).holds = s.holds := rfl
@[simp] theorem State.setChan_start (s : State) (c : Nat) (x : Chan) : (s.setChan c x).start = s.start := rfl
@[simp] theorem State.setChan_fresh (s : State) (c : Nat) (x : Chan) : (s.setChan c x).fresh = s.fresh := rfl

/-! ### State.modChan -/
@[simp] theorem State.modChan_pending (s : State) (c : Nat) (f : Chan → Chan) : (s.modChan c f).pending = s.pending
    := rfl
@[simp] theorem State.modChan_held (s : State) (c : Nat) (f : Chan → Chan) : (s.modChan c f).held = s.held := rfl
@[simp] theorem State.modChan_out (s : State) (c : Nat) (f : Chan → Chan) : (s.modChan c f).out = s.out := rfl
@[simp] theorem State.modChan_freeCtr (s : State) (c : Nat) (f : Chan → Chan) : (s.modChan c f).freeCtr = s.freeCtr
    := rfl
@[simp] theorem State.modChan_build (s : State) (c : Nat) (f : Chan → Chan) : (s.modChan c f).build = s.build := rfl
@[simp] theorem State.modChan_regs (s : State) (c : Nat) (f : Chan → Chan) : (s.modChan c f).regs = s.regs := rfl
@[simp] theorem State.modChan_clk (s : State) (c : Nat) (f : Chan → Chan) : (s.modChan c f).clk = s.clk := rfl
@[simp] theorem State.modChan_grid (s : State) (c : Nat) (f : Chan → Chan) : (s.modChan c f).grid = s.grid := rfl
@[simp] theorem State.modChan_stop (s : State) (c : Nat) (f : Chan → Chan) : (s.modChan c f).stop = s.stop := rfl
@[simp] theorem State.modChan_cst (s : State) (c : Nat) (f : Chan → Chan) : (s.modChan c f).cst = s.cst := rfl
@[simp] theorem State.modChan_pipe (s : State) (c : Nat) (f : Chan → Chan) : (s.modChan c f).pipe = s.pipe := rfl
@[simp] theorem State.modChan_wel (s : State) (c : Nat) (f : Chan → Chan) : (s.modChan c f).wel = s.wel := rfl
@[simp] theorem State.modChan_cul (s : State) (c : Nat) (f : Chan → Chan) : (s.modChan c f).cul = s.cul := rfl
@[simp] theorem State.modChan_rst (s : State) (c : Nat) (f : Chan → Chan) : (s.modChan c f).rst = s.rst := rfl
@[simp] theorem State.modChan_parts (s : State) (c : Nat) (f : Chan → Chan) : (s.modChan c f).parts = s.parts := rfl
@[simp] theorem State.modChan_fns (s : State) (c : Nat) (f : Chan → Chan) : (s.modChan c f).fns = s.fns := rfl
@[simp] theorem State.modChan_obs (s : State) (c : Nat) (f : Chan → Chan) : (s.modChan c f).obs = s.obs := rfl
@[simp] theorem State.modChan_glink (s : State) (c : Nat) (f : Chan → Chan) : (s.modChan c f).glink = s.glink := rfl
@[simp] theorem State.modChan_island (s : State) (c : Nat) (f : Chan → Chan) : (s.modChan c f).island = s.island :=
    rfl
@[simp] theorem State.modChan_fetchTurn (s : State) (c : Nat) (f : Chan → Chan) : (s.modChan c f).fetchTurn =
    s.fetchTurn := rfl
@[simp] theorem State.modChan_holds (s : State) (c : Nat) (f : Chan → Chan) : (s.modChan c f).holds = s.holds := rfl
@[simp] theorem State.modChan_start (s : State) (c : Nat) (f : Chan → Chan) : (s.modChan c f).start = s.start := rfl
@[simp] theorem State.modChan_fresh (s : State) (c : Nat) (f : Chan → Chan) : (s.modChan c f).fresh = s.fresh := rfl

end Sys2Proof.Machine
end

