-- ==== Sys2Proof/Laws/Accounts.lean ====
section
/-! SUPPORT. What the accounting of an answer may change, and that a calm block settles at once. -/

namespace Sys2Proof.Machine

/-! ## Accounts -/

theorem Accounts.refl (s : State) : Accounts s s := ⟨rfl, id, id, fun h => ⟨h, fun _ _ => rfl⟩⟩

theorem Accounts.trans {s t u : State} (a : Accounts s t) (b : Accounts t u) : Accounts s u := by
  refine ⟨?_, fun h => b.obs (a.obs h), fun h => b.glink (a.glink h), fun w => ?_⟩
  · have h1 := a.rest
    have h2 := b.rest
    rw [h1] at h2
    exact h2
  · have x := a.regs w
    have y := b.regs x.1
    exact ⟨y.1, fun off h => (y.2 off h).trans (x.2 off h)⟩

/-- What does not touch registers, and nothing else but outputs, counters and usage, is accounting. -/
theorem Accounts.of {s : State} (out : List Out) {obs : Obs} {gl : GLink} (ho : s.obs.Wf → obs.Wf) (hg : s.glink.Wf → gl.Wf) :
    Accounts s { s with out := out, obs := obs, glink := gl } := ⟨rfl, ho, hg, fun h => ⟨h, fun _ _ => rfl⟩⟩

theorem State.reg_setReg_ne {s : State} (w : regsWf s.regs = true) {off k : Nat} (v : Nat) (h : off ≠ k) :
    (s.setReg k v).reg off = s.reg off := by
  unfold State.setReg State.reg
  rw [tget_tset_ne _ _ _ _ _ _ h]
  simp only [regsWf, Bool.and_eq_true] at w
  exact tsorted_iff_pairwise.1 w.1

/-- Accounting that presents nothing. -/
def Books (s t : State) : Prop := Accounts s t ∧ t.out = s.out

theorem Books.refl (s : State) : Books s s := ⟨.refl s, rfl⟩
theorem Books.trans {s t u : State} (a : Books s t) (b : Books t u) : Books s u := ⟨a.1.trans b.1, b.2.trans a.2⟩
theorem Books.of {s : State} {obs : Obs} {gl : GLink} (ho : s.obs.Wf → obs.Wf) (hg : s.glink.Wf → gl.Wf) :
    Books s { s with obs := obs, glink := gl } := ⟨Accounts.of (s := s) s.out ho hg, rfl⟩

theorem State.setReg_books (s : State) (k v : Nat) (h : acctReg k) : Books s (s.setReg k v) :=
  ⟨⟨rfl, id, id, fun w => ⟨regsWf_tset _ _ w, fun _ hn => State.reg_setReg_ne w v (fun e => hn (e ▸ h))⟩⟩, rfl⟩

theorem State.setFld_books (s : State) (k hi lo v : Nat) (h : acctReg k) : Books s (s.setFld k hi lo v) :=
  s.setReg_books k _ h

theorem State.setFlag_books (s : State) (k i : Nat) (b : Bool) (h : acctReg k) : Books s (s.setFlag k i b) :=
  ⟨⟨rfl, id, id, (s.setFld_books k i i (bit b) h).1.regs⟩, rfl⟩

theorem State.bump_books (s : State) (k n : Nat) (h : acctReg k) : Books s (s.bump k n) := s.setReg_books k _ h

theorem State.setSump_books (s : State) (i : Nat) (x : Sump) : Books s (s.setSump i x) :=
  .of (fun h => ⟨twf_tset _ _ h.1, h.2⟩) id

theorem State.sumpLose_books (s : State) (i : Nat) : Books s (s.sumpLose i) := by
  have h : Books s ((s.setSump i { tget {} s.obs.sumps i with loss := (tget {} s.obs.sumps i).loss + 1 }).bump
      (R.obsSlostCnt i) 1) :=
    (s.setSump_books i _).trans (State.bump_books _ _ _ (.inr (.inr ⟨i, rfl⟩)))
  unfold State.sumpLose
  dsimp only
  split
  · exact h.trans (State.bump_books _ _ _ (.inr (.inl rfl)))
  · exact h

theorem State.sumpPut_books (s : State) (i r : Nat) : Books s (s.sumpPut i r) := by
  unfold State.sumpPut
  split
  · exact s.setSump_books i _
  · exact s.sumpLose_books i

theorem State.sumpRecord_books (s : State) (i r : Nat) : Books s (s.sumpRecord i r) := by
  unfold State.sumpRecord
  split
  · split
    · exact s.sumpPut_books i r
    · exact (s.setSump_books i _).trans (State.sumpPut_books _ i _)
  · exact s.sumpLose_books i

theorem State.trace_books (s : State) (t : Trace) : Books s (s.trace t) := by
  unfold State.trace
  split
  · exact s.sumpRecord_books _ _
  · exact .refl s

theorem State.count_books (s : State) (e : Evt) : Books s (s.count e) := by
  unfold State.count
  split
  · exact .refl s
  · exact .of (fun h => h) id

theorem State.usage_books (s : State) (p : Nat) (u : Usage) (n : Nat) : Books s (s.usage p u n) := by
  unfold State.usage
  dsimp only
  split
  · refine .of id ?_
    simp only [GLink.wf_iff]
    exact twf_tset _ _
  · refine Books.trans ?_ (State.setFlag_books _ _ _ _ (.inl rfl))
    refine .of id ?_
    simp only [GLink.wf_iff]
    exact twf_tset _ _

theorem Books.ite {s a b : State} {c : Prop} [Decidable c] (ha : Books s a) (hb : Books s b) :
    Books s (if c then a else b) := by split <;> assumption

/-- What an operation adds to counters, usage and trace is accounting. -/
theorem State.bill_books (s : State) (o : BankOp) (r : BankRsp) (a : Bool) (e : Cistern) (rm : Nat) :
    Books s (s.bill o r a e rm) := by
  unfold State.bill
  extract_lets issued reduce s1 s2
  have h1 : Books s s1 := Books.ite (s.count_books _) (.refl s)
  have h2 : Books s s2 := h1.trans (Books.ite (.refl _) (State.count_books _ _))
  split
  · exact h2
  · rename_i p _
    extract_lets s3 s4
    have h3 : Books s2 s3 := Books.ite (State.usage_books _ _ _ _) (.refl _)
    have h4 : Books s3 s4 := Books.ite (State.usage_books _ _ _ _) (.refl _)
    exact h2.trans (h3.trans (h4.trans (Books.ite (State.trace_books _ _) (.refl _))))

/-! ## A calm block -/

theorem State.noticeAll_calm {s : State} (h : s.wel.notices = []) : s.noticeAll = s := by
  unfold State.noticeAll
  simp [h]

theorem State.lateReady_calm {s : State} (h : s.parts.all (fun e => !e.2.late) = true) : s.lateReady = none := by
  have h' : ∀ e ∈ s.parts, e.2.late = false := by simpa using h
  unfold State.lateReady
  have : s.parts.find? (fun e => e.2.late && !e.2.sent && e.2.begun && s.workDone e.1) = none := by
    rw [List.find?_eq_none]
    intro e he
    simp [h' e he]
  rw [this]; rfl

/-- A calm block settles at once. -/
theorem State.settle_calm {s : State} (h : s.Calm) : s.settle = s := by
  have hs : s.settleStep = none := by
    unfold State.settleStep State.holdStep
    simp [h.done, h.next, h.hold, h.fills, State.lateReady_calm h.late]
  have hn : s.settleN 4096 = s := by unfold State.settleN; rw [hs]
  unfold State.settle
  rw [hn, State.noticeAll_calm h.notices]

/-- Accounting keeps the invariant. -/
theorem State.Inv.accounts {s t : State} (h : s.Inv) (a : Accounts s t) : t.Inv := by
  have e := a.rest
  have ho := a.obs h.obs
  have hg := a.glink h.glink
  have hr := (a.regs h.regs).1
  rw [e] at ho hg hr ⊢
  exact ⟨hr, h.cst, h.wel, h.rst, h.pipe, h.cul, h.pump, ho, hg, h.parts, h.fns, h.holds⟩

/-- Accounting leaves a calm block calm. -/
theorem State.Calm.accounts {s t : State} (h : s.Calm) (a : Accounts s t) : t.Calm := by
  have hi := h.inv.accounts a
  have e := a.rest
  rw [e] at hi ⊢
  exact ⟨hi, h.done, h.next, h.hold, h.fills, h.late, h.notices, h.room, h.snap⟩

theorem tget_mem {α : Type} (d : α) (t : Tab α) (k : Nat) : tget d t k = d ∨ (k, tget d t k) ∈ t := by
  induction t with
  | nil => exact .inl rfl
  | cons e t ih =>
    unfold tget
    split
    · rename_i h; subst h; exact .inr (List.mem_cons_self ..)
    · split
      · exact .inl rfl
      · exact ih.imp id (List.mem_cons_of_mem _)

theorem State.prt_snap_calm {s : State} (h : s.parts.all (fun e => e.2.snap.isNone) = true) (p : Nat) :
    (s.prt p).snap = none := by
  have h' : ∀ e ∈ s.parts, e.2.snap = none := by simpa using h
  unfold State.prt
  rcases tget_mem {} s.parts p with he | he
  · rw [he]
  · exact h' _ he

/-- Without a snapshot under way, a write to the store copies nothing first. -/
theorem State.cow_calm {s : State} (h : s.Calm) (p cls idx : Nat) : s.cow p cls idx = s := by
  unfold State.cow
  rw [State.prt_snap_calm h.snap]

theorem State.setEntry_calm {s : State} (h : s.Calm) (n : Nat) (e : Cistern) :
    s.setEntry n e = { s with cst := { s.cst with ent := tset {} s.cst.ent n e } } := by
  unfold State.setEntry
  dsimp only
  split
  · rw [State.cow_calm h]
  · rfl

/-! ## A request of the control network -/

theorem State.cnpGate_ready {s : State} (h : s.Ready) (i : Instr) {q : CnpReq} (code : q.code = none) (opc : Nat)
    (pay : Payload) : s.cnpGate i q opc pay = .next (s.cnp q opc pay).settle := by
  unfold State.cnpGate State.asleep reqCode
  simp [h.up, h.kst, h.lostC, h.served, code]

/-- The request leaves its buffer: the state with its credits returned. -/
def State.accepted (s : State) (q : CnpReq) (opc : Nat) : State :=
  { s with out := s.out ++ [.cnCred q.attach.toNat (reqFlits opc)] }

/-- A well-formed request of a partition's master is issued at its bank. -/
theorem State.cnp_issue {s : State} {q : CnpReq} {opc : Nat} {pay : Payload} (form : reqBad q opc = false)
    (part : (s.reqPart q).isSome = true) (space : q.space = 0 ∨ q.space = 1 ∨ q.space = 2)
    (window : ∀ p, s.reqPart q = some p → q.space = 0 → s.proxyOf p q.index.toNat = (none, false))
    (op : q.space = 0 → opc ≠ Op.poll) :
    s.cnp q opc pay = (s.accepted q opc).issue (s.reqOp q opc pay) := by
  obtain ⟨p, hp⟩ := Option.isSome_iff_exists.1 part
  have he : s.emit (.cnCred q.attach.toNat (reqFlits opc)) = s.accepted q opc := rfl
  have ho : (s.accepted q opc).reqOp q opc pay = s.reqOp q opc pay := rfl
  have hq : (s.reqOp q opc pay).part = some p := hp
  have hs : (s.reqOp q opc pay).space = q.space.toNat := rfl
  have hi : (s.reqOp q opc pay).index = q.index.toNat := rfl
  have hc : (s.reqOp q opc pay).opc = opc := rfl
  have hw : (s.accepted q opc).proxyOf p q.index.toNat = s.proxyOf p q.index.toNat := rfl
  unfold State.cnp State.submit
  simp only [he, ho, form, hq, hs, hi, hc, hw, Bool.false_eq_true, if_false, Option.isNone_some]
  rcases space with h | h | h
  · simp [h, op h, window p hp h]
  · simp [h]
  · simp [h]

theorem State.bankOver_eq {s t : State} (k : Nat) (room : t.pipe.notices.length ≤ 1024) (buf : t.bufBlocks k ≤ 8) :
    s.bankOver t k = false := by
  unfold State.bankOver
  simp [Nat.not_lt.2 room, Nat.not_lt.2 buf]

/-- Work at a bank that holds none, and that fits, is done. -/
theorem State.tryBank_run {s : State} (h : s.cst.hold = []) (w : BankWork) (f : State → State)
    (room : (f (s.cycles (workCycles w))).pipe.notices.length ≤ 1024)
    (buf : (f (s.cycles (workCycles w))).bufBlocks (s.workBank w) ≤ 8) :
    s.tryBank w f = f (s.cycles (workCycles w)) := by
  have hb : s.bankHeld (s.workBank w) = false := by unfold State.bankHeld; simp [h]
  unfold State.tryBank
  simp [hb, State.bankOver_eq _ room buf]

theorem State.issue_run {s : State} (h : s.cst.hold = []) {o : BankOp} (at_bank : s.atUnit o = false)
    (room : (s.run o).pipe.notices.length ≤ 1024) (buf : (s.run o).bufBlocks (s.opBank o) ≤ 8) : s.issue o = s.run o := by
  have hz : s.cycles (workCycles (.op o)) = s := by unfold State.cycles State.count workCycles; simp
  unfold State.issue
  rw [at_bank, if_neg (by simp)]
  have := State.tryBank_run h (.op o) (fun s => s.run o)
  rw [hz] at this
  exact this room buf

/-- The answer of a request of the control network: accounting, and its response. -/
theorem State.answer_cnp {u : State} (o : BankOp) (r : BankRsp) (a : Bool) (e : Cistern) (rm : Nat)
    {p t d : Nat} {w : Bool} (ho : o.origin = .cnp p t d w) :
    ∃ v, Accounts u v ∧ v.out = u.out ∧ u.answer o r a e rm = if w then v.emit (.cnp p d (r.flit t)) else v := by
  have hb : Books u ((u.bankCycle o).bill o r a e rm) := (u.count_books _).trans (State.bill_books _ _ _ _ _ _)
  refine ⟨_, hb.1, hb.2, ?_⟩
  unfold State.answer State.deliver
  rw [ho]

/-- A response with cclk running goes out at a credit or waits for one. -/
theorem State.responds_eq {u : State} (lost : u.clk.lostC = false) (q : CnpReq) (r : BankRsp) :
    u.responds q r = if q.resp then u.emit (.cnp q.attach.toNat q.master.toNat (r.flit q.tag.toNat)) else u := by
  unfold State.responds State.emit
  cases q.resp <;> simp [lost]

/-- A response leaves a calm block calm. -/
theorem State.Calm.responds {u : State} (h : u.Calm) (q : CnpReq) (r : BankRsp) : (u.responds q r).Calm := by
  have hi : (u.responds q r).Inv := by
    have i := h.inv
    unfold State.responds
    dsimp only
    (repeat' split) <;> exact ⟨i.regs, i.cst, i.wel, i.rst, i.pipe, i.cul, i.pump, i.obs, i.glink, i.parts, i.fns, i.holds⟩
  unfold State.responds at hi ⊢
  dsimp only at hi ⊢
  (repeat' split) <;> rename_i hs <;> first
    | exact h
    | (simp only [*, if_false, if_true, reduceCtorEq] at hi
       exact ⟨hi, h.done, h.next, h.hold, h.fills, h.late, h.notices, h.room, h.snap⟩)

/-- With no snapshot under way, no buffer holds a block. -/
theorem State.bufBlocks_none {s : State} (h : s.parts.all (fun e => e.2.snap.isNone) = true) (k : Nat) : s.bufBlocks k = 0 := by
  have h' : ∀ e ∈ s.parts, e.2.snap = none := by simpa using h
  unfold State.bufBlocks
  rw [List.sum_eq_zero]
  intro x hx
  obtain ⟨e, he, rfl⟩ := List.mem_map.1 hx
  simp [h' e he]

end Sys2Proof.Machine
end

