-- ==== Sys2Proof/Laws/EvolvesOps.lean ====
section
/-! SUPPORT. What the shared operations, the links, the leaves and the words of the banks do to a state: the build and the queue stay, and the invariant is kept. -/

namespace Sys2Proof.Machine

/-! ## Ops.lean -/

theorem State.setReg_evolves {s0 s : State} (ev : Evolves s0 s) (off v : Nat) : Evolves s0 (State.setReg s off v) :=
    by
  unfold State.setReg
  try dsimp only
  simp +contextual (maxDischargeDepth := 99) only [↓ev, ↓Evolves.update, implies_true, eq_self, Cst.wf_iff,
      Wel.wf_iff, Rst.wf_iff, Pipe.wf_iff, Cul.wf_iff, Pump.wf_iff, Obs.wf_iff, GLink.wf_iff, regsWf_tset, and_self]

theorem State.setFld_evolves {s0 s : State} (ev : Evolves s0 s) (off hi lo v : Nat) : Evolves s0 (State.setFld s off
    hi lo v) := by
  unfold State.setFld
  try dsimp only
  simp +contextual (maxDischargeDepth := 99) only [↓ev, ↓State.setReg_evolves]

theorem State.setFlag_evolves {s0 s : State} (ev : Evolves s0 s) (off i : Nat) (b : Bool) : Evolves s0
    (State.setFlag s off i b) := by
  unfold State.setFlag
  try dsimp only
  simp +contextual (maxDischargeDepth := 99) only [↓ev, ↓Evolves.update, implies_true, eq_self, Cst.wf_iff,
      Wel.wf_iff, Rst.wf_iff, Pipe.wf_iff, Cul.wf_iff, Pump.wf_iff, Obs.wf_iff, GLink.wf_iff, and_self,
      ↓State.setFld_evolves]

theorem State.beginCycle_evolves {s0 s : State} (ev : Evolves s0 s) : Evolves s0 (State.beginCycle s) := by
  unfold State.beginCycle
  try dsimp only
  simp +contextual (maxDischargeDepth := 99) only [↓ev, ↓Evolves.update, implies_true, eq_self, Cst.wf_iff,
      Wel.wf_iff, Rst.wf_iff, Pipe.wf_iff, Cul.wf_iff, Pump.wf_iff, Obs.wf_iff, GLink.wf_iff, and_self]

theorem State.bump_evolves {s0 s : State} (ev : Evolves s0 s) (off n : Nat) : Evolves s0 (State.bump s off n) := by
  unfold State.bump
  try dsimp only
  simp +contextual (maxDischargeDepth := 99) only [↓ev, ↓State.setReg_evolves]

theorem State.setPair_evolves {s0 s : State} (ev : Evolves s0 s) (off v : Nat) : Evolves s0 (State.setPair s off v)
    := by
  unfold State.setPair
  try dsimp only
  simp +contextual (maxDischargeDepth := 99) only [↓ev, ↓State.setReg_evolves]

theorem State.emit_evolves {s0 s : State} (ev : Evolves s0 s) (o : Out) : Evolves s0 (State.emit s o) := by
  unfold State.emit
  have hm : Evolves s0 (if s.clk.lostM = true then { s with clk := { s.clk with waitM := s.clk.waitM ++ [o] } }
      else { s with out := s.out ++ [o] }) := by
    split <;> exact ev.update id id id id id id id id id id id id
  dsimp only
  split
  · exact hm
  · exact hm
  · split <;> exact ev.update id id id id id id id id id id id id
  · exact ev.update id id id id id id id id id id id id

theorem State.sendRsps_evolves {s0 s : State} (ev : Evolves s0 s) : Evolves s0 (State.sendRsps s) := by
  unfold State.sendRsps
  try dsimp only
  simp +contextual (maxDischargeDepth := 99) only [↓ev, ↓Evolves.update, ↓Evolves.foldl, implies_true, eq_self,
      Cst.wf_iff, Wel.wf_iff, Rst.wf_iff, Pipe.wf_iff, Cul.wf_iff, Pump.wf_iff, Obs.wf_iff, GLink.wf_iff, and_self,
      ↓State.emit_evolves]

theorem State.rspCredits_evolves {s0 s : State} (ev : Evolves s0 s) : Evolves s0 (State.rspCredits s) := by
  unfold State.rspCredits
  try dsimp only
  simp +contextual (maxDischargeDepth := 99) only [↓ev, ↓Evolves.update, implies_true, eq_self, Cst.wf_iff,
      Wel.wf_iff, Rst.wf_iff, Pipe.wf_iff, Cul.wf_iff, Pump.wf_iff, Obs.wf_iff, GLink.wf_iff, and_self,
      ↓State.sendRsps_evolves]

theorem State.nextFree_evolves {s0 s : State} (ev : Evolves s0 s) : Evolves s0 (State.nextFree s) := by
  unfold State.nextFree
  try dsimp only
  simp +contextual (maxDischargeDepth := 99) only [↓ev, ↓Evolves.update, implies_true, eq_self, Cst.wf_iff,
      Wel.wf_iff, Rst.wf_iff, Pipe.wf_iff, Cul.wf_iff, Pump.wf_iff, Obs.wf_iff, GLink.wf_iff, and_self]

theorem State.setPrt_evolves {s0 s : State} (ev : Evolves s0 s) (p : Nat) (x : PartRt) : Evolves s0 (State.setPrt s
    p x) := by
  unfold State.setPrt
  try dsimp only
  simp +contextual (maxDischargeDepth := 99) only [↓ev, ↓Evolves.update, implies_true, eq_self, Cst.wf_iff,
      Wel.wf_iff, Rst.wf_iff, Pipe.wf_iff, Cul.wf_iff, Pump.wf_iff, Obs.wf_iff, GLink.wf_iff, twf_tset, and_self]

theorem State.modPrt_evolves {s0 s : State} (ev : Evolves s0 s) (p : Nat) (f : PartRt → PartRt) : Evolves s0
    (State.modPrt s p f) := by
  unfold State.modPrt
  try dsimp only
  simp +contextual (maxDischargeDepth := 99) only [↓ev, ↓State.setPrt_evolves]

theorem State.setFn_evolves {s0 s : State} (ev : Evolves s0 s) (f : Nat) (x : Fn) : Evolves s0 (State.setFn s f x)
    := by
  unfold State.setFn
  try dsimp only
  simp +contextual (maxDischargeDepth := 99) only [↓ev, ↓Evolves.update, implies_true, eq_self, Cst.wf_iff,
      Wel.wf_iff, Rst.wf_iff, Pipe.wf_iff, Cul.wf_iff, Pump.wf_iff, Obs.wf_iff, GLink.wf_iff, twf_tset, and_self]

theorem State.modFn_evolves {s0 s : State} (ev : Evolves s0 s) (f : Nat) (g : Fn → Fn) : Evolves s0 (State.modFn s f
    g) := by
  unfold State.modFn
  try dsimp only
  simp +contextual (maxDischargeDepth := 99) only [↓ev, ↓State.setFn_evolves]

theorem State.memIssue_evolves {s0 s : State} (ev : Evolves s0 s) (t : MemTxn) : Evolves s0 (State.memIssue s t) := by
  unfold State.memIssue
  try dsimp only
  simp +contextual (maxDischargeDepth := 99) only [↓ev, ↓Evolves.ite, ↓Evolves.update, implies_true, eq_self,
      Cst.wf_iff, Wel.wf_iff, Rst.wf_iff, Pipe.wf_iff, Cul.wf_iff, Pump.wf_iff, Obs.wf_iff, GLink.wf_iff, and_self,
      ↓State.emit_evolves]

theorem State.memGo_evolves {s0 s : State} (ev : Evolves s0 s) (m0 : Nat) : Evolves s0 (State.memGo s m0) := by
  induction m0 generalizing s with
  | zero => exact ev
  | succ m ih =>
    unfold State.memGo; (try dsimp only)
    (repeat' split) <;> simp +contextual (maxDischargeDepth := 99) only [↓ih, ↓ev, ↓Evolves.update, implies_true,
        eq_self, Cst.wf_iff, Wel.wf_iff, Rst.wf_iff, Pipe.wf_iff, Cul.wf_iff, Pump.wf_iff, Obs.wf_iff, GLink.wf_iff,
        and_self, ↓State.memIssue_evolves]

theorem State.memFlush_evolves {s0 s : State} (ev : Evolves s0 s) : Evolves s0 (State.memFlush s) := by
  unfold State.memFlush
  try dsimp only
  simp +contextual (maxDischargeDepth := 99) only [↓ev, ↓State.memGo_evolves]

theorem State.memPut_evolves {s0 s : State} (ev : Evolves s0 s) (t : MemTxn) : Evolves s0 (State.memPut s t) := by
  unfold State.memPut
  try dsimp only
  simp +contextual (maxDischargeDepth := 99) only [↓ev, ↓Evolves.ite, ↓Evolves.update, implies_true, eq_self,
      Cst.wf_iff, Wel.wf_iff, Rst.wf_iff, Pipe.wf_iff, Cul.wf_iff, Pump.wf_iff, Obs.wf_iff, GLink.wf_iff, and_self,
      ↓State.memFlush_evolves, ↓State.memIssue_evolves]

theorem State.memWr_evolves {s0 s : State} (ev : Evolves s0 s) (who : MemWho) (addr len data : Nat) (host : Option
    Nat) : Evolves s0 (State.memWr s who addr len data host) := by
  unfold State.memWr
  try dsimp only
  simp +contextual (maxDischargeDepth := 99) only [↓ev, ↓State.memPut_evolves]

theorem State.memRd_evolves {s0 s : State} (ev : Evolves s0 s) (who : MemWho) (addr len : Nat) (host : Option Nat) :
    Evolves s0 (State.memRd s who addr len host) := by
  unfold State.memRd
  try dsimp only
  simp +contextual (maxDischargeDepth := 99) only [↓ev, ↓State.memPut_evolves]

theorem State.memAck_evolves {s0 s : State} (ev : Evolves s0 s) (who : MemWho) : Evolves s0 (State.memAck s who) := by
  unfold State.memAck
  try dsimp only
  simp +contextual (maxDischargeDepth := 99) only [↓ev, ↓Evolves.update, implies_true, eq_self, Cst.wf_iff,
      Wel.wf_iff, Rst.wf_iff, Pipe.wf_iff, Cul.wf_iff, Pump.wf_iff, Obs.wf_iff, GLink.wf_iff, and_self,
      ↓State.memFlush_evolves]

theorem State.memAckAt_evolves {s0 s : State} (ev : Evolves s0 s) (who : MemWho) (addr len : Nat) : Evolves s0
    (State.memAckAt s who addr len) := by
  unfold State.memAckAt
  try dsimp only
  simp +contextual (maxDischargeDepth := 99) only [↓ev, ↓Evolves.update, implies_true, eq_self, Cst.wf_iff,
      Wel.wf_iff, Rst.wf_iff, Pipe.wf_iff, Cul.wf_iff, Pump.wf_iff, Obs.wf_iff, GLink.wf_iff, and_self,
      ↓State.memFlush_evolves]

theorem State.memGot_evolves {s0 s : State} (ev : Evolves s0 s) (who : MemWho) : Evolves s0 (State.memGot s who) := by
  unfold State.memGot
  try dsimp only
  simp +contextual (maxDischargeDepth := 99) only [↓ev, ↓Evolves.update, implies_true, eq_self, Cst.wf_iff,
      Wel.wf_iff, Rst.wf_iff, Pipe.wf_iff, Cul.wf_iff, Pump.wf_iff, Obs.wf_iff, GLink.wf_iff, and_self,
      ↓State.memFlush_evolves]

theorem State.memGotAll_evolves {s0 s : State} (ev : Evolves s0 s) (who : MemWho) : Evolves s0 (State.memGotAll s
    who) := by
  unfold State.memGotAll
  try dsimp only
  simp +contextual (maxDischargeDepth := 99) only [↓ev, ↓Evolves.update, ↓Evolves.foldl, implies_true, eq_self,
      Cst.wf_iff, Wel.wf_iff, Rst.wf_iff, Pipe.wf_iff, Cul.wf_iff, Pump.wf_iff, Obs.wf_iff, GLink.wf_iff, and_self,
      ↓State.emit_evolves, ↓State.memFlush_evolves]

theorem State.usage_evolves {s0 s : State} (ev : Evolves s0 s) (p : Nat) (u : Usage) (n : Nat) : Evolves s0
    (State.usage s p u n) := by
  unfold State.usage
  try dsimp only
  simp +contextual (maxDischargeDepth := 99) only [↓ev, ↓Evolves.ite, ↓Evolves.update, implies_true, eq_self,
      Cst.wf_iff, Wel.wf_iff, Rst.wf_iff, Pipe.wf_iff, Cul.wf_iff, Pump.wf_iff, Obs.wf_iff, GLink.wf_iff, twf_tset,
      and_self, ↓State.setFlag_evolves]

theorem State.setSump_evolves {s0 s : State} (ev : Evolves s0 s) (i : Nat) (x : Sump) : Evolves s0 (State.setSump s
    i x) := by
  unfold State.setSump
  try dsimp only
  simp +contextual (maxDischargeDepth := 99) only [↓ev, ↓Evolves.update, implies_true, eq_self, Cst.wf_iff,
      Wel.wf_iff, Rst.wf_iff, Pipe.wf_iff, Cul.wf_iff, Pump.wf_iff, Obs.wf_iff, GLink.wf_iff, twf_tset, and_self]

theorem State.sumpLose_evolves {s0 s : State} (ev : Evolves s0 s) (i : Nat) : Evolves s0 (State.sumpLose s i) := by
  unfold State.sumpLose
  try dsimp only
  simp +contextual (maxDischargeDepth := 99) only [↓ev, ↓Evolves.ite, ↓State.bump_evolves, ↓State.setSump_evolves]

theorem State.sumpPut_evolves {s0 s : State} (ev : Evolves s0 s) (i : Nat) (r : Nat) : Evolves s0 (State.sumpPut s i
    r) := by
  unfold State.sumpPut
  try dsimp only
  simp +contextual (maxDischargeDepth := 99) only [↓ev, ↓Evolves.ite, ↓State.setSump_evolves, ↓State.sumpLose_evolves]

theorem State.sumpCarried_evolves {s0 s : State} (ev : Evolves s0 s) (i : Nat) : Evolves s0 (State.sumpCarried s i)
    := by
  unfold State.sumpCarried
  try dsimp only
  simp +contextual (maxDischargeDepth := 99) only [↓ev, ↓State.setSump_evolves]

theorem State.sumpRecord_evolves {s0 s : State} (ev : Evolves s0 s) (i : Nat) (r : Nat) : Evolves s0
    (State.sumpRecord s i r) := by
  unfold State.sumpRecord
  try dsimp only
  simp +contextual (maxDischargeDepth := 99) only [↓ev, ↓Evolves.ite, ↓State.sumpCarried_evolves,
      ↓State.sumpLose_evolves, ↓State.sumpPut_evolves]

theorem State.ao_evolves {s0 s : State} (ev : Evolves s0 s) (r : AoRec) : Evolves s0 (State.ao s r) := by
  unfold State.ao
  try dsimp only
  simp +contextual (maxDischargeDepth := 99) only [↓ev, ↓Evolves.ite, ↓State.sumpCarried_evolves,
      ↓State.sumpLose_evolves, ↓State.sumpPut_evolves]

theorem State.aoFaultCounts_evolves {s0 s : State} (ev : Evolves s0 s) (r : FaultRec) : Evolves s0
    (State.aoFaultCounts s r) := by
  unfold State.aoFaultCounts
  try dsimp only
  simp +contextual (maxDischargeDepth := 99) only [↓ev, ↓Evolves.ite, ↓State.bump_evolves]

theorem State.faultIssue_evolves {s0 s : State} (ev : Evolves s0 s) (p : Nat) : Evolves s0 (State.faultIssue s p) :=
    by
  unfold State.faultIssue
  try dsimp only
  (repeat' split) <;> simp +contextual (maxDischargeDepth := 99) only [↓ev, ↓State.memWr_evolves]

theorem State.fault_evolves {s0 s : State} (ev : Evolves s0 s) (p : Nat) (r : FaultRec) : Evolves s0 (State.fault s
    p r) := by
  unfold State.fault
  try dsimp only
  simp +contextual (maxDischargeDepth := 99) only [↓ev, ↓Evolves.ite, ↓State.aoFaultCounts_evolves,
      ↓State.ao_evolves, ↓State.bump_evolves, ↓State.faultIssue_evolves, ↓State.modPrt_evolves]

theorem State.event_evolves {s0 s : State} (ev : Evolves s0 s) (p : Nat) (r : FaultRec) : Evolves s0 (State.event s
    p r) := by
  unfold State.event
  try dsimp only
  simp +contextual (maxDischargeDepth := 99) only [↓ev, ↓Evolves.ite, ↓State.bump_evolves, ↓State.fault_evolves,
      ↓State.modPrt_evolves]

theorem State.summaries_evolves {s0 s : State} (ev : Evolves s0 s) (p : Nat) : Evolves s0 (State.summaries s p) := by
  unfold State.summaries
  try dsimp only
  simp +contextual (maxDischargeDepth := 99) only [↓ev, ↓Evolves.foldl, implies_true, ↓State.fault_evolves,
      ↓State.modPrt_evolves]

theorem State.cfgLocked_evolves {s0 s : State} (ev : Evolves s0 s) (p unit off : Nat) : Evolves s0 (State.cfgLocked
    s p unit off) := by
  unfold State.cfgLocked
  try dsimp only
  simp +contextual (maxDischargeDepth := 99) only [↓ev, ↓State.bump_evolves, ↓State.event_evolves]

theorem State.count_evolves {s0 s : State} (ev : Evolves s0 s) (e : Evt) : Evolves s0 (State.count s e) := by
  unfold State.count
  try dsimp only
  simp +contextual (maxDischargeDepth := 99) only [↓ev, ↓Evolves.ite, ↓Evolves.update, implies_true, eq_self,
      Cst.wf_iff, Wel.wf_iff, Rst.wf_iff, Pipe.wf_iff, Cul.wf_iff, Pump.wf_iff, Obs.wf_iff, GLink.wf_iff, and_self]

theorem State.cycles_evolves {s0 s : State} (ev : Evolves s0 s) (n : Nat) : Evolves s0 (State.cycles s n) := by
  unfold State.cycles
  try dsimp only
  simp +contextual (maxDischargeDepth := 99) only [↓ev, ↓State.count_evolves]

theorem State.trace_evolves {s0 s : State} (ev : Evolves s0 s) (t : Trace) : Evolves s0 (State.trace s t) := by
  unfold State.trace
  try dsimp only
  (repeat' split) <;> simp +contextual (maxDischargeDepth := 99) only [↓ev, ↓State.sumpRecord_evolves]

theorem State.irqSend_evolves {s0 s : State} (ev : Evolves s0 s) (f v : Nat) : Evolves s0 (State.irqSend s f v) := by
  unfold State.irqSend
  try dsimp only
  simp +contextual (maxDischargeDepth := 99) only [↓ev, ↓Evolves.ite, ↓State.emit_evolves, ↓State.modFn_evolves]

theorem State.irqEvent_evolves {s0 s : State} (ev : Evolves s0 s) (f v : Nat) : Evolves s0 (State.irqEvent s f v) :=
    by
  unfold State.irqEvent
  try dsimp only
  simp +contextual (maxDischargeDepth := 99) only [↓ev, ↓Evolves.ite, ↓State.irqSend_evolves, ↓State.modFn_evolves,
      ↓State.setFlag_evolves]

/-! ## Answer.lean -/

theorem State.cplWrite_evolves {s0 s : State} (ev : Evolves s0 s) (f : Nat) (c : Cmd) (r : CplRec) : Evolves s0
    (State.cplWrite s f c r) := by
  unfold State.cplWrite
  try dsimp only
  simp +contextual (maxDischargeDepth := 99) only [↓ev, ↓State.memWr_evolves, ↓State.modFn_evolves]

theorem State.complete_evolves {s0 s : State} (ev : Evolves s0 s) (f : Nat) (c : Cmd) (r : CplRec) : Evolves s0
    (State.complete s f c r) := by
  unfold State.complete
  try dsimp only
  simp +contextual (maxDischargeDepth := 99) only [↓ev, ↓Evolves.ite, ↓State.bump_evolves, ↓State.count_evolves,
      ↓State.cplWrite_evolves, ↓State.modFn_evolves]

theorem State.refuse_evolves {s0 s : State} (ev : Evolves s0 s) (f : Nat) (c : Cmd) (code : Nat) : Evolves s0
    (State.refuse s f c code) := by
  unfold State.refuse
  try dsimp only
  simp +contextual (maxDischargeDepth := 99) only [↓ev, ↓State.complete_evolves]

theorem State.waitAnswer_evolves {s0 s : State} (ev : Evolves s0 s) (f : Nat) (w : WaitEnt) (r : BankRsp) : Evolves
    s0 (State.waitAnswer s f w r) := by
  unfold State.waitAnswer
  try dsimp only
  simp +contextual (maxDischargeDepth := 99) only [↓ev, ↓Evolves.ite, ↓State.complete_evolves, ↓State.modFn_evolves]

theorem State.dquAnswer_evolves {s0 s : State} (ev : Evolves s0 s) (f cidx : Nat) (r : BankRsp) : Evolves s0
    (State.dquAnswer s f cidx r) := by
  unfold State.dquAnswer
  try dsimp only
  (repeat' split) <;> simp +contextual (maxDischargeDepth := 99) only [↓ev, ↓State.complete_evolves,
      ↓State.waitAnswer_evolves]

theorem State.setChan_evolves {s0 s : State} (ev : Evolves s0 s) (c : Nat) (x : Chan) : Evolves s0 (State.setChan s
    c x) := by
  unfold State.setChan
  try dsimp only
  simp +contextual (maxDischargeDepth := 99) only [↓ev, ↓Evolves.update, implies_true, eq_self, Cst.wf_iff,
      Wel.wf_iff, Rst.wf_iff, Pipe.wf_iff, Cul.wf_iff, Pump.wf_iff, Obs.wf_iff, GLink.wf_iff, twf_tset, and_self]

theorem State.modChan_evolves {s0 s : State} (ev : Evolves s0 s) (c : Nat) (f : Chan → Chan) : Evolves s0
    (State.modChan s c f) := by
  unfold State.modChan
  try dsimp only
  simp +contextual (maxDischargeDepth := 99) only [↓ev, ↓State.setChan_evolves]

theorem State.fnError_evolves {s0 s : State} (ev : Evolves s0 s) (f code info : Nat) : Evolves s0 (State.fnError s f
    code info) := by
  unfold State.fnError
  try dsimp only
  simp +contextual (maxDischargeDepth := 99) only [↓ev, ↓Evolves.ite, ↓State.ao_evolves, ↓State.fault_evolves,
      ↓State.irqEvent_evolves, ↓State.modFn_evolves, ↓State.setFld_evolves]

/-! ## Link.lean -/

theorem State.setPort_evolves {s0 s : State} (ev : Evolves s0 s) (k : Nat) (x : Port) : Evolves s0 (State.setPort s
    k x) := by
  unfold State.setPort
  try dsimp only
  simp +contextual (maxDischargeDepth := 99) only [↓ev, ↓Evolves.update, implies_true, eq_self, Cst.wf_iff,
      Wel.wf_iff, Rst.wf_iff, Pipe.wf_iff, Cul.wf_iff, Pump.wf_iff, Obs.wf_iff, GLink.wf_iff, twf_tset, and_self]

theorem State.modPort_evolves {s0 s : State} (ev : Evolves s0 s) (k : Nat) (f : Port → Port) : Evolves s0
    (State.modPort s k f) := by
  unfold State.modPort
  try dsimp only
  simp +contextual (maxDischargeDepth := 99) only [↓ev, ↓State.setPort_evolves]

theorem State.drop_evolves {s0 s : State} (ev : Evolves s0 s) (k : Nat) : Evolves s0 (State.drop s k) := by
  unfold State.drop
  try dsimp only
  simp +contextual (maxDischargeDepth := 99) only [↓ev, ↓State.bump_evolves]

theorem State.tmatch_evolves {s0 s : State} (ev : Evolves s0 s) (k : Nat) (rx : Bool) (serial : W32) : Evolves s0
    (State.tmatch s k rx serial) := by
  unfold State.tmatch
  try dsimp only
  simp +contextual (maxDischargeDepth := 99) only [↓ev, ↓Evolves.ite, ↓State.ao_evolves]

theorem State.tracePair_evolves {s0 s : State} (ev : Evolves s0 s) (k : Nat) (rx : Bool) (serial : W32) (b : Beat) :
    Evolves s0 (State.tracePair s k rx serial b) := by
  unfold State.tracePair
  try dsimp only
  (repeat' split) <;> simp +contextual (maxDischargeDepth := 99) only [↓ev, ↓State.sumpRecord_evolves]

theorem State.billCount_evolves {s0 s : State} (ev : Evolves s0 s) (c : Nat) : Evolves s0 (State.billCount s c) := by
  unfold State.billCount
  try dsimp only
  simp +contextual (maxDischargeDepth := 99) only [↓ev, ↓State.usage_evolves]

theorem State.sendFlit_evolves {s0 s : State} (ev : Evolves s0 s) (k : Nat) (w : BitVec 640) : Evolves s0
    (State.sendFlit s k w) := by
  unfold State.sendFlit
  try dsimp only
  simp +contextual (maxDischargeDepth := 99) only [↓ev, ↓State.emit_evolves, ↓State.modPort_evolves]

theorem State.commitFlit_evolves {s0 s : State} (ev : Evolves s0 s) (k : Nat) (b : Beat) : Evolves s0
    (State.commitFlit s k b) := by
  unfold State.commitFlit
  try dsimp only
  simp +contextual (maxDischargeDepth := 99) only [↓ev, ↓Evolves.ite, ↓Evolves.foldl, implies_true,
      ↓State.billCount_evolves, ↓State.count_evolves, ↓State.sendFlit_evolves, ↓State.setPort_evolves,
      ↓State.tmatch_evolves, ↓State.tracePair_evolves]

theorem State.sendFrame_evolves {s0 s : State} (ev : Evolves s0 s) (k : Nat) (f : List Beat) : Evolves s0
    (State.sendFrame s k f) := by
  unfold State.sendFrame
  try dsimp only
  simp +contextual (maxDischargeDepth := 99) only [↓ev, ↓Evolves.foldl, implies_true, ↓State.commitFlit_evolves,
      ↓State.modPort_evolves]

theorem State.sendFrames_evolves {s0 s : State} (ev : Evolves s0 s) (k : Nat) (m0 : Nat) : Evolves s0
    (State.sendFrames s k m0) := by
  induction m0 generalizing s with
  | zero => exact ev
  | succ m ih =>
    unfold State.sendFrames; (try dsimp only)
    (repeat' split) <;> simp +contextual (maxDischargeDepth := 99) only [↓ih, ↓ev, ↓State.sendFrame_evolves]

theorem State.sendFormed_evolves {s0 s : State} (ev : Evolves s0 s) (k : Nat) : Evolves s0 (State.sendFormed s k) :=
    by
  unfold State.sendFormed
  try dsimp only
  simp +contextual (maxDischargeDepth := 99) only [↓ev, ↓Evolves.ite, ↓Evolves.foldl, implies_true,
      ↓State.sendFrame_evolves]

theorem State.sendCounts_evolves {s0 s : State} (ev : Evolves s0 s) (k : Nat) (m0 : Nat) : Evolves s0
    (State.sendCounts s k m0) := by
  induction m0 generalizing s with
  | zero => exact ev
  | succ m ih =>
    unfold State.sendCounts; (try dsimp only)
    (repeat' split) <;> simp +contextual (maxDischargeDepth := 99) only [↓ih, ↓ev, ↓State.commitFlit_evolves]

theorem State.drainPort_evolves {s0 s : State} (ev : Evolves s0 s) (k : Nat) : Evolves s0 (State.drainPort s k) := by
  unfold State.drainPort
  try dsimp only
  simp +contextual (maxDischargeDepth := 99) only [↓ev, ↓State.sendCounts_evolves, ↓State.sendFrames_evolves]

theorem State.sendIdle_evolves {s0 s : State} (ev : Evolves s0 s) (k : Nat) (cret : Option Nat) : Evolves s0
    (State.sendIdle s k cret) := by
  unfold State.sendIdle
  try dsimp only
  simp +contextual (maxDischargeDepth := 99) only [↓ev, ↓Evolves.ite, ↓State.sendFlit_evolves]

theorem State.phyFlit_evolves {s0 s : State} (ev : Evolves s0 s) (k : Nat) : Evolves s0 (State.phyFlit s k).1 := by
  unfold State.phyFlit
  try dsimp only
  (repeat' split) <;> simp +contextual (maxDischargeDepth := 99) only [↓ev, ↓State.modPort_evolves,
      ↓State.nextFree_evolves]

theorem State.phyLoad_evolves {s0 s : State} (ev : Evolves s0 s) (k : Nat) : Evolves s0 (State.phyLoad s k) := by
  have hf : ∀ (n : Nat) (t : State), Evolves s0 t → Evolves s0 (State.phyFlits t k n).1 := by
    intro n
    induction n with
    | zero => exact fun t h => h
    | succ n ih => exact fun t h => ih _ (State.phyFlit_evolves h _)
  unfold State.phyLoad
  split
  · exact State.modPort_evolves (hf 8 s ev) _ _
  · exact State.modPort_evolves (State.phyFlit_evolves ev _) _ _

theorem State.phyStep_evolves {s0 s : State} (ev : Evolves s0 s) (k : Nat) : Evolves s0 (State.phyStep s k) := by
  unfold State.phyStep
  try dsimp only
  (repeat' split) <;> simp +contextual (maxDischargeDepth := 99) only [↓ev, ↓State.emit_evolves,
      ↓State.modPort_evolves, ↓State.phyLoad_evolves]

theorem State.queueFrame_evolves {s0 s : State} (ev : Evolves s0 s) (k : Nat) (f : List Beat) : Evolves s0
    (State.queueFrame s k f) := by
  unfold State.queueFrame
  try dsimp only
  simp +contextual (maxDischargeDepth := 99) only [↓ev, ↓Evolves.ite, ↓State.drainPort_evolves, ↓State.drop_evolves,
      ↓State.modPort_evolves]

theorem State.sendHop_evolves {s0 s : State} (ev : Evolves s0 s) (k btype finfo pay : Nat) : Evolves s0
    (State.sendHop s k btype finfo pay) := by
  unfold State.sendHop
  try dsimp only
  simp +contextual (maxDischargeDepth := 99) only [↓ev, ↓State.queueFrame_evolves]

theorem State.sendCount_evolves {s0 s : State} (ev : Evolves s0 s) (k c w : Nat) : Evolves s0 (State.sendCount s k c
    w) := by
  unfold State.sendCount
  try dsimp only
  simp +contextual (maxDischargeDepth := 99) only [↓ev, ↓Evolves.ite, ↓State.drainPort_evolves, ↓State.drop_evolves,
      ↓State.modPort_evolves]

theorem State.sendCountAll_evolves {s0 s : State} (ev : Evolves s0 s) (m c w : Nat) : Evolves s0 (State.sendCountAll
    s m c w) := by
  unfold State.sendCountAll
  try dsimp only
  simp +contextual (maxDischargeDepth := 99) only [↓ev, ↓Evolves.foldl, implies_true, ↓State.sendCount_evolves]

theorem State.flood_evolves {s0 s : State} (ev : Evolves s0 s) (skip : Option Nat) (btype finfo pay : Nat) : Evolves
    s0 (State.flood s skip btype finfo pay) := by
  unfold State.flood
  try dsimp only
  simp +contextual (maxDischargeDepth := 99) only [↓ev, ↓Evolves.foldl, implies_true, ↓State.sendHop_evolves]

theorem State.routeFrame_evolves {s0 s : State} (ev : Evolves s0 s) (came : Option Nat) (f : List Beat) : Evolves s0
    (State.routeFrame s came f) := by
  unfold State.routeFrame
  try dsimp only
  (repeat' split) <;> simp +contextual (maxDischargeDepth := 99) only [↓ev, ↓State.drop_evolves,
      ↓State.queueFrame_evolves]

theorem State.formFrame_evolves {s0 s : State} (ev : Evolves s0 s) (f : List Beat) : Evolves s0 (State.formFrame s
    f) := by
  unfold State.formFrame
  try dsimp only
  (repeat' split) <;> simp +contextual (maxDischargeDepth := 99) only [↓ev, ↓State.routeFrame_evolves,
      ↓State.usage_evolves]

/-! ## Leaf.lean -/

theorem State.setTap_evolves {s0 s : State} (ev : Evolves s0 s) (t : Nat) (x : TapSt) : Evolves s0 (State.setTap s t
    x) := by
  unfold State.setTap
  try dsimp only
  simp +contextual (maxDischargeDepth := 99) only [↓ev, ↓Evolves.update, implies_true, eq_self, Cst.wf_iff,
      Wel.wf_iff, Rst.wf_iff, Pipe.wf_iff, Cul.wf_iff, Pump.wf_iff, Obs.wf_iff, GLink.wf_iff, twf_tset, and_self]

theorem State.modTap_evolves {s0 s : State} (ev : Evolves s0 s) (t : Nat) (f : TapSt → TapSt) : Evolves s0
    (State.modTap s t f) := by
  unfold State.modTap
  try dsimp only
  simp +contextual (maxDischargeDepth := 99) only [↓ev, ↓State.setTap_evolves]

theorem State.setLeaf_evolves {s0 s : State} (ev : Evolves s0 s) (l : Nat) (x : Leaf) : Evolves s0 (State.setLeaf s
    l x) := by
  unfold State.setLeaf
  try dsimp only
  simp +contextual (maxDischargeDepth := 99) only [↓ev, ↓Evolves.update, implies_true, eq_self, Cst.wf_iff,
      Wel.wf_iff, Rst.wf_iff, Pipe.wf_iff, Cul.wf_iff, Pump.wf_iff, Obs.wf_iff, GLink.wf_iff, twf_tset, and_self]

theorem State.modLeaf_evolves {s0 s : State} (ev : Evolves s0 s) (l : Nat) (f : Leaf → Leaf) : Evolves s0
    (State.modLeaf s l f) := by
  unfold State.modLeaf
  try dsimp only
  simp +contextual (maxDischargeDepth := 99) only [↓ev, ↓State.setLeaf_evolves]

theorem State.setGrant_evolves {s0 s : State} (ev : Evolves s0 s) (e : Nat) (x : Grant) : Evolves s0 (State.setGrant
    s e x) := by
  unfold State.setGrant
  try dsimp only
  simp +contextual (maxDischargeDepth := 99) only [↓ev, ↓Evolves.update, implies_true, eq_self, Cst.wf_iff,
      Wel.wf_iff, Rst.wf_iff, Pipe.wf_iff, Cul.wf_iff, Pump.wf_iff, Obs.wf_iff, GLink.wf_iff, twf_tset, and_self]

theorem State.modCtx_evolves {s0 s : State} (ev : Evolves s0 s) (rid : Nat) (f : Ctx → Ctx) : Evolves s0
    (State.modCtx s rid f) := by
  unfold State.modCtx
  try dsimp only
  simp +contextual (maxDischargeDepth := 99) only [↓ev, ↓Evolves.update, implies_true, eq_self, Cst.wf_iff,
      Wel.wf_iff, Rst.wf_iff, Pipe.wf_iff, Cul.wf_iff, Pump.wf_iff, Obs.wf_iff, GLink.wf_iff, and_self]

theorem State.traceLeaf_evolves {s0 s : State} (ev : Evolves s0 s) (t : Nat) (tr : Trace) : Evolves s0
    (State.traceLeaf s t tr) := by
  unfold State.traceLeaf
  try dsimp only
  (repeat' split) <;> simp +contextual (maxDischargeDepth := 99) only [↓ev, ↓State.modLeaf_evolves]

theorem State.ackDrop_evolves {s0 s : State} (ev : Evolves s0 s) (t : Nat) (k : Tok) : Evolves s0 (State.ackDrop s t
    k) := by
  unfold State.ackDrop
  (repeat' split) <;> simp +contextual (maxDischargeDepth := 99) only [↓ev, ↓State.modLeaf_evolves,
      ↓State.modTap_evolves, ↓State.setLeaf_evolves]

theorem State.reportUndelivered_evolves {s0 s : State} (ev : Evolves s0 s) (l rid mask part : Nat) : Evolves s0
    (State.reportUndelivered s l rid mask part) := by
  unfold State.reportUndelivered
  try dsimp only
  simp +contextual (maxDischargeDepth := 99) only [↓ev, ↓State.count_evolves, ↓State.modLeaf_evolves]

theorem State.fencedDrop_evolves {s0 s : State} (ev : Evolves s0 s) (t : Nat) (k : Tok) : Evolves s0
    (State.fencedDrop s t k) := by
  unfold State.fencedDrop
  try dsimp only
  (repeat' split) <;> simp +contextual (maxDischargeDepth := 99) only [↓ev, ↓State.ackDrop_evolves,
      ↓State.bump_evolves, ↓State.event_evolves]

theorem State.place_evolves {s0 s : State} (ev : Evolves s0 s) (t : Nat) (k : Tok) : Evolves s0 (State.place s t
    k).1 := by
  unfold State.place
  try dsimp only
  simp +contextual (maxDischargeDepth := 99) only [↓ev, ↓Evolves.ite_fst, ↓State.count_evolves,
      ↓State.setTap_evolves, ↓State.traceLeaf_evolves]

theorem State.serveTap_evolves {s0 s : State} (ev : Evolves s0 s) (t : Nat) (k : Tok) (delay : Bool) : Evolves s0
    (State.serveTap s t k delay).1 := by
  unfold State.serveTap
  try dsimp only
  (repeat' split) <;> simp +contextual (maxDischargeDepth := 99) only [↓ev, ↓State.bump_evolves,
      ↓State.fencedDrop_evolves, ↓State.modLeaf_evolves, ↓State.place_evolves, ↓State.traceLeaf_evolves]

theorem State.serveLeaf_evolves {s0 s : State} (ev : Evolves s0 s) (l m : Nat) (k : Tok) : Evolves s0
    (State.serveLeaf s l m k).1 := by
  unfold State.serveLeaf
  try dsimp only
  simp +contextual (maxDischargeDepth := 99) only [↓ev, ↓Evolves.foldl_fst, implies_true, ↓State.serveTap_evolves]

theorem State.serveNak_evolves {s0 s : State} (ev : Evolves s0 s) (t cnum part layer oper : Nat) : Evolves s0
    (State.serveNak s t cnum part layer oper) := by
  unfold State.serveNak
  try dsimp only
  simp +contextual (maxDischargeDepth := 99) only [↓ev, ↓Evolves.ite, ↓State.bump_evolves, ↓State.setTap_evolves,
      ↓State.traceLeaf_evolves]

theorem State.abandonCtx_evolves {s0 s : State} (ev : Evolves s0 s) (rid : Nat) : Evolves s0 (State.abandonCtx s
    rid) := by
  unfold State.abandonCtx
  try dsimp only
  simp +contextual (maxDischargeDepth := 99) only [↓ev, ↓Evolves.update, implies_true, eq_self, Cst.wf_iff,
      Wel.wf_iff, Rst.wf_iff, Pipe.wf_iff, Cul.wf_iff, Pump.wf_iff, Obs.wf_iff, GLink.wf_iff, twf_tmap, and_self]

theorem State.abandonCnum_evolves {s0 s : State} (ev : Evolves s0 s) (p cnum : Nat) : Evolves s0 (State.abandonCnum
    s p cnum) := by
  unfold State.abandonCnum
  try dsimp only
  simp +contextual (maxDischargeDepth := 99) only [↓ev, ↓Evolves.update, ↓Evolves.foldl, implies_true, eq_self,
      Cst.wf_iff, Wel.wf_iff, Rst.wf_iff, Pipe.wf_iff, Cul.wf_iff, Pump.wf_iff, Obs.wf_iff, GLink.wf_iff, and_self,
      ↓State.abandonCtx_evolves]

theorem State.purgeSlot_evolves {s0 s : State} (ev : Evolves s0 s) (t g : Nat) : Evolves s0 (State.purgeSlot s t g)
    := by
  unfold State.purgeSlot
  try dsimp only
  simp +contextual (maxDischargeDepth := 99) only [↓ev, ↓State.modTap_evolves]

theorem State.grantStop_evolves {s0 s : State} (ev : Evolves s0 s) (e : Nat) : Evolves s0 (State.grantStop s e) := by
  unfold State.grantStop
  try dsimp only
  simp +contextual (maxDischargeDepth := 99) only [↓ev, ↓Evolves.ite, ↓State.purgeSlot_evolves,
      ↓State.setGrant_evolves]

theorem State.grantLeave_evolves {s0 s : State} (ev : Evolves s0 s) (p c : Nat) : Evolves s0 (State.grantLeave s p
    c) := by
  unfold State.grantLeave
  try dsimp only
  (repeat' split) <;> simp +contextual (maxDischargeDepth := 99) only [↓ev, ↓State.grantStop_evolves,
      ↓State.setGrant_evolves]

/-! ## Words.lean -/

theorem State.snapSend_evolves {s0 s : State} (ev : Evolves s0 s) (p area : Nat) (w : Nat × Nat × Nat) (charge :
    Bool) : Evolves s0 (State.snapSend s p area w charge) := by
  unfold State.snapSend
  try dsimp only
  simp +contextual (maxDischargeDepth := 99) only [↓ev, ↓State.memWr_evolves, ↓State.modChan_evolves,
      ↓State.modPrt_evolves]

theorem State.cow_evolves {s0 s : State} (ev : Evolves s0 s) (p cls idx : Nat) : Evolves s0 (State.cow s p cls idx)
    := by
  unfold State.cow
  try dsimp only
  (repeat' split) <;> simp +contextual (maxDischargeDepth := 99) only [↓ev, ↓State.cycles_evolves,
      ↓State.modPrt_evolves]

theorem State.xorWord_evolves {s0 s : State} (ev : Evolves s0 s) (cls idx d : Nat) : Evolves s0 (State.xorWord s cls
    idx d) := by
  unfold State.xorWord
  try dsimp only
  simp +contextual (maxDischargeDepth := 99) only [↓ev, ↓Evolves.ite, ↓Evolves.update, implies_true, eq_self,
      Cst.wf_iff, Wel.wf_iff, Rst.wf_iff, Pipe.wf_iff, Cul.wf_iff, Pump.wf_iff, Obs.wf_iff, GLink.wf_iff, twf_tmod,
      and_self]

theorem State.corrected_evolves {s0 s : State} (ev : Evolves s0 s) (unit : Nat) : Evolves s0 (State.corrected s
    unit) := by
  unfold State.corrected
  try dsimp only
  simp +contextual (maxDischargeDepth := 99) only [↓ev, ↓Evolves.update, implies_true, eq_self, Cst.wf_iff,
      Wel.wf_iff, Rst.wf_iff, Pipe.wf_iff, Cul.wf_iff, Pump.wf_iff, Obs.wf_iff, GLink.wf_iff, and_self,
      ↓State.bump_evolves]

theorem State.clearErr_evolves {s0 s : State} (ev : Evolves s0 s) (cls idx : Nat) : Evolves s0 (State.clearErr s cls
    idx) := by
  unfold State.clearErr
  try dsimp only
  simp +contextual (maxDischargeDepth := 99) only [↓ev, ↓Evolves.update, implies_true, eq_self, Cst.wf_iff,
      Wel.wf_iff, Rst.wf_iff, Pipe.wf_iff, Cul.wf_iff, Pump.wf_iff, Obs.wf_iff, GLink.wf_iff, twf_tset, and_self]

theorem State.codeRead_evolves {s0 s : State} (ev : Evolves s0 s) (cls idx : Nat) : Evolves s0 (State.codeRead s cls
    idx).1 := by
  unfold State.codeRead
  try dsimp only
  (repeat' split) <;> simp +contextual (maxDischargeDepth := 99) only [↓ev, ↓State.ao_evolves, ↓State.bump_evolves,
      ↓State.clearErr_evolves, ↓State.corrected_evolves, ↓State.xorWord_evolves]

theorem State.setEntry_evolves {s0 s : State} (ev : Evolves s0 s) (slot : Nat) (e : Cistern) : Evolves s0
    (State.setEntry s slot e) := by
  unfold State.setEntry
  try dsimp only
  (repeat' split) <;> simp +contextual (maxDischargeDepth := 99) only [↓ev, ↓Evolves.update, implies_true, eq_self,
      Cst.wf_iff, Wel.wf_iff, Rst.wf_iff, Pipe.wf_iff, Cul.wf_iff, Pump.wf_iff, Obs.wf_iff, GLink.wf_iff, twf_tset,
      and_self, ↓State.cow_evolves]

theorem State.setBasin_evolves {s0 s : State} (ev : Evolves s0 s) (b : Nat) (v : Payload) (l : LaneState) : Evolves
    s0 (State.setBasin s b v l) := by
  unfold State.setBasin
  try dsimp only
  (repeat' split) <;> simp +contextual (maxDischargeDepth := 99) only [↓ev, ↓Evolves.update, implies_true, eq_self,
      Cst.wf_iff, Wel.wf_iff, Rst.wf_iff, Pipe.wf_iff, Cul.wf_iff, Pump.wf_iff, Obs.wf_iff, GLink.wf_iff, twf_tset,
      and_self, ↓State.cow_evolves]

theorem State.setRl_evolves {s0 s : State} (ev : Evolves s0 s) (w : Nat) (v : W128) : Evolves s0 (State.setRl s w v)
    := by
  unfold State.setRl
  try dsimp only
  (repeat' split) <;> simp +contextual (maxDischargeDepth := 99) only [↓ev, ↓Evolves.update, implies_true, eq_self,
      Cst.wf_iff, Wel.wf_iff, Rst.wf_iff, Pipe.wf_iff, Cul.wf_iff, Pump.wf_iff, Obs.wf_iff, GLink.wf_iff, twf_tset,
      and_self, ↓State.cow_evolves]

theorem State.poisonBasin_evolves {s0 s : State} (ev : Evolves s0 s) (b : Nat) : Evolves s0 (State.poisonBasin s b)
    := by
  unfold State.poisonBasin
  try dsimp only
  (repeat' split) <;> simp +contextual (maxDischargeDepth := 99) only [↓ev, ↓Evolves.update, implies_true, eq_self,
      Cst.wf_iff, Wel.wf_iff, Rst.wf_iff, Pipe.wf_iff, Cul.wf_iff, Pump.wf_iff, Obs.wf_iff, GLink.wf_iff, twf_tset,
      and_self, ↓State.fault_evolves]

theorem State.readLanes_evolves {s0 s : State} (ev : Evolves s0 s) (b : Nat) : Evolves s0 (State.readLanes s b).1 :=
    by
  unfold State.readLanes
  try dsimp only
  simp +contextual (maxDischargeDepth := 99) only [↓ev, ↓Evolves.ite_fst, ↓Evolves.update, implies_true, eq_self,
      Cst.wf_iff, Wel.wf_iff, Rst.wf_iff, Pipe.wf_iff, Cul.wf_iff, Pump.wf_iff, Obs.wf_iff, GLink.wf_iff, twf_tset,
      and_self, ↓State.setFlag_evolves]

theorem State.readBasin_evolves {s0 s : State} (ev : Evolves s0 s) (b : Nat) : Evolves s0 (State.readBasin s b).1 :=
    by
  unfold State.readBasin
  try dsimp only
  (repeat' split) <;> simp +contextual (maxDischargeDepth := 99) only [↓ev, ↓Evolves.foldl_fst, implies_true,
      ↓State.codeRead_evolves, ↓State.poisonBasin_evolves, ↓State.readLanes_evolves]

theorem State.readList_evolves {s0 s : State} (ev : Evolves s0 s) (i : Nat) : Evolves s0 (State.readList s i).1 := by
  unfold State.readList
  try dsimp only
  repeat' first
    | assumption
    | refine Evolves.foldl (fun _ _ _ => ?_) _ ?_
    | refine Evolves.foldl_fst (fun _ _ _ => ?_) _ ?_
    | (simp +contextual (maxDischargeDepth := 99) only [*, ↓State.codeRead_evolves, ↓State.cycles_evolves,
        ↓State.fault_evolves]; done)
    | split
    | apply State.codeRead_evolves
    | apply State.cycles_evolves
    | apply State.fault_evolves
    | apply Evolves.update

theorem State.grantSet_evolves {s0 s : State} (ev : Evolves s0 s) (p c e gen rlist owed : Nat) : Evolves s0
    (State.grantSet s p c e gen rlist owed) := by
  unfold State.grantSet
  try dsimp only
  (repeat' split) <;> simp +contextual (maxDischargeDepth := 99) only [↓ev, ↓State.fault_evolves,
      ↓State.modTap_evolves, ↓State.readList_evolves, ↓State.setGrant_evolves]

theorem State.grantArm_evolves {s0 s : State} (ev : Evolves s0 s) (p c gen rlist target : Nat) : Evolves s0
    (State.grantArm s p c gen rlist target) := by
  unfold State.grantArm
  try dsimp only
  (repeat' split) <;> simp +contextual (maxDischargeDepth := 99) only [↓ev, ↓State.grantSet_evolves,
      ↓State.setGrant_evolves]

theorem State.poison_evolves {s0 s : State} (ev : Evolves s0 s) (slot cnum : Nat) : Evolves s0 (State.poison s slot
    cnum) := by
  unfold State.poison
  try dsimp only
  (repeat' split) <;> simp +contextual (maxDischargeDepth := 99) only [↓ev, ↓Evolves.update, implies_true, eq_self,
      Cst.wf_iff, Wel.wf_iff, Rst.wf_iff, Pipe.wf_iff, Cul.wf_iff, Pump.wf_iff, Obs.wf_iff, GLink.wf_iff, twf_tset,
      and_self, ↓State.clearErr_evolves, ↓State.fault_evolves, ↓State.grantLeave_evolves, ↓State.setEntry_evolves]

theorem State.readEntry_evolves {s0 s : State} (ev : Evolves s0 s) (p slot cnum : Nat) : Evolves s0 (State.readEntry
    s p slot cnum).1 := by
  unfold State.readEntry
  try dsimp only
  simp +contextual (maxDischargeDepth := 99) only [↓ev, ↓Evolves.ite_fst, ↓State.codeRead_evolves,
      ↓State.poison_evolves]

end Sys2Proof.Machine
end

