-- ==== Sys2Proof/Laws/EvolvesUnits.lean ====
section
/-! SUPPORT. What the Gauge, the Pump, completions and the root do to a state: the build and the queue stay, and the invariant is kept. -/

namespace Sys2Proof.Machine

/-! ## Gauge.lean -/

theorem State.gauSend_evolves {s0 s : State} (ev : Evolves s0 s) : Evolves s0 (State.gauSend s) := by
  unfold State.gauSend
  try dsimp only
  (repeat' split) <;> simp +contextual (maxDischargeDepth := 99) only [↓ev, ↓Evolves.update, implies_true, eq_self,
      Cst.wf_iff, Wel.wf_iff, Rst.wf_iff, Pipe.wf_iff, Cul.wf_iff, Pump.wf_iff, Obs.wf_iff, GLink.wf_iff, and_self,
      ↓State.emit_evolves]

theorem State.gauQueue_evolves {s0 s : State} (ev : Evolves s0 s) (fr : GFrame) : Evolves s0 (State.gauQueue s fr)
    := by
  unfold State.gauQueue
  try dsimp only
  simp +contextual (maxDischargeDepth := 99) only [↓ev, ↓Evolves.update, implies_true, eq_self, Cst.wf_iff,
      Wel.wf_iff, Rst.wf_iff, Pipe.wf_iff, Cul.wf_iff, Pump.wf_iff, Obs.wf_iff, GLink.wf_iff, and_self,
      ↓State.gauSend_evolves]

theorem State.gauCut_evolves {s0 s : State} (ev : Evolves s0 s) (ps : List Nat) : Evolves s0 (State.gauCut s ps) := by
  unfold State.gauCut
  extract_lets +onlyGivenNames used w0 body g
  have hg : s.glink.Wf → g.Wf := by
    unfold g
    generalize s.glink = x
    induction used generalizing x with
    | nil => exact id
    | cons a l ih =>
      intro h
      refine ih (x := x.clear a) ?_
      unfold GLink.clear
      simp only [GLink.wf_iff] at h ⊢
      exact twf_foldl (fun t i ht => twf_tset _ _ ht) _ h
  apply State.gauQueue_evolves
  refine Evolves.update ev ?_ ?_ ?_ ?_ ?_ ?_ ?_ ?_ hg ?_ ?_ ?_ <;> exact id

theorem State.gauPeriodic_evolves {s0 s : State} (ev : Evolves s0 s) : Evolves s0 (State.gauPeriodic s) := by
  unfold State.gauPeriodic
  try dsimp only
  simp +contextual (maxDischargeDepth := 99) only [↓ev, ↓Evolves.ite, ↓State.gauCut_evolves]

theorem State.gauMark_evolves {s0 s : State} (ev : Evolves s0 s) (v : Nat) : Evolves s0 (State.gauMark s v) := by
  unfold State.gauMark
  try dsimp only
  simp +contextual (maxDischargeDepth := 99) only [↓ev, ↓Evolves.ite, ↓State.gauCut_evolves,
      ↓State.gauQueue_evolves, ↓State.setFlag_evolves]

theorem State.gauCfgw_evolves {s0 s : State} (ev : Evolves s0 s) (value param : Nat) : Evolves s0 (State.gauCfgw s
    value param) := by
  unfold State.gauCfgw
  try dsimp only
  simp +contextual (maxDischargeDepth := 99) only [↓ev, ↓Evolves.ite, ↓State.gauQueue_evolves, ↓State.setFlag_evolves]

theorem State.setLinkUp_evolves {s0 s : State} (ev : Evolves s0 s) (b : Bool) : Evolves s0 (State.setLinkUp s b) := by
  unfold State.setLinkUp
  try dsimp only
  simp +contextual (maxDischargeDepth := 99) only [↓ev, ↓State.setFlag_evolves]

theorem State.gauStatusWord_evolves {s0 s : State} (ev : Evolves s0 s) (w : BitVec 16) : Evolves s0
    (State.gauStatusWord s w) := by
  unfold State.gauStatusWord
  try dsimp only
  (repeat' split) <;> simp +contextual (maxDischargeDepth := 99) only [↓ev, ↓Evolves.update, implies_true, eq_self,
      Cst.wf_iff, Wel.wf_iff, Rst.wf_iff, Pipe.wf_iff, Cul.wf_iff, Pump.wf_iff, Obs.wf_iff, GLink.wf_iff, and_self,
      ↓State.emit_evolves, ↓State.gauSend_evolves, ↓State.setFlag_evolves, ↓State.setLinkUp_evolves]

theorem execStatusWord_evolves {s0 s : State} (ev : Evolves s0 s) (w : BitVec 16) : Outcome.Evolves s0
    (execStatusWord w s) := by
  unfold execStatusWord
  try dsimp only
  simp +contextual (maxDischargeDepth := 99) only [↓ev, ↓Outcome.evolves_next, ↓State.gauStatusWord_evolves]

theorem State.gauCopyHalf_evolves {s0 s : State} (ev : Evolves s0 s) (off : Nat) (w : BitVec 16) : Evolves s0
    (State.gauCopyHalf s off w) := by
  unfold State.gauCopyHalf
  try dsimp only
  (repeat' split) <;> simp +contextual (maxDischargeDepth := 99) only [↓ev, ↓State.setReg_evolves]

theorem State.gauCopy_evolves {s0 s : State} (ev : Evolves s0 s) (off : Nat) (m0 : List (BitVec 16)) : Evolves s0
    (State.gauCopy s off m0) := by
  induction m0 generalizing s off with
  | nil => exact ev
  | cons w t ih => unfold State.gauCopy; simp +contextual (maxDischargeDepth := 99) only [↓ih, ↓ev,
      ↓State.gauCopyHalf_evolves]

theorem execReportFrame_evolves {s0 s : State} (ev : Evolves s0 s) (ws : List (BitVec 16)) : Outcome.Evolves s0
    (execReportFrame ws s) := by
  unfold execReportFrame
  try dsimp only
  simp +contextual (maxDischargeDepth := 99) only [↓ev, ↓Outcome.evolves_ite, ↓Outcome.evolves_next,
      ↓State.gauCopy_evolves, ↓State.setFlag_evolves]

theorem State.gauDue_evolves {s0 s : State} (ev : Evolves s0 s) : Evolves s0 (State.gauDue s) := by
  unfold State.gauDue
  try dsimp only
  simp +contextual (maxDischargeDepth := 99) only [↓ev, ↓Evolves.ite, ↓Evolves.update, implies_true, eq_self,
      Cst.wf_iff, Wel.wf_iff, Rst.wf_iff, Pipe.wf_iff, Cul.wf_iff, Pump.wf_iff, Obs.wf_iff, GLink.wf_iff, and_self,
      ↓State.gauPeriodic_evolves]

theorem execDeltaTimer_evolves {s0 s : State} (ev : Evolves s0 s) : Outcome.Evolves s0 (execDeltaTimer s) := by
  unfold execDeltaTimer
  try dsimp only
  simp +contextual (maxDischargeDepth := 99) only [↓ev, ↓Evolves.ite, ↓Outcome.evolves_next, ↓State.gauDue_evolves]

theorem execLinkUpTimeout_evolves {s0 s : State} (ev : Evolves s0 s) : Outcome.Evolves s0 (execLinkUpTimeout s) := by
  unfold execLinkUpTimeout
  try dsimp only
  simp +contextual (maxDischargeDepth := 99) only [↓ev, ↓Outcome.evolves_next, ↓State.setLinkUp_evolves]

theorem State.setIsland_evolves {s0 s : State} (ev : Evolves s0 s) (g : Island) : Evolves s0 (State.setIsland s g)
    := by
  unfold State.setIsland
  try dsimp only
  simp +contextual (maxDischargeDepth := 99) only [↓ev, ↓Evolves.update, ↓Evolves.foldl, implies_true, eq_self,
      Cst.wf_iff, Wel.wf_iff, Rst.wf_iff, Pipe.wf_iff, Cul.wf_iff, Pump.wf_iff, Obs.wf_iff, GLink.wf_iff, and_self,
      ↓State.emit_evolves]

theorem State.gauAnswer_evolves {s0 s : State} (ev : Evolves s0 s) (g : Island) (w : BitVec 16) : Evolves s0
    (State.gauAnswer s g w) := by
  unfold State.gauAnswer
  try dsimp only
  simp +contextual (maxDischargeDepth := 99) only [↓ev, ↓State.emit_evolves, ↓State.setIsland_evolves]

theorem execDeltaFrame_evolves {s0 s : State} (ev : Evolves s0 s) (ws : List (BitVec 16)) : Outcome.Evolves s0
    (execDeltaFrame ws s) := by
  unfold execDeltaFrame
  try dsimp only
  (repeat' split) <;> simp +contextual (maxDischargeDepth := 99) only [↓ev, ↓Outcome.evolves_next,
      ↓State.emit_evolves, ↓State.gauAnswer_evolves]

theorem execMarkFrame_evolves {s0 s : State} (ev : Evolves s0 s) (ws : List (BitVec 16)) : Outcome.Evolves s0
    (execMarkFrame ws s) := by
  unfold execMarkFrame
  try dsimp only
  (repeat' split) <;> simp +contextual (maxDischargeDepth := 99) only [↓ev, ↓Outcome.evolves_next,
      ↓State.emit_evolves, ↓State.gauAnswer_evolves]

theorem execConfigFrame_evolves {s0 s : State} (ev : Evolves s0 s) (ws : List (BitVec 16)) : Outcome.Evolves s0
    (execConfigFrame ws s) := by
  unfold execConfigFrame
  try dsimp only
  (repeat' split) <;> simp +contextual (maxDischargeDepth := 99) only [↓ev, ↓Outcome.evolves_next,
      ↓State.emit_evolves, ↓State.gauAnswer_evolves]

theorem execGaugePowerUp_evolves {s0 s : State} (ev : Evolves s0 s) : Outcome.Evolves s0 (execGaugePowerUp s) := by
  unfold execGaugePowerUp
  try dsimp only
  simp +contextual (maxDischargeDepth := 99) only [↓ev, ↓Outcome.evolves_next, ↓State.setIsland_evolves]

theorem execGauPwrfail_evolves {s0 s : State} (ev : Evolves s0 s) : Outcome.Evolves s0 (execGauPwrfail s) := by
  unfold execGauPwrfail
  try dsimp only
  simp +contextual (maxDischargeDepth := 99) only [↓ev, ↓Outcome.evolves_ite, ↓Outcome.evolves_next,
      ↓State.setIsland_evolves]

theorem execInterval_evolves {s0 s : State} (ev : Evolves s0 s) : Outcome.Evolves s0 (execInterval s) := by
  unfold execInterval
  try dsimp only
  simp +contextual (maxDischargeDepth := 99) only [↓ev, ↓Evolves.ite, ↓Outcome.evolves_next, ↓State.setIsland_evolves]

theorem execSealOpen_evolves {s0 s : State} (ev : Evolves s0 s) : Outcome.Evolves s0 (execSealOpen s) := by
  unfold execSealOpen
  try dsimp only
  simp +contextual (maxDischargeDepth := 99) only [↓ev, ↓Outcome.evolves_ite, ↓Outcome.evolves_next,
      ↓State.setIsland_evolves]

theorem execSealClose_evolves {s0 s : State} (ev : Evolves s0 s) : Outcome.Evolves s0 (execSealClose s) := by
  unfold execSealClose
  try dsimp only
  simp +contextual (maxDischargeDepth := 99) only [↓ev, ↓Outcome.evolves_ite, ↓Outcome.evolves_next,
      ↓State.setIsland_evolves]

theorem execPresenceWindowOpen_evolves {s0 s : State} (ev : Evolves s0 s) : Outcome.Evolves s0
    (execPresenceWindowOpen s) := by
  unfold execPresenceWindowOpen
  try dsimp only
  simp +contextual (maxDischargeDepth := 99) only [↓ev, ↓Outcome.evolves_ite, ↓Outcome.evolves_next,
      ↓State.setIsland_evolves]

theorem execPresenceWindowClose_evolves {s0 s : State} (ev : Evolves s0 s) : Outcome.Evolves s0
    (execPresenceWindowClose s) := by
  unfold execPresenceWindowClose
  try dsimp only
  simp +contextual (maxDischargeDepth := 99) only [↓ev, ↓Evolves.ite, ↓Outcome.evolves_next, ↓State.setIsland_evolves]

theorem execPresStuck_evolves {s0 s : State} (ev : Evolves s0 s) : Outcome.Evolves s0 (execPresStuck s) := by
  unfold execPresStuck
  try dsimp only
  simp +contextual (maxDischargeDepth := 99) only [↓ev, ↓Evolves.ite, ↓Outcome.evolves_next, ↓State.setIsland_evolves]

theorem execCfgJmpChange_evolves {s0 s : State} (ev : Evolves s0 s) (v : Bool) : Outcome.Evolves s0
    (execCfgJmpChange v s) := by
  unfold execCfgJmpChange
  try dsimp only
  simp +contextual (maxDischargeDepth := 99) only [↓ev, ↓Evolves.ite, ↓Outcome.evolves_next, ↓State.setIsland_evolves]

theorem State.privRefuse_evolves {s0 s : State} (ev : Evolves s0 s) : Evolves s0 (State.privRefuse s) := by
  unfold State.privRefuse
  try dsimp only
  simp +contextual (maxDischargeDepth := 99) only [↓ev, ↓State.setFlag_evolves, ↓State.setIsland_evolves]

theorem State.privWrite_evolves {s0 s : State} (ev : Evolves s0 s) (v : Nat) : Evolves s0 (State.privWrite s v) := by
  unfold State.privWrite
  try dsimp only
  simp +contextual (maxDischargeDepth := 99) only [↓ev, ↓Evolves.ite, ↓State.privRefuse_evolves,
      ↓State.setFlag_evolves, ↓State.setIsland_evolves]

theorem State.gauRead_evolves {s0 s : State} (ev : Evolves s0 s) (req : BitVec 96) : Evolves s0 (State.gauRead s
    req) := by
  unfold State.gauRead
  try dsimp only
  simp +contextual (maxDischargeDepth := 99) only [↓ev, ↓Evolves.ite, ↓State.emit_evolves]

theorem execReadId_evolves {s0 s : State} (ev : Evolves s0 s) (req : BitVec 96) : Outcome.Evolves s0 (execReadId req
    s) := by
  unfold execReadId
  try dsimp only
  simp +contextual (maxDischargeDepth := 99) only [↓ev, ↓Outcome.evolves_next, ↓State.gauRead_evolves]

theorem execReadRegs_evolves {s0 s : State} (ev : Evolves s0 s) (req : BitVec 96) : Outcome.Evolves s0 (execReadRegs
    req s) := by
  unfold execReadRegs
  try dsimp only
  simp +contextual (maxDischargeDepth := 99) only [↓ev, ↓Outcome.evolves_next, ↓State.gauRead_evolves]

theorem execReadLog_evolves {s0 s : State} (ev : Evolves s0 s) (req : BitVec 96) : Outcome.Evolves s0 (execReadLog
    req s) := by
  unfold execReadLog
  try dsimp only
  simp +contextual (maxDischargeDepth := 99) only [↓ev, ↓Outcome.evolves_next, ↓State.gauRead_evolves]

/-! ## Pump.lean -/

theorem State.setCstate_evolves {s0 s : State} (ev : Evolves s0 s) (c v : Nat) : Evolves s0 (State.setCstate s c v)
    := by
  unfold State.setCstate
  try dsimp only
  simp +contextual (maxDischargeDepth := 99) only [↓ev, ↓State.setFld_evolves]

theorem State.cntZero_evolves {s0 s : State} (ev : Evolves s0 s) (c : Nat) : Evolves s0 (State.cntZero s c) := by
  unfold State.cntZero
  try dsimp only
  simp +contextual (maxDischargeDepth := 99) only [↓ev, ↓Evolves.ite, ↓State.irqEvent_evolves, ↓State.setFlag_evolves]

theorem State.descFinish_evolves {s0 s : State} (ev : Evolves s0 s) (c : Nat) (d : PDesc) (status : Nat) : Evolves
    s0 (State.descFinish s c d status) := by
  unfold State.descFinish
  try dsimp only
  simp +contextual (maxDischargeDepth := 99) only [↓ev, ↓Evolves.ite, ↓State.bump_evolves, ↓State.cntZero_evolves,
      ↓State.count_evolves, ↓State.modChan_evolves, ↓State.setCstate_evolves, ↓State.setFld_evolves,
      ↓State.setPair_evolves]

theorem State.descError_evolves {s0 s : State} (ev : Evolves s0 s) (c : Nat) (d : PDesc) : Evolves s0
    (State.descError s c d) := by
  unfold State.descError
  try dsimp only
  (repeat' split) <;> simp +contextual (maxDischargeDepth := 99) only [↓ev, ↓State.bump_evolves,
      ↓State.cntZero_evolves, ↓State.count_evolves, ↓State.fault_evolves, ↓State.modChan_evolves,
      ↓State.setCstate_evolves, ↓State.setFld_evolves, ↓State.setPair_evolves]

theorem State.descWb_evolves {s0 s : State} (ev : Evolves s0 s) (c : Nat) (d : PDesc) (status result residue : Nat)
    : Evolves s0 (State.descWb s c d status result residue) := by
  unfold State.descWb
  try dsimp only
  simp +contextual (maxDischargeDepth := 99) only [↓ev, ↓State.memWr_evolves, ↓State.modChan_evolves]

theorem State.chanAdvance_evolves {s0 s : State} (ev : Evolves s0 s) (c : Nat) (m0 : Nat) : Evolves s0
    (State.chanAdvance s c m0) := by
  induction m0 generalizing s with
  | zero => exact ev
  | succ m ih =>
    unfold State.chanAdvance; (try dsimp only)
    (repeat' split) <;> simp +contextual (maxDischargeDepth := 99) only [↓ih, ↓ev, ↓State.descError_evolves,
        ↓State.descFinish_evolves, ↓State.descWb_evolves]

theorem State.snapAbandon_evolves {s0 s : State} (ev : Evolves s0 s) (p : Nat) : Evolves s0 (State.snapAbandon s p)
    := by
  unfold State.snapAbandon
  split
  · exact ev
  · extract_lets +onlyGivenNames s1 s2
    have h1 : Evolves s0 s1 := by unfold s1; simp +contextual (maxDischargeDepth := 99) only [↓ev,
        ↓State.complete_evolves, ↓State.modPrt_evolves, ↓State.setFlag_evolves]
    have h2 : Evolves s0 s2 := by unfold s2; simp +contextual (maxDischargeDepth := 99) only [↓h1, ↓ev,
        ↓State.complete_evolves, ↓State.modPrt_evolves, ↓State.setFlag_evolves]
    clear_value s2
    refine Evolves.foldl (fun t a ht => ?_) _ h2
    split <;> simp +contextual (maxDischargeDepth := 99) only [↓ht, ↓ev, ↓State.complete_evolves,
        ↓State.modPrt_evolves, ↓State.setFlag_evolves]

theorem State.dumpEnd_evolves {s0 s : State} (ev : Evolves s0 s) (d : Nat) (r : CplRec) : Evolves s0 (State.dumpEnd
    s d r) := by
  unfold State.dumpEnd
  try dsimp only
  (repeat' split) <;> simp +contextual (maxDischargeDepth := 99) only [↓ev, ↓Evolves.update, implies_true, eq_self,
      Cst.wf_iff, Wel.wf_iff, Rst.wf_iff, Pipe.wf_iff, Cul.wf_iff, Pump.wf_iff, Obs.wf_iff, GLink.wf_iff, twf_tset,
      and_self, ↓State.complete_evolves]

theorem State.dumpBusError_evolves {s0 s : State} (ev : Evolves s0 s) (d : Nat) : Evolves s0 (State.dumpBusError s
    d) := by
  unfold State.dumpBusError
  try dsimp only
  (repeat' split) <;> simp +contextual (maxDischargeDepth := 99) only [↓ev, ↓State.dumpEnd_evolves]

theorem State.stopEntries_evolves {s0 s : State} (ev : Evolves s0 s) (named : Option Nat) : Evolves s0
    (State.stopEntries s named) := by
  unfold State.stopEntries
  try dsimp only
  repeat' first
    | assumption
    | refine Evolves.foldl (fun _ _ _ => ?_) _ ?_
    | refine Evolves.foldl_fst (fun _ _ _ => ?_) _ ?_
    | (simp +contextual (maxDischargeDepth := 99) only [*, ↓State.fault_evolves]; done)
    | split
    | apply State.fault_evolves
    | apply Evolves.update

theorem State.pumpError_evolves {s0 s : State} (ev : Evolves s0 s) (addr : Nat) (host write desc : Bool) (resp chan
    : Nat) : Evolves s0 (State.pumpError s addr host write desc resp chan) := by
  unfold State.pumpError
  try dsimp only
  (repeat' split) <;> simp +contextual (maxDischargeDepth := 99) only [↓ev, ↓Evolves.foldl, implies_true,
      ↓State.ao_evolves, ↓State.bump_evolves, ↓State.dumpBusError_evolves, ↓State.fault_evolves,
      ↓State.setFlag_evolves, ↓State.setPair_evolves, ↓State.setReg_evolves, ↓State.snapAbandon_evolves,
      ↓State.stopEntries_evolves]

theorem State.sysError_evolves {s0 s : State} (ev : Evolves s0 s) (addr : Nat) (host write : Bool) (resp : BitVec 2)
    : Evolves s0 (State.sysError s addr host write resp) := by
  unfold State.sysError
  try dsimp only
  simp +contextual (maxDischargeDepth := 99) only [↓ev, ↓State.pumpError_evolves]

theorem State.writeError_evolves {s0 s : State} (ev : Evolves s0 s) (who : MemWho) (resp chan : Nat) : Evolves s0
    (State.writeError s who resp chan) := by
  unfold State.writeError
  try dsimp only
  (repeat' split) <;> simp +contextual (maxDischargeDepth := 99) only [↓ev, ↓State.pumpError_evolves]

theorem State.cmdErr_evolves {s0 s : State} (ev : Evolves s0 s) (c : Nat) : Evolves s0 (State.cmdErr s c) := by
  unfold State.cmdErr
  try dsimp only
  simp +contextual (maxDischargeDepth := 99) only [↓ev, ↓State.setFlag_evolves]

theorem State.chanEnable_evolves {s0 s : State} (ev : Evolves s0 s) (c : Nat) : Evolves s0 (State.chanEnable s c) :=
    by
  unfold State.chanEnable
  try dsimp only
  simp +contextual (maxDischargeDepth := 99) only [↓ev, ↓Evolves.ite, ↓State.cmdErr_evolves, ↓State.modChan_evolves,
      ↓State.setCstate_evolves, ↓State.setFlag_evolves, ↓State.setFld_evolves, ↓State.setPair_evolves]

theorem State.chanOff_evolves {s0 s : State} (ev : Evolves s0 s) (c : Nat) : Evolves s0 (State.chanOff s c) := by
  unfold State.chanOff
  try dsimp only
  simp +contextual (maxDischargeDepth := 99) only [↓ev, ↓State.modChan_evolves, ↓State.setCstate_evolves,
      ↓State.setFld_evolves]

theorem State.chanUndefined_evolves {s0 s : State} (ev : Evolves s0 s) (c : Nat) : Evolves s0 (State.chanUndefined s
    c) := by
  unfold State.chanUndefined
  try dsimp only
  simp +contextual (maxDischargeDepth := 99) only [↓ev, ↓State.nextFree_evolves, ↓State.setPair_evolves,
      ↓State.setReg_evolves]

theorem State.chanDisable_evolves {s0 s : State} (ev : Evolves s0 s) (c : Nat) : Evolves s0 (State.chanDisable s c)
    := by
  unfold State.chanDisable
  try dsimp only
  simp +contextual (maxDischargeDepth := 99) only [↓ev, ↓Evolves.ite, ↓State.chanOff_evolves,
      ↓State.chanUndefined_evolves, ↓State.modChan_evolves, ↓State.setCstate_evolves, ↓State.setFlag_evolves]

theorem State.headWrite_evolves {s0 s : State} (ev : Evolves s0 s) (c h : Nat) : Evolves s0 (State.headWrite s c h)
    := by
  unfold State.headWrite
  try dsimp only
  simp +contextual (maxDischargeDepth := 99) only [↓ev, ↓Evolves.ite, ↓State.cmdErr_evolves, ↓State.modChan_evolves,
      ↓State.setCstate_evolves, ↓State.setPair_evolves]

theorem State.chanAdd_evolves {s0 s : State} (ev : Evolves s0 s) (c n : Nat) : Evolves s0 (State.chanAdd s c n) := by
  unfold State.chanAdd
  try dsimp only
  simp +contextual (maxDischargeDepth := 99) only [↓ev, ↓Evolves.ite, ↓State.cmdErr_evolves,
      ↓State.setCstate_evolves, ↓State.setFlag_evolves, ↓State.setFld_evolves]

theorem State.chanAbort_evolves {s0 s : State} (ev : Evolves s0 s) (c : Nat) : Evolves s0 (State.chanAbort s c) := by
  unfold State.chanAbort
  try dsimp only
  simp +contextual (maxDischargeDepth := 99) only [↓ev, ↓Evolves.ite, ↓State.cmdErr_evolves, ↓State.setCstate_evolves]

theorem State.chanCmd_evolves {s0 s : State} (ev : Evolves s0 s) (c v : Nat) : Evolves s0 (State.chanCmd s c v) := by
  unfold State.chanCmd
  try dsimp only
  simp +contextual (maxDischargeDepth := 99) only [↓ev, ↓Evolves.ite, ↓State.chanAbort_evolves,
      ↓State.chanAdd_evolves, ↓State.cmdErr_evolves]

theorem State.served_evolves {s0 s : State} (ev : Evolves s0 s) (c : Nat) : Evolves s0 (State.served s c) := by
  unfold State.served
  try dsimp only
  simp +contextual (maxDischargeDepth := 99) only [↓ev, ↓Evolves.update, implies_true, eq_self, Cst.wf_iff,
      Wel.wf_iff, Rst.wf_iff, Pipe.wf_iff, Cul.wf_iff, Pump.wf_iff, Obs.wf_iff, GLink.wf_iff, and_self]

theorem State.sumpDrain_evolves {s0 s : State} (ev : Evolves s0 s) (c i : Nat) : Evolves s0 (State.sumpDrain s c i)
    := by
  unfold State.sumpDrain
  try dsimp only
  simp +contextual (maxDischargeDepth := 99) only [↓ev, ↓Evolves.update, implies_true, eq_self, Cst.wf_iff,
      Wel.wf_iff, Rst.wf_iff, Pipe.wf_iff, Cul.wf_iff, Pump.wf_iff, Obs.wf_iff, GLink.wf_iff, and_self,
      ↓State.memWr_evolves, ↓State.modChan_evolves, ↓State.setSump_evolves]

theorem State.dumpHead_evolves {s0 s : State} (ev : Evolves s0 s) (c d : Nat) (x : Dump) : Evolves s0
    (State.dumpHead s c d x) := by
  unfold State.dumpHead
  try dsimp only
  simp +contextual (maxDischargeDepth := 99) only [↓ev, ↓State.memWr_evolves, ↓State.modChan_evolves]

theorem State.dumpRead_evolves {s0 s : State} (ev : Evolves s0 s) (c d : Nat) (x : Dump) : Evolves s0
    (State.dumpRead s c d x) := by
  unfold State.dumpRead
  try dsimp only
  simp +contextual (maxDischargeDepth := 99) only [↓ev, ↓Evolves.ite, ↓Evolves.update, implies_true, eq_self,
      Cst.wf_iff, Wel.wf_iff, Rst.wf_iff, Pipe.wf_iff, Cul.wf_iff, Pump.wf_iff, Obs.wf_iff, GLink.wf_iff, twf_tset,
      and_self, ↓State.dumpHead_evolves, ↓State.emit_evolves, ↓State.modChan_evolves]

theorem State.drain_evolves {s0 s : State} (ev : Evolves s0 s) (c : Nat) : Evolves s0 (State.drain s c) := by
  unfold State.drain
  try dsimp only
  (repeat' split) <;> simp +contextual (maxDischargeDepth := 99) only [↓ev, ↓State.dumpRead_evolves,
      ↓State.sumpDrain_evolves]

theorem State.descRead_evolves {s0 s : State} (ev : Evolves s0 s) (c : Nat) : Evolves s0 (State.descRead s c) := by
  unfold State.descRead
  try dsimp only
  simp +contextual (maxDischargeDepth := 99) only [↓ev, ↓Evolves.ite, ↓State.emit_evolves, ↓State.modChan_evolves]

theorem execDescriptorRead_evolves {s0 s : State} (ev : Evolves s0 s) : Outcome.Evolves s0 (execDescriptorRead s) :=
    by
  unfold execDescriptorRead
  try dsimp only
  (repeat' split) <;> simp +contextual (maxDischargeDepth := 99) only [↓ev, ↓Outcome.evolves_next,
      ↓State.chanAdvance_evolves, ↓State.descRead_evolves, ↓State.modChan_evolves, ↓State.served_evolves]

theorem execDescriptorReadDone_evolves {s0 s : State} (ev : Evolves s0 s) (c : BitVec 6) (desc : BitVec 256) (resp :
    BitVec 2) : Outcome.Evolves s0 (execDescriptorReadDone c desc resp s) := by
  unfold execDescriptorReadDone
  try dsimp only
  simp +contextual (maxDischargeDepth := 99) only [↓ev, ↓Outcome.evolves_ite, ↓Evolves.foldl, ↓Outcome.evolves_next,
      implies_true, ↓State.chanAdvance_evolves, ↓State.modChan_evolves, ↓State.pumpError_evolves]

theorem execBurstReadIssue_evolves {s0 s : State} (ev : Evolves s0 s) : Outcome.Evolves s0 (execBurstReadIssue s) :=
    by
  unfold execBurstReadIssue
  try dsimp only
  (repeat' split) <;> simp +contextual (maxDischargeDepth := 99) only [↓ev, ↓Outcome.evolves_next,
      ↓State.drain_evolves, ↓State.emit_evolves, ↓State.modChan_evolves, ↓State.served_evolves]

theorem State.dumpData_evolves {s0 s : State} (ev : Evolves s0 s) (c d off len : Nat) (data : List Byte) : Evolves
    s0 (State.dumpData s c d off len data) := by
  unfold State.dumpData
  try dsimp only
  (repeat' split) <;> simp +contextual (maxDischargeDepth := 99) only [↓ev, ↓Evolves.update, implies_true, eq_self,
      Cst.wf_iff, Wel.wf_iff, Rst.wf_iff, Pipe.wf_iff, Cul.wf_iff, Pump.wf_iff, Obs.wf_iff, GLink.wf_iff, twf_tset,
      and_self, ↓State.memWr_evolves, ↓State.modChan_evolves]

theorem State.drainRead_evolves {s0 s : State} (ev : Evolves s0 s) (c : Nat) (data : List Byte) (resp : Nat) :
    Evolves s0 (State.drainRead s c data resp) := by
  unfold State.drainRead
  try dsimp only
  (repeat' split) <;> simp +contextual (maxDischargeDepth := 99) only [↓ev, ↓State.dumpData_evolves,
      ↓State.modChan_evolves, ↓State.pumpError_evolves]

theorem State.snapRead_evolves {s0 s : State} (ev : Evolves s0 s) (c : Nat) (data : List Byte) (resp : Nat) :
    Evolves s0 (State.snapRead s c data resp) := by
  unfold State.snapRead
  try dsimp only
  (repeat' split) <;> simp +contextual (maxDischargeDepth := 99) only [↓ev, ↓State.modChan_evolves,
      ↓State.pumpError_evolves, ↓State.snapSend_evolves]

theorem execBurstReadDone_evolves {s0 s : State} (ev : Evolves s0 s) (c : BitVec 6) (data : List Byte) (resp :
    BitVec 2) : Outcome.Evolves s0 (execBurstReadDone c data resp s) := by
  unfold execBurstReadDone
  try dsimp only
  (repeat' split) <;> simp +contextual (maxDischargeDepth := 99) only [↓ev, ↓Outcome.evolves_next,
      ↓State.drainRead_evolves, ↓State.memWr_evolves, ↓State.modChan_evolves, ↓State.pumpError_evolves,
      ↓State.snapRead_evolves]

theorem State.countBytes_evolves {s0 s : State} (ev : Evolves s0 s) (c : Nat) (p : Option Nat) (n : Nat) : Evolves
    s0 (State.countBytes s c p n) := by
  unfold State.countBytes
  try dsimp only
  (repeat' split) <;> simp +contextual (maxDischargeDepth := 99) only [↓ev, ↓State.count_evolves,
      ↓State.usage_evolves]

theorem State.intDone_evolves {s0 s : State} (ev : Evolves s0 s) (c : Nat) : Evolves s0 (State.intDone s c) := by
  unfold State.intDone
  try dsimp only
  simp +contextual (maxDischargeDepth := 99) only [↓ev, ↓Evolves.ite, ↓State.bump_evolves, ↓State.cntZero_evolves,
      ↓State.count_evolves, ↓State.setFld_evolves]

theorem State.drainWrite_evolves {s0 s : State} (ev : Evolves s0 s) (c resp : Nat) : Evolves s0 (State.drainWrite s
    c resp) := by
  unfold State.drainWrite
  try dsimp only
  (repeat' split) <;> simp +contextual (maxDischargeDepth := 99) only [↓ev, ↓Evolves.update, implies_true, eq_self,
      Cst.wf_iff, Wel.wf_iff, Rst.wf_iff, Pipe.wf_iff, Cul.wf_iff, Pump.wf_iff, Obs.wf_iff, GLink.wf_iff, twf_tset,
      and_self, ↓State.bump_evolves, ↓State.countBytes_evolves, ↓State.intDone_evolves, ↓State.memAck_evolves,
      ↓State.modChan_evolves, ↓State.setSump_evolves, ↓State.writeError_evolves]

theorem State.snapEnd_evolves {s0 s : State} (ev : Evolves s0 s) (p : Nat) (n : Snap) : Evolves s0 (State.snapEnd s
    p n) := by
  unfold State.snapEnd
  extract_lets +onlyGivenNames s1 s2
  have h1 : Evolves s0 s1 := by unfold s1; simp +contextual (maxDischargeDepth := 99) only [↓ev,
      ↓State.complete_evolves, ↓State.modPrt_evolves, ↓State.setFlag_evolves, ↓State.setPair_evolves]
  have h2 : Evolves s0 s2 := by unfold s2; simp +contextual (maxDischargeDepth := 99) only [↓h1, ↓ev,
      ↓State.complete_evolves, ↓State.modPrt_evolves, ↓State.setFlag_evolves, ↓State.setPair_evolves]
  clear_value s2
  refine Evolves.foldl (fun t a ht => ?_) _ h2
  split <;> simp +contextual (maxDischargeDepth := 99) only [↓ht, ↓ev, ↓State.complete_evolves,
      ↓State.modPrt_evolves, ↓State.setFlag_evolves, ↓State.setPair_evolves]

theorem State.snapWrite_evolves {s0 s : State} (ev : Evolves s0 s) (c resp : Nat) : Evolves s0 (State.snapWrite s c
    resp) := by
  unfold State.snapWrite
  try dsimp only
  (repeat' split) <;> simp +contextual (maxDischargeDepth := 99) only [↓ev, ↓State.countBytes_evolves,
      ↓State.intDone_evolves, ↓State.memAck_evolves, ↓State.modChan_evolves, ↓State.modPrt_evolves,
      ↓State.snapEnd_evolves, ↓State.writeError_evolves]

theorem execBurstWriteDone_evolves {s0 s : State} (ev : Evolves s0 s) (c : BitVec 6) (resp : BitVec 2) :
    Outcome.Evolves s0 (execBurstWriteDone c resp s) := by
  unfold execBurstWriteDone
  try dsimp only
  (repeat' split) <;> simp +contextual (maxDischargeDepth := 99) only [↓ev, ↓Outcome.evolves_next,
      ↓State.chanAdvance_evolves, ↓State.countBytes_evolves, ↓State.drainWrite_evolves, ↓State.memAckAt_evolves,
      ↓State.memAck_evolves, ↓State.modChan_evolves, ↓State.pumpError_evolves, ↓State.snapWrite_evolves]

theorem State.chanEnd_evolves {s0 s : State} (ev : Evolves s0 s) (c : Nat) : Evolves s0 (State.chanEnd s c) := by
  unfold State.chanEnd
  try dsimp only
  simp +contextual (maxDischargeDepth := 99) only [↓ev, ↓Evolves.ite, ↓State.cntZero_evolves,
      ↓State.modChan_evolves, ↓State.setCstate_evolves, ↓State.setFld_evolves, ↓State.setPair_evolves]

theorem execDescriptorWriteBackDone_evolves {s0 s : State} (ev : Evolves s0 s) (c : BitVec 6) (resp : BitVec 2) :
    Outcome.Evolves s0 (execDescriptorWriteBackDone c resp s) := by
  unfold execDescriptorWriteBackDone
  try dsimp only
  (repeat' split) <;> simp +contextual (maxDischargeDepth := 99) only [↓ev, ↓Outcome.evolves_next,
      ↓State.chanAdvance_evolves, ↓State.chanEnd_evolves, ↓State.countBytes_evolves, ↓State.descFinish_evolves,
      ↓State.memAckAt_evolves, ↓State.modChan_evolves, ↓State.pumpError_evolves, ↓State.setFld_evolves]

theorem State.chanResidue_evolves {s0 s : State} (ev : Evolves s0 s) (c : Nat) (d : PDesc) : Evolves s0
    (State.chanResidue s c d) := by
  unfold State.chanResidue
  try dsimp only
  simp +contextual (maxDischargeDepth := 99) only [↓ev, ↓State.descWb_evolves]

theorem execChannelQuiet_evolves {s0 s : State} (ev : Evolves s0 s) (c : BitVec 6) : Outcome.Evolves s0
    (execChannelQuiet c s) := by
  unfold execChannelQuiet
  try dsimp only
  (repeat' split) <;> simp +contextual (maxDischargeDepth := 99) only [↓ev, ↓Outcome.evolves_next,
      ↓State.chanAdvance_evolves, ↓State.chanEnd_evolves, ↓State.chanResidue_evolves, ↓State.modChan_evolves,
      ↓State.setCstate_evolves, ↓State.setFld_evolves, ↓State.setPair_evolves]

theorem execRateWindowStart_evolves {s0 s : State} (ev : Evolves s0 s) : Outcome.Evolves s0 (execRateWindowStart s)
    := by
  unfold execRateWindowStart
  try dsimp only
  simp +contextual (maxDischargeDepth := 99) only [↓ev, ↓Evolves.update, ↓Evolves.foldl, ↓Outcome.evolves_next,
      implies_true, eq_self, Cst.wf_iff, Wel.wf_iff, Rst.wf_iff, Pipe.wf_iff, Cul.wf_iff, Pump.wf_iff, Obs.wf_iff,
      GLink.wf_iff, and_self, ↓State.modChan_evolves]

theorem execPumpResumeEffect_evolves {s0 s : State} (ev : Evolves s0 s) : Outcome.Evolves s0 (execPumpResumeEffect
    s) := by
  unfold execPumpResumeEffect
  try dsimp only
  simp +contextual (maxDischargeDepth := 99) only [↓ev, ↓Evolves.ite, ↓Outcome.evolves_ite, ↓Evolves.foldl,
      ↓Outcome.evolves_next, implies_true, ↓State.modChan_evolves, ↓State.setCstate_evolves, ↓State.setFlag_evolves]

/-! ## Complete.lean -/

theorem State.sbIssue_evolves {s0 s : State} (ev : Evolves s0 s) (p : Nat) : Evolves s0 (State.sbIssue s p) := by
  unfold State.sbIssue
  try dsimp only
  (repeat' split) <;> simp +contextual (maxDischargeDepth := 99) only [↓ev, ↓State.memWr_evolves]

theorem State.sb_evolves {s0 s : State} (ev : Evolves s0 s) (p : Nat) (r : SbRec) : Evolves s0 (State.sb s p r) := by
  unfold State.sb
  try dsimp only
  simp +contextual (maxDischargeDepth := 99) only [↓ev, ↓Evolves.ite, ↓State.bump_evolves, ↓State.modPrt_evolves,
      ↓State.sbIssue_evolves]

theorem State.deliverBasin_evolves {s0 s : State} (ev : Evolves s0 s) (m : Mode) (e : Cistern) (empty : Bool) (b :
    Nat) : Evolves s0 (State.deliverBasin s m e empty b) := by
  unfold State.deliverBasin
  try dsimp only
  simp +contextual (maxDischargeDepth := 99) only [↓ev, ↓State.setBasin_evolves]

theorem State.deliveryPass_evolves {s0 s : State} (ev : Evolves s0 s) (p : Nat) (e : Cistern) : Evolves s0
    (State.deliveryPass s p e).1 := by
  unfold State.deliveryPass
  try dsimp only
  simp +contextual (maxDischargeDepth := 99) only [↓ev, ↓Evolves.foldl, implies_true, ↓State.cycles_evolves,
      ↓State.deliverBasin_evolves, ↓State.readBasin_evolves]

theorem State.sendRemote_evolves {s0 s : State} (ev : Evolves s0 s) (p : Nat) (e : Cistern) (d : Nat × Nat) :
    Evolves s0 (State.sendRemote s p e d) := by
  unfold State.sendRemote
  try dsimp only
  simp +contextual (maxDischargeDepth := 99) only [↓ev, ↓Evolves.ite, ↓Evolves.foldl, implies_true,
      ↓State.formFrame_evolves]

theorem State.dumpTrigger_evolves {s0 s : State} (ev : Evolves s0 s) (p cnum : Nat) (e : Cistern) : Evolves s0
    (State.dumpTrigger s p cnum e).1 := by
  unfold State.dumpTrigger
  try dsimp only
  (repeat' split) <;> simp +contextual (maxDischargeDepth := 99) only [↓ev, ↓Evolves.update, implies_true, eq_self,
      Cst.wf_iff, Wel.wf_iff, Rst.wf_iff, Pipe.wf_iff, Cul.wf_iff, Pump.wf_iff, Obs.wf_iff, GLink.wf_iff, twf_tset,
      and_self]

theorem State.notify_evolves {s0 s : State} (ev : Evolves s0 s) (p cnum : Nat) (e : Cistern) (empty : Bool) (root :
    Option (List (Nat × Nat))) (payload : Payload) (tag : Nat × Nat) : Evolves s0 (State.notify s p cnum e empty
    root payload tag) := by
  unfold State.notify
  try dsimp only
  simp +contextual (maxDischargeDepth := 99) only [↓ev, ↓Evolves.update, implies_true, eq_self, Cst.wf_iff,
      Wel.wf_iff, Rst.wf_iff, Pipe.wf_iff, Cul.wf_iff, Pump.wf_iff, Obs.wf_iff, GLink.wf_iff, and_self,
      ↓State.dumpTrigger_evolves]

theorem State.doneAbroad_evolves {s0 s : State} (ev : Evolves s0 s) (p cnum : Nat) (e : Cistern) : Evolves s0
    (State.doneAbroad s p cnum e) := by
  unfold State.doneAbroad
  try dsimp only
  simp +contextual (maxDischargeDepth := 99) only [↓ev, ↓Evolves.update, ↓Evolves.foldl, implies_true, eq_self,
      Cst.wf_iff, Wel.wf_iff, Rst.wf_iff, Pipe.wf_iff, Cul.wf_iff, Pump.wf_iff, Obs.wf_iff, GLink.wf_iff, and_self,
      ↓State.sendRemote_evolves]

theorem State.enter_evolves {s0 s : State} (ev : Evolves s0 s) (p slot cnum : Nat) (e : Cistern) (status : BitVec 4)
    (root : Option (List (Nat × Nat))) (payload : Payload) (tag : Nat × Nat) : Evolves s0 (State.enter s p slot cnum
    e status root payload tag) := by
  unfold State.enter
  try dsimp only
  simp +contextual (maxDischargeDepth := 99) only [↓ev, ↓Evolves.ite, ↓Evolves.ite_fst, ↓State.deliveryPass_evolves,
      ↓State.doneAbroad_evolves, ↓State.grantLeave_evolves, ↓State.notify_evolves, ↓State.setEntry_evolves,
      ↓State.trace_evolves]

/-! ## Root.lean -/

theorem State.tryBank_evolves {s0 s : State} (ev : Evolves s0 s) (w : BankWork) (f : State → State) (hf_f : ∀ t,
    Evolves s0 t → Evolves s0 (f t)) : Evolves s0 (State.tryBank s w f) := by
  unfold State.tryBank
  try dsimp only
  simp +contextual (maxDischargeDepth := 99) only [↓ev, ↓hf_f, ↓Evolves.ite, ↓Evolves.update, implies_true, eq_self,
      Cst.wf_iff, Wel.wf_iff, Rst.wf_iff, Pipe.wf_iff, Cul.wf_iff, Pump.wf_iff, Obs.wf_iff, GLink.wf_iff, and_self,
      ↓State.cycles_evolves]

theorem State.setAct_evolves {s0 s : State} (ev : Evolves s0 s) (ch : Nat) (b : Option Bind) : Evolves s0
    (State.setAct s ch b) := by
  unfold State.setAct
  try dsimp only
  simp +contextual (maxDischargeDepth := 99) only [↓ev, ↓Evolves.update, implies_true, eq_self, Cst.wf_iff,
      Wel.wf_iff, Rst.wf_iff, Pipe.wf_iff, Cul.wf_iff, Pump.wf_iff, Obs.wf_iff, GLink.wf_iff, twf_tset, and_self]

theorem State.modAct_evolves {s0 s : State} (ev : Evolves s0 s) (ch : Nat) (f : Bind → Bind) : Evolves s0
    (State.modAct s ch f) := by
  unfold State.modAct
  try dsimp only
  (repeat' split) <;> simp +contextual (maxDischargeDepth := 99) only [↓ev, ↓State.setAct_evolves]

theorem State.descFault_evolves {s0 s : State} (ev : Evolves s0 s) (p slot cnum : Nat) (e : Cistern) : Evolves s0
    (State.descFault s p slot cnum e) := by
  unfold State.descFault
  try dsimp only
  simp +contextual (maxDischargeDepth := 99) only [↓ev, ↓State.enter_evolves, ↓State.fault_evolves]

theorem State.rootOnly_evolves {s0 s : State} (ev : Evolves s0 s) (b : Bind) (e : Cistern) : Evolves s0
    (State.rootOnly s b e) := by
  unfold State.rootOnly
  try dsimp only
  simp +contextual (maxDischargeDepth := 99) only [↓ev, ↓Evolves.ite, ↓State.notify_evolves]

theorem State.markWrite_evolves {s0 s : State} (ev : Evolves s0 s) (p cnum gen : Nat) (status : BitVec 4) : Evolves
    s0 (State.markWrite s p cnum gen status) := by
  unfold State.markWrite
  try dsimp only
  (repeat' split) <;> simp +contextual (maxDischargeDepth := 99) only [↓ev, ↓State.enter_evolves,
      ↓State.readEntry_evolves]

theorem State.mark_evolves {s0 s : State} (ev : Evolves s0 s) (p cnum gen : Nat) (status : BitVec 4) : Evolves s0
    (State.mark s p cnum gen status) := by
  unfold State.mark
  try dsimp only
  simp +contextual (maxDischargeDepth := 99) only [↓ev, implies_true, ↓State.markWrite_evolves,
      ↓State.tryBank_evolves]

theorem State.releasedWrite_evolves {s0 s : State} (ev : Evolves s0 s) (p cnum gen : Nat) (status : BitVec 4) :
    Evolves s0 (State.releasedWrite s p cnum gen status) := by
  unfold State.releasedWrite
  try dsimp only
  (repeat' split) <;> simp +contextual (maxDischargeDepth := 99) only [↓ev, ↓State.readEntry_evolves,
      ↓State.setEntry_evolves]

theorem State.released_evolves {s0 s : State} (ev : Evolves s0 s) (p cnum gen : Nat) (status : BitVec 4) : Evolves
    s0 (State.released s p cnum gen status) := by
  unfold State.released
  try dsimp only
  simp +contextual (maxDischargeDepth := 99) only [↓ev, implies_true, ↓State.releasedWrite_evolves,
      ↓State.tryBank_evolves]

theorem State.lateStep_evolves {s0 s : State} (ev : Evolves s0 s) (p : Nat) (c : Nat × Nat) : Evolves s0
    (State.lateStep s p c).1 := by
  unfold State.lateStep
  try dsimp only
  simp +contextual (maxDischargeDepth := 99) only [↓ev, ↓Evolves.ite_fst, ↓State.mark_evolves]

theorem State.inTick_evolves {s0 s : State} (ev : Evolves s0 s) (p : Nat) (t : BitVec 48) (f : State → State) (hf_f
    : ∀ t, Evolves s0 t → Evolves s0 (f t)) : Evolves s0 (State.inTick s p t f) := by
  unfold State.inTick
  try dsimp only
  simp +contextual (maxDischargeDepth := 99) only [↓ev, ↓hf_f, ↓State.modPrt_evolves]

theorem State.closeOne_evolves {s0 s : State} (ev : Evolves s0 s) (p cnum : Nat) : Evolves s0 (State.closeOne s p
    cnum) := by
  unfold State.closeOne
  try dsimp only
  (repeat' split) <;> simp +contextual (maxDischargeDepth := 99) only [↓ev, implies_true, ↓State.inTick_evolves,
      ↓State.lateStep_evolves, ↓State.modPrt_evolves]

theorem State.closeFlush_evolves {s0 s : State} (ev : Evolves s0 s) (p : Nat) : Evolves s0 (State.closeFlush s p) :=
    by
  unfold State.closeFlush
  try dsimp only
  (repeat' split) <;> simp +contextual (maxDischargeDepth := 99) only [↓ev, ↓Evolves.foldl_fst, implies_true,
      ↓State.fault_evolves, ↓State.inTick_evolves, ↓State.lateStep_evolves, ↓State.modPrt_evolves]

theorem State.rootWrite_evolves {s0 s : State} (ev : Evolves s0 s) (b : Bind) : Evolves s0 (State.rootWrite s b) := by
  unfold State.rootWrite
  try dsimp only
  (repeat' split) <;> simp +contextual (maxDischargeDepth := 99) only [↓ev, ↓State.closeOne_evolves,
      ↓State.enter_evolves, ↓State.readEntry_evolves, ↓State.rootOnly_evolves, ↓State.setEntry_evolves]

theorem State.rootComplete_evolves {s0 s : State} (ev : Evolves s0 s) (b : Bind) : Evolves s0 (State.rootComplete s
    b) := by
  unfold State.rootComplete
  try dsimp only
  (repeat' split) <;> simp +contextual (maxDischargeDepth := 99) only [↓ev, implies_true, ↓State.rootWrite_evolves,
      ↓State.setAct_evolves, ↓State.tryBank_evolves]

theorem State.rootTest_evolves {s0 s : State} (ev : Evolves s0 s) (ch : Nat) : Evolves s0 (State.rootTest s ch) := by
  unfold State.rootTest
  try dsimp only
  (repeat' split) <;> simp +contextual (maxDischargeDepth := 99) only [↓ev, ↓State.rootComplete_evolves]

theorem State.sideCount_evolves {s0 s : State} (ev : Evolves s0 s) (ch n : Nat) : Evolves s0 (State.sideCount s ch
    n) := by
  unfold State.sideCount
  try dsimp only
  simp +contextual (maxDischargeDepth := 99) only [↓ev, ↓State.modAct_evolves, ↓State.rootTest_evolves]

theorem State.rootCount_evolves {s0 s : State} (ev : Evolves s0 s) (ch n : Nat) : Evolves s0 (State.rootCount s ch
    n) := by
  unfold State.rootCount
  try dsimp only
  simp +contextual (maxDischargeDepth := 99) only [↓ev, ↓State.modAct_evolves, ↓State.rootTest_evolves]

theorem State.bindSample_evolves {s0 s : State} (ev : Evolves s0 s) (ch p cnum : Nat) : Evolves s0 (State.bindSample
    s ch p cnum) := by
  unfold State.bindSample
  extract_lets +onlyGivenNames s1
  have h1 : Evolves s0 s1 := State.closeOne_evolves ev _ _
  clear_value s1
  split
  · split
    · exact State.setAct_evolves (State.readEntry_evolves h1 _ _ _) _ _
    · exact h1
  · exact h1

theorem State.sampleReturn_evolves {s0 s : State} (ev : Evolves s0 s) (ch : Nat) : Evolves s0 (State.sampleReturn s
    ch) := by
  unfold State.sampleReturn
  try dsimp only
  (repeat' split) <;> simp +contextual (maxDischargeDepth := 99) only [↓ev, ↓State.bump_evolves,
      ↓State.rootTest_evolves, ↓State.setAct_evolves]

theorem State.residualTest_evolves {s0 s : State} (ev : Evolves s0 s) (p n cnum : Nat) (e : Cistern) : Evolves s0
    (State.residualTest s p n cnum e) := by
  unfold State.residualTest
  try dsimp only
  simp +contextual (maxDischargeDepth := 99) only [↓ev, ↓Evolves.ite, ↓State.descFault_evolves,
      ↓State.enter_evolves, ↓State.setEntry_evolves]

theorem State.residualWrite_evolves {s0 s : State} (ev : Evolves s0 s) (b : Bind) : Evolves s0 (State.residualWrite
    s b) := by
  unfold State.residualWrite
  extract_lets +onlyGivenNames s1
  have h1 : Evolves s0 s1 := State.closeOne_evolves ev _ _
  clear_value s1
  split
  · exact h1
  · extract_lets +onlyGivenNames r e b2
    have hr : Evolves s0 r.1 := State.readEntry_evolves h1 _ _ _
    clear_value r b2
    (repeat' split) <;> simp +contextual (maxDischargeDepth := 99) only [↓hr, ↓State.residualTest_evolves,
        ↓State.setEntry_evolves]

theorem State.residual_evolves {s0 s : State} (ev : Evolves s0 s) (b : Bind) : Evolves s0 (State.residual s b) := by
  unfold State.residual
  try dsimp only
  (repeat' split) <;> simp +contextual (maxDischargeDepth := 99) only [↓ev, implies_true,
      ↓State.residualWrite_evolves, ↓State.tryBank_evolves]

theorem State.discardTokens_evolves {s0 s : State} (ev : Evolves s0 s) (ch : Nat) : Evolves s0 (State.discardTokens
    s ch) := by
  unfold State.discardTokens
  try dsimp only
  simp +contextual (maxDischargeDepth := 99) only [↓ev, ↓Evolves.ite, ↓Evolves.update, implies_true, eq_self,
      Cst.wf_iff, Wel.wf_iff, Rst.wf_iff, Pipe.wf_iff, Cul.wf_iff, Pump.wf_iff, Obs.wf_iff, GLink.wf_iff, and_self,
      ↓State.ao_evolves, ↓State.bump_evolves]

theorem State.voidRecord_evolves {s0 s : State} (ev : Evolves s0 s) (b : Bind) : Evolves s0 (State.voidRecord s b)
    := by
  unfold State.voidRecord
  try dsimp only
  (repeat' split) <;> simp +contextual (maxDischargeDepth := 99) only [↓ev, ↓State.sb_evolves]

theorem State.unbind_evolves {s0 s : State} (ev : Evolves s0 s) (ch : Nat) (write : Bool) : Evolves s0 (State.unbind
    s ch write) := by
  unfold State.unbind
  try dsimp only
  (repeat' split) <;> simp +contextual (maxDischargeDepth := 99) only [↓ev, ↓State.discardTokens_evolves,
      ↓State.residual_evolves, ↓State.sampleReturn_evolves, ↓State.setAct_evolves, ↓State.voidRecord_evolves]

theorem State.sideFence_evolves {s0 s : State} (ev : Evolves s0 s) (ch : Nat) : Evolves s0 (State.sideFence s ch) :=
    by
  unfold State.sideFence
  try dsimp only
  (repeat' split) <;> simp +contextual (maxDischargeDepth := 99) only [↓ev, ↓Evolves.foldl, implies_true,
      ↓State.serveNak_evolves, ↓State.setAct_evolves]

end Sys2Proof.Machine
end

