-- ==== Sys2Proof/Laws/EvolvesBank.lean ====
section
/-! SUPPORT. What the banks, the wells, the fabric and the control network do to a state: the build and the queue stay, and the invariant is kept. -/

namespace Sys2Proof.Machine

/-! ## Bank.lean -/

theorem State.rightsEvent_evolves {s0 s : State} (ev : Evolves s0 s) (part : Option Nat) (master index unit : Nat) :
    Evolves s0 (State.rightsEvent s part master index unit) := by
  unfold State.rightsEvent
  try dsimp only
  (repeat' split) <;> simp +contextual (maxDischargeDepth := 99) only [↓ev, ↓State.event_evolves]

theorem State.bankCycle_evolves {s0 s : State} (ev : Evolves s0 s) (o : BankOp) : Evolves s0 (State.bankCycle s o)
    := by
  unfold State.bankCycle
  try dsimp only
  simp +contextual (maxDischargeDepth := 99) only [↓ev, ↓State.count_evolves]

theorem State.bill_evolves {s0 s : State} (ev : Evolves s0 s) (o : BankOp) (r : BankRsp) (applied : Bool) (e :
    Cistern) (rm : Nat) : Evolves s0 (State.bill s o r applied e rm) := by
  unfold State.bill
  try dsimp only
  (repeat' split) <;> simp +contextual (maxDischargeDepth := 99) only [↓ev, ↓State.count_evolves,
      ↓State.trace_evolves, ↓State.usage_evolves]

theorem State.setPhase_evolves {s0 s : State} (ev : Evolves s0 s) (f : Nat) (c : Cmd) (ph : Phase) : Evolves s0
    (State.setPhase s f c ph) := by
  unfold State.setPhase
  try dsimp only
  simp +contextual (maxDischargeDepth := 99) only [↓ev, ↓State.modFn_evolves]

theorem State.lockCasNext_evolves {s0 s : State} (ev : Evolves s0 s) (f : Nat) (c : Cmd) (old new : W64) : Evolves
    s0 (State.lockCasNext s f c old new) := by
  unfold State.lockCasNext
  try dsimp only
  simp +contextual (maxDischargeDepth := 99) only [↓ev, ↓Evolves.update, implies_true, eq_self, Cst.wf_iff,
      Wel.wf_iff, Rst.wf_iff, Pipe.wf_iff, Cul.wf_iff, Pump.wf_iff, Obs.wf_iff, GLink.wf_iff, and_self,
      ↓State.setPhase_evolves]

theorem State.lockRefuse_evolves {s0 s : State} (ev : Evolves s0 s) (f : Nat) (c : Cmd) (r : BankRsp) : Evolves s0
    (State.lockRefuse s f c r) := by
  unfold State.lockRefuse
  try dsimp only
  simp +contextual (maxDischargeDepth := 99) only [↓ev, ↓State.complete_evolves, ↓State.rightsEvent_evolves]

theorem State.lockRead_evolves {s0 s : State} (ev : Evolves s0 s) (f : Nat) (c : Cmd) (r : BankRsp) : Evolves s0
    (State.lockRead s f c r) := by
  unfold State.lockRead
  try dsimp only
  simp +contextual (maxDischargeDepth := 99) only [↓ev, ↓Evolves.ite, ↓State.complete_evolves,
      ↓State.lockCasNext_evolves, ↓State.lockRefuse_evolves]

theorem State.dquReply_evolves {s0 s : State} (ev : Evolves s0 s) (f cidx : Nat) (r : BankRsp) : Evolves s0
    (State.dquReply s f cidx r) := by
  unfold State.dquReply
  try dsimp only
  (repeat' split) <;> simp +contextual (maxDischargeDepth := 99) only [↓ev, ↓State.complete_evolves,
      ↓State.dquAnswer_evolves, ↓State.lockRead_evolves]

theorem State.deliver_evolves {s0 s : State} (ev : Evolves s0 s) (o : BankOp) (r : BankRsp) : Evolves s0
    (State.deliver s o r) := by
  unfold State.deliver
  try dsimp only
  (repeat' split) <;> simp +contextual (maxDischargeDepth := 99) only [↓ev, ↓State.dquReply_evolves,
      ↓State.emit_evolves, ↓State.formFrame_evolves, ↓State.modChan_evolves]

theorem State.refuseOp_evolves {s0 s : State} (ev : Evolves s0 s) (o : BankOp) (r : BankRsp) : Evolves s0
    (State.refuseOp s o r) := by
  unfold State.refuseOp
  try dsimp only
  simp +contextual (maxDischargeDepth := 99) only [↓ev, ↓State.bill_evolves, ↓State.deliver_evolves]

theorem State.answer_evolves {s0 s : State} (ev : Evolves s0 s) (o : BankOp) (r : BankRsp) (applied : Bool) (e :
    Cistern) (rm : Nat) : Evolves s0 (State.answer s o r applied e rm) := by
  unfold State.answer
  try dsimp only
  simp +contextual (maxDischargeDepth := 99) only [↓ev, ↓State.bankCycle_evolves, ↓State.bill_evolves,
      ↓State.deliver_evolves]

theorem State.applied_evolves {s0 s : State} (ev : Evolves s0 s) (p slot cnum : Nat) (tag : Option Nat) (e0 e :
    Cistern) (n : Nat) : Evolves s0 (State.applied s p slot cnum tag e0 e n).s := by
  unfold State.applied
  try dsimp only
  (repeat' split) <;> simp +contextual (maxDischargeDepth := 99) only [↓ev, ↓State.descFault_evolves,
      ↓State.enter_evolves, ↓State.setEntry_evolves, ↓State.sideCount_evolves]

theorem State.creditBound_evolves {s0 s : State} (ev : Evolves s0 s) (p cnum : Nat) (e : Cistern) : Evolves s0
    (State.creditBound s p cnum e) := by
  unfold State.creditBound
  try dsimp only
  (repeat' split) <;> simp +contextual (maxDischargeDepth := 99) only [↓ev, ↓State.event_evolves,
      ↓State.fault_evolves, ↓State.grantStop_evolves, ↓State.setGrant_evolves]

theorem State.arriveArmed_evolves {s0 s : State} (ev : Evolves s0 s) (p slot cnum : Nat) (tag : Option Nat) (e :
    Cistern) (n : Nat) : Evolves s0 (State.arriveArmed s p slot cnum tag e n).s := by
  unfold State.arriveArmed
  try dsimp only
  (repeat' split) <;> simp +contextual (maxDischargeDepth := 99) only [↓ev, ↓State.applied_evolves,
      ↓State.creditBound_evolves, ↓State.descFault_evolves, ↓State.setEntry_evolves]

theorem State.postCount_evolves {s0 s : State} (ev : Evolves s0 s) (p slot cnum : Nat) (tag : Option Nat) (e :
    Cistern) (n : Nat) : Evolves s0 (State.postCount s p slot cnum tag e n).s := by
  unfold State.postCount
  try dsimp only
  (repeat' split) <;> simp +contextual (maxDischargeDepth := 99) only [↓ev, ↓State.applied_evolves,
      ↓State.descFault_evolves, ↓State.setEntry_evolves]

theorem State.owe_evolves {s0 s : State} (ev : Evolves s0 s) (g n : Nat) : Evolves s0 (State.owe s g n) := by
  unfold State.owe
  try dsimp only
  simp +contextual (maxDischargeDepth := 99) only [↓ev, ↓Evolves.ite, ↓State.nextFree_evolves,
      ↓State.setGrant_evolves]

theorem State.creditReturn_evolves {s0 s : State} (ev : Evolves s0 s) (p slot cnum : Nat) (e : Cistern) (n : Nat) :
    Evolves s0 (State.creditReturn s p slot cnum e n).s := by
  unfold State.creditReturn
  try dsimp only
  (repeat' split) <;> simp +contextual (maxDischargeDepth := 99) only [↓ev, ↓State.bump_evolves, ↓State.owe_evolves,
      ↓State.setEntry_evolves]

theorem State.contribute_evolves {s0 s : State} (ev : Evolves s0 s) (rm : Nat) (gen : BitVec 16) (b mask : Nat) (x :
    Payload) : Evolves s0 (State.contribute s rm gen b mask x) := by
  unfold State.contribute
  try dsimp only
  simp +contextual (maxDischargeDepth := 99) only [↓ev, ↓State.setBasin_evolves]

theorem State.reduceArmed_evolves {s0 s : State} (ev : Evolves s0 s) (p slot cnum : Nat) (tag : Option Nat) (e :
    Cistern) (o : BankOp) : Evolves s0 (State.reduceArmed s p slot cnum tag e o).s := by
  unfold State.reduceArmed
  try dsimp only
  (repeat' split) <;> simp +contextual (maxDischargeDepth := 99) only [↓ev, ↓State.applied_evolves,
      ↓State.contribute_evolves, ↓State.readBasin_evolves]

theorem State.payWrite_evolves {s0 s : State} (ev : Evolves s0 s) (b : Bind) (k : Token) : Evolves s0
    (State.payWrite s b k) := by
  unfold State.payWrite
  try dsimp only
  (repeat' split) <;> simp +contextual (maxDischargeDepth := 99) only [↓ev, ↓State.bump_evolves,
      ↓State.closeOne_evolves, ↓State.contribute_evolves, ↓State.count_evolves, ↓State.readBasin_evolves,
      ↓State.readEntry_evolves]

theorem State.beyond_evolves {s0 s : State} (ev : Evolves s0 s) (slot : Nat) (e : Cistern) (o : BankOp) : Evolves s0
    (State.beyond s slot e o).s := by
  unfold State.beyond
  try dsimp only
  (repeat' split) <;> simp +contextual (maxDischargeDepth := 99) only [↓ev, ↓State.setEntry_evolves]

theorem State.arrivalRefused_evolves {s0 s : State} (ev : Evolves s0 s) (o : BankOp) (cnum : Nat) (e : Cistern) (res
    : Nat) : Evolves s0 (State.arrivalRefused s o cnum e res) := by
  unfold State.arrivalRefused
  try dsimp only
  (repeat' split) <;> simp +contextual (maxDischargeDepth := 99) only [↓ev, ↓State.bump_evolves,
      ↓State.count_evolves, ↓State.event_evolves]

theorem State.arrival_evolves {s0 s : State} (ev : Evolves s0 s) (p slot cnum : Nat) (e : Cistern) (o : BankOp) :
    Evolves s0 (State.arrival s p slot cnum e o).s := by
  unfold State.arrival
  try dsimp only
  (repeat' split) <;> simp +contextual (maxDischargeDepth := 99) only [↓ev, ↓State.arrivalRefused_evolves,
      ↓State.arriveArmed_evolves, ↓State.beyond_evolves, ↓State.bump_evolves, ↓State.creditReturn_evolves,
      ↓State.postCount_evolves, ↓State.reduceArmed_evolves, ↓State.setEntry_evolves]

theorem State.setDeadline_evolves {s0 s : State} (ev : Evolves s0 s) (p cnum gen : Nat) : Evolves s0
    (State.setDeadline s p cnum gen) := by
  unfold State.setDeadline
  try dsimp only
  simp +contextual (maxDischargeDepth := 99) only [↓ev, ↓Evolves.ite, ↓State.modPrt_evolves]

theorem State.healBasins_evolves {s0 s : State} (ev : Evolves s0 s) (p : Nat) (x : Cistern) : Evolves s0
    (State.healBasins s p x) := by
  unfold State.healBasins
  try dsimp only
  simp +contextual (maxDischargeDepth := 99) only [↓ev, ↓Evolves.ite, ↓Evolves.update, ↓Evolves.foldl, implies_true,
      eq_self, Cst.wf_iff, Wel.wf_iff, Rst.wf_iff, Pipe.wf_iff, Cul.wf_iff, Pump.wf_iff, Obs.wf_iff, GLink.wf_iff,
      twf_tset, and_self, ↓State.clearErr_evolves]

theorem State.arm_evolves {s0 s : State} (ev : Evolves s0 s) (p slot cnum : Nat) (bad dyn : Bool) (a b : W64) :
    Evolves s0 (State.arm s p slot cnum bad dyn a b).1 := by
  unfold State.arm
  extract_lets +onlyGivenNames e d x
  split
  · exact ev
  · split
    · exact ev
    · split
      · exact ev
      · split
        · exact ev
        · extract_lets +onlyGivenNames y c1 s1 s2 s3 s4
          have h1 : Evolves s0 s1 := by unfold s1 c1; simp +contextual (maxDischargeDepth := 99) only [↓ev,
              ↓Evolves.ite, ↓Evolves.ite_fst, ↓Evolves.update, implies_true, eq_self, Cst.wf_iff, Wel.wf_iff,
              Rst.wf_iff, Pipe.wf_iff, Cul.wf_iff, Pump.wf_iff, Obs.wf_iff, GLink.wf_iff, twf_tset, and_self,
              ↓State.enter_evolves, ↓State.grantArm_evolves, ↓State.healBasins_evolves, ↓State.setDeadline_evolves,
              ↓State.setEntry_evolves]
          have h2 : Evolves s0 s2 := by unfold s2; simp +contextual (maxDischargeDepth := 99) only [↓h1, ↓ev,
              ↓Evolves.ite, ↓Evolves.ite_fst, ↓Evolves.update, implies_true, eq_self, Cst.wf_iff, Wel.wf_iff,
              Rst.wf_iff, Pipe.wf_iff, Cul.wf_iff, Pump.wf_iff, Obs.wf_iff, GLink.wf_iff, twf_tset, and_self,
              ↓State.enter_evolves, ↓State.grantArm_evolves, ↓State.healBasins_evolves, ↓State.setDeadline_evolves,
              ↓State.setEntry_evolves]
          have h3 : Evolves s0 s3 := by unfold s3; simp +contextual (maxDischargeDepth := 99) only [↓h2, ↓ev,
              ↓Evolves.ite, ↓Evolves.ite_fst, ↓Evolves.update, implies_true, eq_self, Cst.wf_iff, Wel.wf_iff,
              Rst.wf_iff, Pipe.wf_iff, Cul.wf_iff, Pump.wf_iff, Obs.wf_iff, GLink.wf_iff, twf_tset, and_self,
              ↓State.enter_evolves, ↓State.grantArm_evolves, ↓State.healBasins_evolves, ↓State.setDeadline_evolves,
              ↓State.setEntry_evolves]
          have h4 : Evolves s0 s4 := by unfold s4; simp +contextual (maxDischargeDepth := 99) only [↓h3, ↓ev,
              ↓Evolves.ite, ↓Evolves.ite_fst, ↓Evolves.update, implies_true, eq_self, Cst.wf_iff, Wel.wf_iff,
              Rst.wf_iff, Pipe.wf_iff, Cul.wf_iff, Pump.wf_iff, Obs.wf_iff, GLink.wf_iff, twf_tset, and_self,
              ↓State.enter_evolves, ↓State.grantArm_evolves, ↓State.healBasins_evolves, ↓State.setDeadline_evolves,
              ↓State.setEntry_evolves]
          clear_value s4
          simp +contextual (maxDischargeDepth := 99) only [↓h4, ↓ev, ↓Evolves.ite, ↓Evolves.ite_fst,
              ↓Evolves.update, implies_true, eq_self, Cst.wf_iff, Wel.wf_iff, Rst.wf_iff, Pipe.wf_iff, Cul.wf_iff,
              Pump.wf_iff, Obs.wf_iff, GLink.wf_iff, twf_tset, and_self, ↓State.enter_evolves,
              ↓State.grantArm_evolves, ↓State.healBasins_evolves, ↓State.setDeadline_evolves,
              ↓State.setEntry_evolves]

theorem State.leaveArmed_evolves {s0 s : State} (ev : Evolves s0 s) (p cnum : Nat) (e : Cistern) : Evolves s0
    (State.leaveArmed s p cnum e) := by
  unfold State.leaveArmed
  try dsimp only
  simp +contextual (maxDischargeDepth := 99) only [↓ev, ↓Evolves.ite, ↓State.grantLeave_evolves]

theorem State.clear_evolves {s0 s : State} (ev : Evolves s0 s) (p slot cnum : Nat) (e : Cistern) : Evolves s0
    (State.clear s p slot cnum e).1 := by
  unfold State.clear
  try dsimp only
  simp +contextual (maxDischargeDepth := 99) only [↓ev, ↓Evolves.ite_fst, ↓State.leaveArmed_evolves,
      ↓State.setEntry_evolves]

theorem State.fence_evolves {s0 s : State} (ev : Evolves s0 s) (p slot cnum : Nat) (e : Cistern) : Evolves s0
    (State.fence s p slot cnum e).1 := by
  unfold State.fence
  try dsimp only
  (repeat' split) <;> simp +contextual (maxDischargeDepth := 99) only [↓ev, ↓State.abandonCnum_evolves,
      ↓State.leaveArmed_evolves, ↓State.setEntry_evolves, ↓State.sideFence_evolves]

theorem State.unfence_evolves {s0 s : State} (ev : Evolves s0 s) (slot : Nat) (e : Cistern) : Evolves s0
    (State.unfence s slot e).1 := by
  unfold State.unfence
  try dsimp only
  simp +contextual (maxDischargeDepth := 99) only [↓ev, ↓Evolves.ite_fst, ↓State.setEntry_evolves]

theorem State.cisternOp_evolves {s0 s : State} (ev : Evolves s0 s) (p slot : Nat) (o : BankOp) : Evolves s0
    (State.cisternOp s p slot o) := by
  unfold State.cisternOp
  extract_lets +onlyGivenNames c bad e0 s1 r
  have h1 : Evolves s0 s1 := by unfold s1; simp +contextual (maxDischargeDepth := 99) only [↓ev, ↓Evolves.ite,
      ↓Evolves.ite_fst, ↓State.answer_evolves, ↓State.arm_evolves, ↓State.arrival_evolves, ↓State.bump_evolves,
      ↓State.clear_evolves, ↓State.count_evolves, ↓State.fence_evolves, ↓State.readEntry_evolves,
      ↓State.unfence_evolves]
  have hr : Evolves s0 r.1 := by unfold r; simp +contextual (maxDischargeDepth := 99) only [↓h1, ↓ev, ↓Evolves.ite,
      ↓Evolves.ite_fst, ↓State.answer_evolves, ↓State.arm_evolves, ↓State.arrival_evolves, ↓State.bump_evolves,
      ↓State.clear_evolves, ↓State.count_evolves, ↓State.fence_evolves, ↓State.readEntry_evolves,
      ↓State.unfence_evolves]
  clear_value r
  split
  · simp +contextual (maxDischargeDepth := 99) only [↓hr, ↓ev, ↓Evolves.ite, ↓Evolves.ite_fst,
      ↓State.answer_evolves, ↓State.arm_evolves, ↓State.arrival_evolves, ↓State.bump_evolves, ↓State.clear_evolves,
      ↓State.count_evolves, ↓State.fence_evolves, ↓State.readEntry_evolves, ↓State.unfence_evolves]
  · extract_lets +onlyGivenNames s2 e s3 t a
    have h3 : Evolves s0 s3 := by unfold s3 s2; simp +contextual (maxDischargeDepth := 99) only [↓hr, ↓ev,
        ↓Evolves.ite, ↓Evolves.ite_fst, ↓State.answer_evolves, ↓State.arm_evolves, ↓State.arrival_evolves,
        ↓State.bump_evolves, ↓State.clear_evolves, ↓State.count_evolves, ↓State.fence_evolves,
        ↓State.readEntry_evolves, ↓State.unfence_evolves]
    clear_value s3
    have ht : Evolves s0 t.1 := by unfold t; simp +contextual (maxDischargeDepth := 99) only [↓h3, ↓ev,
        ↓Evolves.ite, ↓Evolves.ite_fst, ↓State.answer_evolves, ↓State.arm_evolves, ↓State.arrival_evolves,
        ↓State.bump_evolves, ↓State.clear_evolves, ↓State.count_evolves, ↓State.fence_evolves,
        ↓State.readEntry_evolves, ↓State.unfence_evolves]
    clear_value t
    have ha : Evolves s0 a.s := by
      unfold a
      split
      · simp +contextual (maxDischargeDepth := 99) only [↓h3, ↓ev, ↓Evolves.ite, ↓Evolves.ite_fst,
          ↓State.answer_evolves, ↓State.arm_evolves, ↓State.arrival_evolves, ↓State.bump_evolves,
          ↓State.clear_evolves, ↓State.count_evolves, ↓State.fence_evolves, ↓State.readEntry_evolves,
          ↓State.unfence_evolves]
      · split <;> simp +contextual (maxDischargeDepth := 99) only [↓h3, ↓ht, ↓ev, ↓Evolves.ite, ↓Evolves.ite_fst,
          ↓State.answer_evolves, ↓State.arm_evolves, ↓State.arrival_evolves, ↓State.bump_evolves,
          ↓State.clear_evolves, ↓State.count_evolves, ↓State.fence_evolves, ↓State.readEntry_evolves,
          ↓State.unfence_evolves]
    clear_value a
    simp +contextual (maxDischargeDepth := 99) only [↓ha, ↓ev, ↓Evolves.ite, ↓Evolves.ite_fst,
        ↓State.answer_evolves, ↓State.arm_evolves, ↓State.arrival_evolves, ↓State.bump_evolves,
        ↓State.clear_evolves, ↓State.count_evolves, ↓State.fence_evolves, ↓State.readEntry_evolves,
        ↓State.unfence_evolves]

theorem State.requestFill_evolves {s0 s : State} (ev : Evolves s0 s) (p cnum : Nat) : Evolves s0 (State.requestFill
    s p cnum) := by
  unfold State.requestFill
  try dsimp only
  (repeat' split) <;> simp +contextual (maxDischargeDepth := 99) only [↓ev, ↓Evolves.update, implies_true, eq_self,
      Cst.wf_iff, Wel.wf_iff, Rst.wf_iff, Pipe.wf_iff, Cul.wf_iff, Pump.wf_iff, Obs.wf_iff, GLink.wf_iff, and_self]

theorem State.answerWork_evolves {s0 s : State} (ev : Evolves s0 s) (w : BankWork) (r : BankRsp) : Evolves s0
    (State.answerWork s w r) := by
  unfold State.answerWork
  try dsimp only
  (repeat' split) <;> simp +contextual (maxDischargeDepth := 99) only [↓ev, ↓Evolves.foldl, implies_true,
      ↓State.answer_evolves, ↓State.bill_evolves, ↓State.count_evolves, ↓State.deliver_evolves]

theorem State.miss_evolves {s0 s : State} (ev : Evolves s0 s) (p cnum : Nat) (w : BankWork) : Evolves s0 (State.miss
    s p cnum w) := by
  unfold State.miss
  try dsimp only
  simp +contextual (maxDischargeDepth := 99) only [↓ev, ↓Evolves.ite, ↓Evolves.update, implies_true, eq_self,
      Cst.wf_iff, Wel.wf_iff, Rst.wf_iff, Pipe.wf_iff, Cul.wf_iff, Pump.wf_iff, Obs.wf_iff, GLink.wf_iff, and_self,
      ↓State.answerWork_evolves, ↓State.count_evolves, ↓State.requestFill_evolves]

theorem State.refuseRights_evolves {s0 s : State} (ev : Evolves s0 s) (o : BankOp) (unit : Nat) : Evolves s0
    (State.refuseRights s o unit) := by
  unfold State.refuseRights
  try dsimp only
  simp +contextual (maxDischargeDepth := 99) only [↓ev, ↓State.answer_evolves, ↓State.rightsEvent_evolves]

theorem State.runCistern_evolves {s0 s : State} (ev : Evolves s0 s) (o : BankOp) : Evolves s0 (State.runCistern s o)
    := by
  unfold State.runCistern
  try dsimp only
  (repeat' split) <;> simp +contextual (maxDischargeDepth := 99) only [↓ev, ↓State.answer_evolves,
      ↓State.bump_evolves, ↓State.cisternOp_evolves, ↓State.miss_evolves, ↓State.refuseRights_evolves]

theorem State.pollAnswer_evolves {s0 s : State} (ev : Evolves s0 s) (p slot cnum : Nat) (l : List BankOp) : Evolves
    s0 (State.pollAnswer s p slot cnum l) := by
  unfold State.pollAnswer
  try dsimp only
  simp +contextual (maxDischargeDepth := 99) only [↓ev, ↓Evolves.ite_fst, ↓Evolves.foldl, implies_true,
      ↓State.bill_evolves, ↓State.count_evolves, ↓State.deliver_evolves, ↓State.readEntry_evolves]

theorem State.runPolls_evolves {s0 s : State} (ev : Evolves s0 s) (cnum : Nat) (l : List BankOp) : Evolves s0
    (State.runPolls s cnum l) := by
  unfold State.runPolls
  try dsimp only
  (repeat' split) <;> simp +contextual (maxDischargeDepth := 99) only [↓ev, ↓Evolves.foldl, implies_true,
      ↓State.answerWork_evolves, ↓State.miss_evolves, ↓State.pollAnswer_evolves, ↓State.refuseRights_evolves]

theorem State.readWord_evolves {s0 s : State} (ev : Evolves s0 s) (b i : Nat) : Evolves s0 (State.readWord s b i).1
    := by
  unfold State.readWord
  try dsimp only
  (repeat' split) <;> simp +contextual (maxDischargeDepth := 99) only [↓ev, ↓State.codeRead_evolves,
      ↓State.poisonBasin_evolves]

theorem State.runWord_evolves {s0 s : State} (ev : Evolves s0 s) (o : BankOp) : Evolves s0 (State.runWord s o) := by
  unfold State.runWord
  try dsimp only
  (repeat' split) <;> simp +contextual (maxDischargeDepth := 99) only [↓ev, ↓State.answer_evolves,
      ↓State.readWord_evolves, ↓State.refuseRights_evolves, ↓State.setBasin_evolves]

/-! ## Wells.lean -/

theorem State.setWell_evolves {s0 s : State} (ev : Evolves s0 s) (n : Nat) (v : W64) : Evolves s0 (State.setWell s n
    v) := by
  unfold State.setWell
  try dsimp only
  simp +contextual (maxDischargeDepth := 99) only [↓ev, ↓Evolves.update, implies_true, eq_self, Cst.wf_iff,
      Wel.wf_iff, Rst.wf_iff, Pipe.wf_iff, Cul.wf_iff, Pump.wf_iff, Obs.wf_iff, GLink.wf_iff, twf_tset, and_self]

theorem State.setBad_evolves {s0 s : State} (ev : Evolves s0 s) (n : Nat) (b : Bool) : Evolves s0 (State.setBad s n
    b) := by
  unfold State.setBad
  try dsimp only
  simp +contextual (maxDischargeDepth := 99) only [↓ev, ↓Evolves.update, implies_true, eq_self, Cst.wf_iff,
      Wel.wf_iff, Rst.wf_iff, Pipe.wf_iff, Cul.wf_iff, Pump.wf_iff, Obs.wf_iff, GLink.wf_iff, twf_tset, and_self]

theorem State.poisonWell_evolves {s0 s : State} (ev : Evolves s0 s) (n : Nat) : Evolves s0 (State.poisonWell s n) :=
    by
  unfold State.poisonWell
  try dsimp only
  simp +contextual (maxDischargeDepth := 99) only [↓ev, ↓State.setBad_evolves, ↓State.setFlag_evolves]

theorem State.poisonWord_evolves {s0 s : State} (ev : Evolves s0 s) (idx : Nat) : Evolves s0 (State.poisonWord s
    idx) := by
  unfold State.poisonWord
  try dsimp only
  simp +contextual (maxDischargeDepth := 99) only [↓ev, ↓Evolves.foldl, implies_true, ↓State.fault_evolves,
      ↓State.poisonWell_evolves]

theorem State.readWell_evolves {s0 s : State} (ev : Evolves s0 s) (n : Nat) : Evolves s0 (State.readWell s n).1 := by
  unfold State.readWell
  try dsimp only
  simp +contextual (maxDischargeDepth := 99) only [↓ev, ↓Evolves.ite_fst, ↓State.codeRead_evolves,
      ↓State.poisonWord_evolves]

theorem State.readTwins_evolves {s0 s : State} (ev : Evolves s0 s) (n : Nat) : Evolves s0 (State.readTwins s n) := by
  unfold State.readTwins
  try dsimp only
  simp +contextual (maxDischargeDepth := 99) only [↓ev, ↓Evolves.ite, ↓State.readWell_evolves]

theorem State.wellHome_evolves {s0 s : State} (ev : Evolves s0 s) (o : BankOp) (chip : Nat) : Evolves s0
    (State.wellHome s o chip) := by
  unfold State.wellHome
  try dsimp only
  (repeat' split) <;> simp +contextual (maxDischargeDepth := 99) only [↓ev, ↓State.answer_evolves,
      ↓State.bump_evolves, ↓State.readWell_evolves, ↓State.refuseRights_evolves, ↓State.setWell_evolves]

theorem State.wellLost_evolves {s0 s : State} (ev : Evolves s0 s) (o : BankOp) (code : Nat) (port : Nat) : Evolves
    s0 (State.wellLost s o code port) := by
  unfold State.wellLost
  try dsimp only
  (repeat' split) <;> simp +contextual (maxDischargeDepth := 99) only [↓ev, ↓State.bump_evolves,
      ↓State.deliver_evolves, ↓State.event_evolves, ↓State.setFlag_evolves]

theorem State.forward_evolves {s0 s : State} (ev : Evolves s0 s) (chip index : Nat) (o : BankOp) : Evolves s0
    (State.forward s chip index o) := by
  unfold State.forward
  try dsimp only
  simp +contextual (maxDischargeDepth := 99) only [↓ev, ↓Evolves.ite, ↓Evolves.update, implies_true, eq_self,
      Cst.wf_iff, Wel.wf_iff, Rst.wf_iff, Pipe.wf_iff, Cul.wf_iff, Pump.wf_iff, Obs.wf_iff, GLink.wf_iff, and_self,
      ↓State.formFrame_evolves]

theorem State.runWell_evolves {s0 s : State} (ev : Evolves s0 s) (o : BankOp) : Evolves s0 (State.runWell s o) := by
  unfold State.runWell
  try dsimp only
  simp +contextual (maxDischargeDepth := 99) only [↓ev, ↓Evolves.ite, ↓State.forward_evolves,
      ↓State.refuseOp_evolves, ↓State.wellHome_evolves, ↓State.wellLost_evolves]

theorem State.cisternLost_evolves {s0 s : State} (ev : Evolves s0 s) (o : BankOp) (code : Nat) (port : Nat) :
    Evolves s0 (State.cisternLost s o code port) := by
  unfold State.cisternLost
  try dsimp only
  (repeat' split) <;> simp +contextual (maxDischargeDepth := 99) only [↓ev, ↓State.deliver_evolves,
      ↓State.event_evolves]

theorem State.run_evolves {s0 s : State} (ev : Evolves s0 s) (o : BankOp) : Evolves s0 (State.run s o) := by
  unfold State.run
  try dsimp only
  simp +contextual (maxDischargeDepth := 99) only [↓ev, ↓Evolves.ite, ↓State.runCistern_evolves,
      ↓State.runWell_evolves, ↓State.runWord_evolves]

theorem State.issue_evolves {s0 s : State} (ev : Evolves s0 s) (o : BankOp) : Evolves s0 (State.issue s o) := by
  unfold State.issue
  try dsimp only
  simp +contextual (maxDischargeDepth := 99) only [↓ev, ↓Evolves.ite, implies_true, ↓State.runWell_evolves,
      ↓State.run_evolves, ↓State.tryBank_evolves]

theorem State.doWork_evolves {s0 s : State} (ev : Evolves s0 s) (w : BankWork) : Evolves s0 (State.doWork s w) := by
  unfold State.doWork
  try dsimp only
  (repeat' split) <;> simp +contextual (maxDischargeDepth := 99) only [↓ev, ↓State.bindSample_evolves,
      ↓State.markWrite_evolves, ↓State.payWrite_evolves, ↓State.releasedWrite_evolves, ↓State.residualWrite_evolves,
      ↓State.rootWrite_evolves, ↓State.runPolls_evolves, ↓State.run_evolves]

theorem State.issueWork_evolves {s0 s : State} (ev : Evolves s0 s) (w : BankWork) : Evolves s0 (State.issueWork s w)
    := by
  unfold State.issueWork
  try dsimp only
  simp +contextual (maxDischargeDepth := 99) only [↓ev, implies_true, ↓State.doWork_evolves, ↓State.tryBank_evolves]

theorem State.noticeStep_evolves {s0 s : State} (ev : Evolves s0 s) (n : Nat × Bool × List Nat) : Evolves s0
    (State.noticeStep s n) := by
  unfold State.noticeStep
  try dsimp only
  (repeat' split) <;> simp +contextual (maxDischargeDepth := 99) only [↓ev, ↓Evolves.update, ↓Evolves.foldl,
      implies_true, eq_self, Cst.wf_iff, Wel.wf_iff, Rst.wf_iff, Pipe.wf_iff, Cul.wf_iff, Pump.wf_iff, Obs.wf_iff,
      GLink.wf_iff, and_self, ↓State.formFrame_evolves]

theorem State.noticeAll_evolves {s0 s : State} (ev : Evolves s0 s) : Evolves s0 (State.noticeAll s) := by
  unfold State.noticeAll
  try dsimp only
  simp +contextual (maxDischargeDepth := 99) only [↓ev, ↓Evolves.ite, ↓Evolves.update, ↓Evolves.foldl, implies_true,
      eq_self, Cst.wf_iff, Wel.wf_iff, Rst.wf_iff, Pipe.wf_iff, Cul.wf_iff, Pump.wf_iff, Obs.wf_iff, GLink.wf_iff,
      and_self, ↓State.noticeStep_evolves]

theorem State.addPend_evolves {s0 s : State} (ev : Evolves s0 s) (chip : Nat) (ms : List Nat) : Evolves s0
    (State.addPend s chip ms) := by
  unfold State.addPend
  try dsimp only
  simp +contextual (maxDischargeDepth := 99) only [↓ev, ↓Evolves.ite, ↓Evolves.update, ↓Evolves.foldl, implies_true,
      eq_self, Cst.wf_iff, Wel.wf_iff, Rst.wf_iff, Pipe.wf_iff, Cul.wf_iff, Pump.wf_iff, Obs.wf_iff, GLink.wf_iff,
      and_self]

theorem State.raiseFree_evolves {s0 s : State} (ev : Evolves s0 s) (ms : List Nat) : Evolves s0 (State.raiseFree s
    ms) := by
  unfold State.raiseFree
  try dsimp only
  simp +contextual (maxDischargeDepth := 99) only [↓ev, ↓Evolves.update, ↓Evolves.foldl, implies_true, eq_self,
      Cst.wf_iff, Wel.wf_iff, Rst.wf_iff, Pipe.wf_iff, Cul.wf_iff, Pump.wf_iff, Obs.wf_iff, GLink.wf_iff, and_self,
      ↓State.addPend_evolves, ↓State.noticeAll_evolves]

theorem execFreeingPassStart_evolves {s0 s : State} (ev : Evolves s0 s) : Outcome.Evolves s0 (execFreeingPassStart
    s) := by
  unfold execFreeingPassStart
  try dsimp only
  simp +contextual (maxDischargeDepth := 99) only [↓ev, ↓Outcome.evolves_ite, ↓Evolves.update,
      ↓Outcome.evolves_next, implies_true, eq_self, Cst.wf_iff, Wel.wf_iff, Rst.wf_iff, Pipe.wf_iff, Cul.wf_iff,
      Pump.wf_iff, Obs.wf_iff, GLink.wf_iff, and_self]

theorem State.passWell_evolves {s0 s : State} (ev : Evolves s0 s) (set : List (Nat × Nat)) (e : Nat × W64) : Evolves
    s0 (State.passWell set s e) := by
  unfold State.passWell
  try dsimp only
  simp +contextual (maxDischargeDepth := 99) only [↓ev, ↓Evolves.ite, ↓State.bump_evolves, ↓State.setWell_evolves]

theorem State.passWords_evolves {s0 s : State} (ev : Evolves s0 s) (set : List (Nat × Nat)) (lo hi : Nat) : Evolves
    s0 (State.passWords s set lo hi) := by
  unfold State.passWords
  try dsimp only
  simp +contextual (maxDischargeDepth := 99) only [↓ev, ↓Evolves.foldl, implies_true, ↓State.passWell_evolves,
      ↓State.readTwins_evolves]

theorem State.passStep_evolves {s0 s : State} (ev : Evolves s0 s) : Evolves s0 (State.passStep s) := by
  unfold State.passStep
  try dsimp only
  (repeat' split) <;> simp +contextual (maxDischargeDepth := 99) only [↓ev, ↓Evolves.update, implies_true, eq_self,
      Cst.wf_iff, Wel.wf_iff, Rst.wf_iff, Pipe.wf_iff, Cul.wf_iff, Pump.wf_iff, Obs.wf_iff, GLink.wf_iff, and_self,
      ↓State.passWords_evolves]

theorem execFreeingPassEnd_evolves {s0 s : State} (ev : Evolves s0 s) : Outcome.Evolves s0 (execFreeingPassEnd s) :=
    by
  unfold execFreeingPassEnd
  try dsimp only
  (repeat' split) <;> simp +contextual (maxDischargeDepth := 99) only [↓ev, ↓Evolves.update, ↓Outcome.evolves_next,
      implies_true, eq_self, Cst.wf_iff, Wel.wf_iff, Rst.wf_iff, Pipe.wf_iff, Cul.wf_iff, Pump.wf_iff, Obs.wf_iff,
      GLink.wf_iff, and_self, ↓State.passWords_evolves]

theorem State.rightsWrite_evolves {s0 s : State} (ev : Evolves s0 s) (g w v : Nat) : Evolves s0 (State.rightsWrite s
    g w v) := by
  unfold State.rightsWrite
  try dsimp only
  (repeat' split) <;> simp +contextual (maxDischargeDepth := 99) only [↓ev, ↓Evolves.foldl, implies_true,
      ↓State.cfgLocked_evolves, ↓State.setFlag_evolves, ↓State.setReg_evolves]

theorem State.groupInit_evolves {s0 s : State} (ev : Evolves s0 s) (g : Nat) : Evolves s0 (State.groupInit s g) := by
  unfold State.groupInit
  try dsimp only
  (repeat' split) <;> simp +contextual (maxDischargeDepth := 99) only [↓ev, ↓State.setFlag_evolves]

theorem State.initWell_evolves {s0 s : State} (ev : Evolves s0 s) (n : Nat) : Evolves s0 (State.initWell s n) := by
  unfold State.initWell
  try dsimp only
  simp +contextual (maxDischargeDepth := 99) only [↓ev, ↓State.clearErr_evolves, ↓State.readTwins_evolves,
      ↓State.setBad_evolves, ↓State.setWell_evolves]

theorem execGroupInitDone_evolves {s0 s : State} (ev : Evolves s0 s) (g : BitVec 10) : Outcome.Evolves s0
    (execGroupInitDone g s) := by
  unfold execGroupInitDone
  try dsimp only
  simp +contextual (maxDischargeDepth := 99) only [↓ev, ↓Outcome.evolves_ite, ↓Evolves.foldl, ↓Outcome.evolves_next,
      implies_true, ↓State.initWell_evolves, ↓State.setFld_evolves]

theorem State.dropFwd_evolves {s0 s : State} (ev : Evolves s0 s) (x : Fwd) : Evolves s0 (State.dropFwd s x) := by
  unfold State.dropFwd
  try dsimp only
  simp +contextual (maxDischargeDepth := 99) only [↓ev, ↓Evolves.update, implies_true, eq_self, Cst.wf_iff,
      Wel.wf_iff, Rst.wf_iff, Pipe.wf_iff, Cul.wf_iff, Pump.wf_iff, Obs.wf_iff, GLink.wf_iff, and_self]

theorem execWellForwardTimeout_evolves {s0 s : State} (ev : Evolves s0 s) (tag : BitVec 8) : Outcome.Evolves s0
    (execWellForwardTimeout tag s) := by
  unfold execWellForwardTimeout
  try dsimp only
  (repeat' split) <;> simp +contextual (maxDischargeDepth := 99) only [↓ev, ↓Outcome.evolves_next,
      ↓State.dropFwd_evolves, ↓State.wellLost_evolves]

theorem execCisternForwardTimeout_evolves {s0 s : State} (ev : Evolves s0 s) (tag : BitVec 8) : Outcome.Evolves s0
    (execCisternForwardTimeout tag s) := by
  unfold execCisternForwardTimeout
  try dsimp only
  (repeat' split) <;> simp +contextual (maxDischargeDepth := 99) only [↓ev, ↓Outcome.evolves_next,
      ↓State.cisternLost_evolves, ↓State.dropFwd_evolves, ↓State.drop_evolves]

/-! ## Fabric.lean -/

theorem State.setFab_evolves {s0 s : State} (ev : Evolves s0 s) (c : Nat) (x : FabSt) : Evolves s0 (State.setFab s c
    x) := by
  unfold State.setFab
  try dsimp only
  simp +contextual (maxDischargeDepth := 99) only [↓ev, ↓Evolves.update, implies_true, eq_self, Cst.wf_iff,
      Wel.wf_iff, Rst.wf_iff, Pipe.wf_iff, Cul.wf_iff, Pump.wf_iff, Obs.wf_iff, GLink.wf_iff, and_self]

theorem State.fabricArrival_evolves {s0 s : State} (ev : Evolves s0 s) (c : Nat) : Evolves s0 (State.fabricArrival s
    c) := by
  unfold State.fabricArrival
  try dsimp only
  simp +contextual (maxDischargeDepth := 99) only [↓ev, ↓State.issue_evolves]

theorem State.releaseDown_evolves {s0 s : State} (ev : Evolves s0 s) (c : Nat) : Evolves s0 (State.releaseDown s c)
    := by
  unfold State.releaseDown
  try dsimp only
  simp +contextual (maxDischargeDepth := 99) only [↓ev, ↓State.sendCountAll_evolves]

theorem State.rootSum_evolves {s0 s : State} (ev : Evolves s0 s) (c n : Nat) : Evolves s0 (State.rootSum s c n).1 :=
    by
  unfold State.rootSum
  try dsimp only
  simp +contextual (maxDischargeDepth := 99) only [↓ev, ↓Evolves.ite, ↓Evolves.ite_fst, ↓State.bump_evolves,
      ↓State.setFld_evolves]

theorem State.releaseHere_evolves {s0 s : State} (ev : Evolves s0 s) (c : Nat) : Evolves s0 (State.releaseHere s
    c).1 := by
  unfold State.releaseHere
  try dsimp only
  simp +contextual (maxDischargeDepth := 99) only [↓ev, ↓Evolves.ite_fst, ↓State.fabricArrival_evolves,
      ↓State.rootSum_evolves, ↓State.sendCount_evolves, ↓State.setFlag_evolves]

theorem State.fabricRelease_evolves {s0 s : State} (ev : Evolves s0 s) (c : Nat) (m0 : Nat) : Evolves s0
    (State.fabricRelease s c m0) := by
  induction m0 generalizing s with
  | zero => exact ev
  | succ m ih =>
    unfold State.fabricRelease; (try dsimp only)
    (repeat' split) <;> simp +contextual (maxDischargeDepth := 99) only [↓ih, ↓ev, ↓State.releaseDown_evolves,
        ↓State.releaseHere_evolves]

theorem State.fabricUp_evolves {s0 s : State} (ev : Evolves s0 s) (c n : Nat) : Evolves s0 (State.fabricUp s c n) :=
    by
  unfold State.fabricUp
  try dsimp only
  simp +contextual (maxDischargeDepth := 99) only [↓ev, ↓Evolves.ite, ↓State.fabricRelease_evolves,
      ↓State.rootSum_evolves, ↓State.sendCount_evolves]

theorem State.contribution_evolves {s0 s : State} (ev : Evolves s0 s) (c : Nat) : Evolves s0 (State.contribution s
    c) := by
  unfold State.contribution
  try dsimp only
  simp +contextual (maxDischargeDepth := 99) only [↓ev, ↓Evolves.ite, ↓State.bump_evolves, ↓State.fabricUp_evolves,
      ↓State.setFlag_evolves]

theorem State.contributeOf_evolves {s0 s : State} (ev : Evolves s0 s) (d : Nat × Nat) : Evolves s0
    (State.contributeOf s d) := by
  unfold State.contributeOf
  try dsimp only
  simp +contextual (maxDischargeDepth := 99) only [↓ev, ↓Evolves.foldl, implies_true, ↓State.contribution_evolves]

theorem State.tcloseRoot_evolves {s0 s : State} (ev : Evolves s0 s) (c n : Nat) (l : Bool) : Evolves s0
    (State.tcloseRoot s c n l) := by
  unfold State.tcloseRoot
  try dsimp only
  simp +contextual (maxDischargeDepth := 99) only [↓ev, ↓Evolves.ite, ↓Evolves.foldl, implies_true,
      ↓State.modPrt_evolves, ↓State.releaseDown_evolves, ↓State.sendCountAll_evolves, ↓State.sendHop_evolves,
      ↓State.setFab_evolves, ↓State.setFld_evolves]

theorem State.tcloseUp_evolves {s0 s : State} (ev : Evolves s0 s) (c n : Nat) (l : Bool) : Evolves s0
    (State.tcloseUp s c n l) := by
  unfold State.tcloseUp
  try dsimp only
  simp +contextual (maxDischargeDepth := 99) only [↓ev, ↓Evolves.ite, ↓State.sendCount_evolves,
      ↓State.tcloseRoot_evolves]

theorem State.closeEval_evolves {s0 s : State} (ev : Evolves s0 s) (p : Nat) : Evolves s0 (State.closeEval s p) := by
  unfold State.closeEval
  try dsimp only
  (repeat' split) <;> simp +contextual (maxDischargeDepth := 99) only [↓ev, ↓State.modPrt_evolves,
      ↓State.tcloseUp_evolves]

theorem State.lateDone_evolves {s0 s : State} (ev : Evolves s0 s) (p : Nat) : Evolves s0 (State.lateDone s p) := by
  unfold State.lateDone
  try dsimp only
  (repeat' split) <;> simp +contextual (maxDischargeDepth := 99) only [↓ev, ↓State.modPrt_evolves,
      ↓State.tcloseUp_evolves]

theorem State.epDrop_evolves {s0 s : State} (ev : Evolves s0 s) : Evolves s0 (State.epDrop s) := by
  unfold State.epDrop
  try dsimp only
  simp +contextual (maxDischargeDepth := 99) only [↓ev, ↓State.bump_evolves]

theorem State.countOn_evolves {s0 s : State} (ev : Evolves s0 s) (c w : Nat) : Evolves s0 (State.countOn s c w) := by
  unfold State.countOn
  try dsimp only
  simp +contextual (maxDischargeDepth := 99) only [↓ev, ↓Evolves.ite, ↓State.releaseDown_evolves,
      ↓State.sendCountAll_evolves]

theorem State.countHere_evolves {s0 s : State} (ev : Evolves s0 s) (c w : Nat) : Evolves s0 (State.countHere s c w)
    := by
  unfold State.countHere
  try dsimp only
  simp +contextual (maxDischargeDepth := 99) only [↓ev, ↓Evolves.ite, ↓State.fabricUp_evolves,
      ↓State.modPrt_evolves, ↓State.releaseHere_evolves, ↓State.tcloseUp_evolves]

theorem State.tcloseClear_evolves {s0 s : State} (ev : Evolves s0 s) (p : Nat) : Evolves s0 (State.tcloseClear s p)
    := by
  unfold State.tcloseClear
  try dsimp only
  (repeat' split) <;> simp +contextual (maxDischargeDepth := 99) only [↓ev, ↓State.setFab_evolves,
      ↓State.setFld_evolves]

theorem State.setFill_evolves {s0 s : State} (ev : Evolves s0 s) (x y : Fill) : Evolves s0 (State.setFill s x y) := by
  unfold State.setFill
  try dsimp only
  simp +contextual (maxDischargeDepth := 99) only [↓ev, ↓Evolves.update, implies_true, eq_self, Cst.wf_iff,
      Wel.wf_iff, Rst.wf_iff, Pipe.wf_iff, Cul.wf_iff, Pump.wf_iff, Obs.wf_iff, GLink.wf_iff, and_self]

theorem State.fillStep_evolves {s0 s : State} (ev : Evolves s0 s) (x : Fill) : Evolves s0 (State.fillStep s x) := by
  unfold State.fillStep
  try dsimp only
  simp +contextual (maxDischargeDepth := 99) only [↓ev, ↓Evolves.ite, ↓Evolves.update, implies_true, eq_self,
      Cst.wf_iff, Wel.wf_iff, Rst.wf_iff, Pipe.wf_iff, Cul.wf_iff, Pump.wf_iff, Obs.wf_iff, GLink.wf_iff, and_self,
      ↓State.memRd_evolves, ↓State.memWr_evolves, ↓State.readEntry_evolves, ↓State.setFill_evolves]

theorem State.settleStep_evolves {s0 s : State} (ev : Evolves s0 s) : ∀ u, State.settleStep s = some u → Evolves s0
    u := by
  have hh : ∀ (l : List BankWork) (tr : List Nat) (u : State), s.holdStep l tr = some u → Evolves s0 u := by
    have h1 : ∀ w, Evolves s0 ({ s with cst := { s.cst with hold := s.cst.hold.erase w } } : State) :=
      fun w => ev.update id id id id id id id id id id id id
    intro l
    induction l with
    | nil => intro tr u hu; exact nomatch hu
    | cons w l ih =>
      intro tr u hu
      have h2 := State.doWork_evolves (State.cycles_evolves (h1 w) (workCycles w)) w
      rw [State.holdStep] at hu
      dsimp only at hu
      generalize State.doWork _ w = t at hu h2
      split at hu
      · exact ih _ _ hu
      · split at hu
        · exact ih _ _ hu
        · exact Option.some.inj hu ▸ h2
  intro u hu
  unfold State.settleStep at hu
  split at hu
  · obtain rfl := Option.some.inj hu; simp +contextual (maxDischargeDepth := 99) only [↓ev, ↓Evolves.update,
      implies_true, eq_self, Cst.wf_iff, Wel.wf_iff, Rst.wf_iff, Pipe.wf_iff, Cul.wf_iff, Pump.wf_iff, Obs.wf_iff,
      GLink.wf_iff, and_self, ↓State.contributeOf_evolves, ↓State.fillStep_evolves, ↓State.issue_evolves,
      ↓State.lateDone_evolves]
  · split at hu
    · obtain rfl := Option.some.inj hu; simp +contextual (maxDischargeDepth := 99) only [↓ev, ↓Evolves.update,
        implies_true, eq_self, Cst.wf_iff, Wel.wf_iff, Rst.wf_iff, Pipe.wf_iff, Cul.wf_iff, Pump.wf_iff, Obs.wf_iff,
        GLink.wf_iff, and_self, ↓State.contributeOf_evolves, ↓State.fillStep_evolves, ↓State.issue_evolves,
        ↓State.lateDone_evolves]
    · split at hu
      · obtain rfl := Option.some.inj hu; exact hh _ _ _ ‹_›
      · split at hu
        · obtain rfl := Option.some.inj hu; simp +contextual (maxDischargeDepth := 99) only [↓ev, ↓Evolves.update,
            implies_true, eq_self, Cst.wf_iff, Wel.wf_iff, Rst.wf_iff, Pipe.wf_iff, Cul.wf_iff, Pump.wf_iff,
            Obs.wf_iff, GLink.wf_iff, and_self, ↓State.contributeOf_evolves, ↓State.fillStep_evolves,
            ↓State.issue_evolves, ↓State.lateDone_evolves]
        · obtain ⟨p, -, rfl⟩ := Option.map_eq_some_iff.1 hu; simp +contextual (maxDischargeDepth := 99) only [↓ev,
            ↓Evolves.update, implies_true, eq_self, Cst.wf_iff, Wel.wf_iff, Rst.wf_iff, Pipe.wf_iff, Cul.wf_iff,
            Pump.wf_iff, Obs.wf_iff, GLink.wf_iff, and_self, ↓State.contributeOf_evolves, ↓State.fillStep_evolves,
            ↓State.issue_evolves, ↓State.lateDone_evolves]

theorem State.settleN_evolves {s0 s : State} (ev : Evolves s0 s) (m0 : Nat) : Evolves s0 (State.settleN s m0) := by
  induction m0 generalizing s with
  | zero => exact ev
  | succ m ih =>
    unfold State.settleN
    split
    · exact ih (State.settleStep_evolves ev _ ‹_›)
    · exact ev

theorem State.settle_evolves {s0 s : State} (ev : Evolves s0 s) : Evolves s0 (State.settle s) := by
  exact State.noticeAll_evolves (State.settleN_evolves ev _)

/-! ## Cnp.lean -/

theorem State.pollReq_evolves {s0 s : State} (ev : Evolves s0 s) (o : BankOp) : Evolves s0 (State.pollReq s o) := by
  unfold State.pollReq
  try dsimp only
  (repeat' split) <;> simp +contextual (maxDischargeDepth := 99) only [↓ev, ↓Evolves.update, implies_true, eq_self,
      Cst.wf_iff, Wel.wf_iff, Rst.wf_iff, Pipe.wf_iff, Cul.wf_iff, Pump.wf_iff, Obs.wf_iff, GLink.wf_iff, and_self,
      ↓State.count_evolves, ↓State.issue_evolves, ↓State.refuseRights_evolves]

theorem execPollWindowClose_evolves {s0 s : State} (ev : Evolves s0 s) (cnum : Cnum) : Outcome.Evolves s0
    (execPollWindowClose cnum s) := by
  unfold execPollWindowClose
  try dsimp only
  (repeat' split) <;> simp +contextual (maxDischargeDepth := 99) only [↓ev, ↓Evolves.update, ↓Outcome.evolves_next,
      implies_true, eq_self, Cst.wf_iff, Wel.wf_iff, Rst.wf_iff, Pipe.wf_iff, Cul.wf_iff, Pump.wf_iff, Obs.wf_iff,
      GLink.wf_iff, and_self, ↓State.runPolls_evolves, ↓State.settle_evolves, ↓State.tryBank_evolves]

theorem State.submit_evolves {s0 s : State} (ev : Evolves s0 s) (o : BankOp) : Evolves s0 (State.submit s o) := by
  unfold State.submit
  try dsimp only
  (repeat' split) <;> simp +contextual (maxDischargeDepth := 99) only [↓ev, ↓State.cisternLost_evolves,
      ↓State.forward_evolves, ↓State.issue_evolves, ↓State.pollReq_evolves, ↓State.setFlag_evolves]

theorem State.cnp_evolves {s0 s : State} (ev : Evolves s0 s) (q : CnpReq) (opc : Nat) (pay : Payload) : Evolves s0
    (State.cnp s q opc pay) := by
  unfold State.cnp
  try dsimp only
  simp +contextual (maxDischargeDepth := 99) only [↓ev, ↓Evolves.ite, ↓State.emit_evolves, ↓State.refuseOp_evolves,
      ↓State.submit_evolves]

theorem State.cnpGate_evolves {s0 s : State} (ev : Evolves s0 s) (i : Instr) (q : CnpReq) (opc : Nat) (pay :
    Payload) : Outcome.Evolves s0 (State.cnpGate s i q opc pay) := by
  unfold State.cnpGate
  try dsimp only
  simp +contextual (maxDischargeDepth := 99) only [↓ev, ↓Outcome.evolves_ite, ↓Evolves.update,
      ↓Outcome.evolves_next, implies_true, eq_self, Cst.wf_iff, Wel.wf_iff, Rst.wf_iff, Pipe.wf_iff, Cul.wf_iff,
      Pump.wf_iff, Obs.wf_iff, GLink.wf_iff, and_self, ↓State.cnp_evolves, ↓State.settle_evolves]

theorem execArrive_evolves {s0 s : State} (ev : Evolves s0 s) (q : CnpReq) : Outcome.Evolves s0 (execArrive q s) := by
  unfold execArrive
  try dsimp only
  simp +contextual (maxDischargeDepth := 99) only [↓ev, ↓State.cnpGate_evolves]

theorem execArriveN_evolves {s0 s : State} (ev : Evolves s0 s) (q : CnpReq) : Outcome.Evolves s0 (execArriveN q s)
    := by
  unfold execArriveN
  try dsimp only
  simp +contextual (maxDischargeDepth := 99) only [↓ev, ↓State.cnpGate_evolves]

theorem execPostCount_evolves {s0 s : State} (ev : Evolves s0 s) (q : CnpReq) : Outcome.Evolves s0 (execPostCount q
    s) := by
  unfold execPostCount
  try dsimp only
  simp +contextual (maxDischargeDepth := 99) only [↓ev, ↓State.cnpGate_evolves]

theorem execReduceInto_evolves {s0 s : State} (ev : Evolves s0 s) (q : CnpReq) (pay : Payload) : Outcome.Evolves s0
    (execReduceInto q pay s) := by
  unfold execReduceInto
  try dsimp only
  simp +contextual (maxDischargeDepth := 99) only [↓ev, ↓State.cnpGate_evolves]

theorem execCreditReturn_evolves {s0 s : State} (ev : Evolves s0 s) (q : CnpReq) : Outcome.Evolves s0
    (execCreditReturn q s) := by
  unfold execCreditReturn
  try dsimp only
  simp +contextual (maxDischargeDepth := 99) only [↓ev, ↓State.cnpGate_evolves]

theorem execPoll_evolves {s0 s : State} (ev : Evolves s0 s) (q : CnpReq) : Outcome.Evolves s0 (execPoll q s) := by
  unfold execPoll
  try dsimp only
  simp +contextual (maxDischargeDepth := 99) only [↓ev, ↓State.cnpGate_evolves]

theorem execArm_evolves {s0 s : State} (ev : Evolves s0 s) (q : CnpReq) : Outcome.Evolves s0 (execArm q s) := by
  unfold execArm
  try dsimp only
  simp +contextual (maxDischargeDepth := 99) only [↓ev, ↓State.cnpGate_evolves]

theorem execClear_evolves {s0 s : State} (ev : Evolves s0 s) (q : CnpReq) : Outcome.Evolves s0 (execClear q s) := by
  unfold execClear
  try dsimp only
  simp +contextual (maxDischargeDepth := 99) only [↓ev, ↓State.cnpGate_evolves]

theorem execFence_evolves {s0 s : State} (ev : Evolves s0 s) (q : CnpReq) : Outcome.Evolves s0 (execFence q s) := by
  unfold execFence
  try dsimp only
  simp +contextual (maxDischargeDepth := 99) only [↓ev, ↓State.cnpGate_evolves]

theorem execUnfence_evolves {s0 s : State} (ev : Evolves s0 s) (q : CnpReq) : Outcome.Evolves s0 (execUnfence q s)
    := by
  unfold execUnfence
  try dsimp only
  simp +contextual (maxDischargeDepth := 99) only [↓ev, ↓State.cnpGate_evolves]

theorem execRead_evolves {s0 s : State} (ev : Evolves s0 s) (q : CnpReq) : Outcome.Evolves s0 (execRead q s) := by
  unfold execRead
  try dsimp only
  simp +contextual (maxDischargeDepth := 99) only [↓ev, ↓State.cnpGate_evolves]

theorem execSemAdd_evolves {s0 s : State} (ev : Evolves s0 s) (q : CnpReq) : Outcome.Evolves s0 (execSemAdd q s) := by
  unfold execSemAdd
  try dsimp only
  simp +contextual (maxDischargeDepth := 99) only [↓ev, ↓State.cnpGate_evolves]

theorem execTestAndSet_evolves {s0 s : State} (ev : Evolves s0 s) (q : CnpReq) : Outcome.Evolves s0 (execTestAndSet
    q s) := by
  unfold execTestAndSet
  try dsimp only
  simp +contextual (maxDischargeDepth := 99) only [↓ev, ↓State.cnpGate_evolves]

theorem execCas_evolves {s0 s : State} (ev : Evolves s0 s) (q : CnpReq) : Outcome.Evolves s0 (execCas q s) := by
  unfold execCas
  try dsimp only
  simp +contextual (maxDischargeDepth := 99) only [↓ev, ↓State.cnpGate_evolves]

theorem execSwap_evolves {s0 s : State} (ev : Evolves s0 s) (q : CnpReq) : Outcome.Evolves s0 (execSwap q s) := by
  unfold execSwap
  try dsimp only
  simp +contextual (maxDischargeDepth := 99) only [↓ev, ↓State.cnpGate_evolves]

theorem execIncSat_evolves {s0 s : State} (ev : Evolves s0 s) (q : CnpReq) : Outcome.Evolves s0 (execIncSat q s) := by
  unfold execIncSat
  try dsimp only
  simp +contextual (maxDischargeDepth := 99) only [↓ev, ↓State.cnpGate_evolves]

theorem execMaxInto_evolves {s0 s : State} (ev : Evolves s0 s) (q : CnpReq) : Outcome.Evolves s0 (execMaxInto q s)
    := by
  unfold execMaxInto
  try dsimp only
  simp +contextual (maxDischargeDepth := 99) only [↓ev, ↓State.cnpGate_evolves]

theorem execMinInto_evolves {s0 s : State} (ev : Evolves s0 s) (q : CnpReq) : Outcome.Evolves s0 (execMinInto q s)
    := by
  unfold execMinInto
  try dsimp only
  simp +contextual (maxDischargeDepth := 99) only [↓ev, ↓State.cnpGate_evolves]

theorem State.takeMisses_evolves {s0 s : State} (ev : Evolves s0 s) (cnum : Nat) : Evolves s0 (State.takeMisses s
    cnum).1 := by
  unfold State.takeMisses
  try dsimp only
  simp +contextual (maxDischargeDepth := 99) only [↓ev, ↓Evolves.update, implies_true, eq_self, Cst.wf_iff,
      Wel.wf_iff, Rst.wf_iff, Pipe.wf_iff, Cul.wf_iff, Pump.wf_iff, Obs.wf_iff, GLink.wf_iff, and_self]

theorem State.refuseMisses_evolves {s0 s : State} (ev : Evolves s0 s) (cnum result : Nat) : Evolves s0
    (State.refuseMisses s cnum result) := by
  unfold State.refuseMisses
  try dsimp only
  simp +contextual (maxDischargeDepth := 99) only [↓ev, ↓Evolves.foldl, implies_true, ↓State.answerWork_evolves,
      ↓State.takeMisses_evolves]

theorem State.dropFill_evolves {s0 s : State} (ev : Evolves s0 s) (x : Fill) : Evolves s0 (State.dropFill s x) := by
  unfold State.dropFill
  try dsimp only
  simp +contextual (maxDischargeDepth := 99) only [↓ev, ↓Evolves.update, implies_true, eq_self, Cst.wf_iff,
      Wel.wf_iff, Rst.wf_iff, Pipe.wf_iff, Cul.wf_iff, Pump.wf_iff, Obs.wf_iff, GLink.wf_iff, and_self]

theorem State.spillError_evolves {s0 s : State} (ev : Evolves s0 s) (p cnum : Nat) (resp : BitVec 2) : Evolves s0
    (State.spillError s p cnum resp) := by
  unfold State.spillError
  try dsimp only
  simp +contextual (maxDischargeDepth := 99) only [↓ev, ↓State.fault_evolves, ↓State.sysError_evolves]

theorem execSpillwayFillDone_evolves {s0 s : State} (ev : Evolves s0 s) (cnum : Cnum) (image : W128) (resp : BitVec
    2) : Outcome.Evolves s0 (execSpillwayFillDone cnum image resp s) := by
  unfold execSpillwayFillDone
  try dsimp only
  (repeat' split) <;> simp +contextual (maxDischargeDepth := 99) only [↓ev, ↓Evolves.update, ↓Evolves.foldl,
      ↓Outcome.evolves_next, implies_true, eq_self, Cst.wf_iff, Wel.wf_iff, Rst.wf_iff, Pipe.wf_iff, Cul.wf_iff,
      Pump.wf_iff, Obs.wf_iff, GLink.wf_iff, twf_tset, and_self, ↓State.clearErr_evolves, ↓State.count_evolves,
      ↓State.cycles_evolves, ↓State.dropFill_evolves, ↓State.fault_evolves, ↓State.issueWork_evolves,
      ↓State.memGot_evolves, ↓State.refuseMisses_evolves, ↓State.setEntry_evolves, ↓State.settle_evolves,
      ↓State.spillError_evolves, ↓State.takeMisses_evolves]

theorem execSpillwayWriteBackDone_evolves {s0 s : State} (ev : Evolves s0 s) (frame : BitVec 21) (resp : BitVec 2) :
    Outcome.Evolves s0 (execSpillwayWriteBackDone frame resp s) := by
  unfold execSpillwayWriteBackDone
  try dsimp only
  (repeat' split) <;> simp +contextual (maxDischargeDepth := 99) only [↓ev, ↓Evolves.update, ↓Outcome.evolves_next,
      implies_true, eq_self, Cst.wf_iff, Wel.wf_iff, Rst.wf_iff, Pipe.wf_iff, Cul.wf_iff, Pump.wf_iff, Obs.wf_iff,
      GLink.wf_iff, twf_tset, and_self, ↓State.memAck_evolves, ↓State.setEntry_evolves, ↓State.setFill_evolves,
      ↓State.settle_evolves, ↓State.sysError_evolves]

theorem execSpillMissTimeout_evolves {s0 s : State} (ev : Evolves s0 s) (cnum : Cnum) : Outcome.Evolves s0
    (execSpillMissTimeout cnum s) := by
  unfold execSpillMissTimeout
  try dsimp only
  (repeat' split) <;> simp +contextual (maxDischargeDepth := 99) only [↓ev, ↓Evolves.update, ↓Outcome.evolves_next,
      implies_true, eq_self, Cst.wf_iff, Wel.wf_iff, Rst.wf_iff, Pipe.wf_iff, Cul.wf_iff, Pump.wf_iff, Obs.wf_iff,
      GLink.wf_iff, and_self, ↓State.fault_evolves, ↓State.refuseMisses_evolves, ↓State.settle_evolves]

end Sys2Proof.Machine
end

