-- ==== Sys2Proof/Laws/EvolvesPipe.lean ====
section
/-! SUPPORT. What releases, the Standpipe, the scheduler, the Headgate and allocation do to a state: the build and the queue stay, and the invariant is kept. -/

namespace Sys2Proof.Machine

/-! ## Release.lean -/

theorem State.ctxDone_evolves {s0 s : State} (ev : Evolves s0 s) (c : Ctx) : Evolves s0 (State.ctxDone s c) := by
  unfold State.ctxDone
  try dsimp only
  (repeat' split) <;> simp +contextual (maxDischargeDepth := 99) only [↓ev, ↓State.abandonCtx_evolves,
      ↓State.released_evolves]

theorem State.ctxAck_evolves {s0 s : State} (ev : Evolves s0 s) (rid k : Nat) : Evolves s0 (State.ctxAck s rid k) :=
    by
  unfold State.ctxAck
  try dsimp only
  (repeat' split) <;> simp +contextual (maxDischargeDepth := 99) only [↓ev, ↓State.ctxDone_evolves,
      ↓State.modCtx_evolves]

theorem State.ctxTargets_evolves {s0 s : State} (ev : Evolves s0 s) (n : Notice) : Evolves s0 (State.ctxTargets s
    n).1 := by
  unfold State.ctxTargets
  try dsimp only
  (repeat' split) <;> simp +contextual (maxDischargeDepth := 99) only [↓ev, ↓State.readBasin_evolves,
      ↓State.readList_evolves]

theorem State.ctxIssue_evolves {s0 s : State} (ev : Evolves s0 s) (c : Ctx) : Evolves s0 (State.ctxIssue s c) := by
  unfold State.ctxIssue
  try dsimp only
  (repeat' split) <;> simp +contextual (maxDischargeDepth := 99) only [↓ev, ↓Evolves.ite, ↓Evolves.foldl,
      implies_true, ↓State.count_evolves, ↓State.ctxDone_evolves, ↓State.ctxTargets_evolves, ↓State.modCtx_evolves,
      ↓State.reportUndelivered_evolves, ↓State.serveLeaf_evolves]

theorem State.whenAwake_evolves {s0 s : State} (ev : Evolves s0 s) (i : Instr) (o : Host.Outcome State Fault
    Refusal) (hf_o : Outcome.Evolves s0 o) : Outcome.Evolves s0 (State.whenAwake s i o) := by
  unfold State.whenAwake
  try dsimp only
  simp +contextual (maxDischargeDepth := 99) only [↓ev, ↓hf_o, ↓Outcome.evolves_ite, ↓Evolves.update,
      ↓Outcome.evolves_next, implies_true, eq_self, Cst.wf_iff, Wel.wf_iff, Rst.wf_iff, Pipe.wf_iff, Cul.wf_iff,
      Pump.wf_iff, Obs.wf_iff, GLink.wf_iff, and_self]

theorem State.noticeIssue_evolves {s0 s : State} (ev : Evolves s0 s) (n : Notice) : Evolves s0 (State.noticeIssue s
    n) := by
  unfold State.noticeIssue
  try dsimp only
  simp +contextual (maxDischargeDepth := 99) only [↓ev, ↓Evolves.ite, ↓Evolves.update, implies_true, eq_self,
      Cst.wf_iff, Wel.wf_iff, Rst.wf_iff, Pipe.wf_iff, Cul.wf_iff, Pump.wf_iff, Obs.wf_iff, GLink.wf_iff, and_self,
      ↓State.ctxIssue_evolves]

theorem execReleaseIssue_evolves {s0 s : State} (ev : Evolves s0 s) : Outcome.Evolves s0 (execReleaseIssue s) := by
  unfold execReleaseIssue
  try dsimp only
  (repeat' split) <;> simp +contextual (maxDischargeDepth := 99) only [↓ev, ↓Outcome.evolves_next,
      ↓State.closeFlush_evolves, ↓State.ctxIssue_evolves, ↓State.noticeIssue_evolves, ↓State.settle_evolves,
      ↓State.whenAwake_evolves]

theorem execHoldToFifo_evolves {s0 s : State} (ev : Evolves s0 s) (tap : BitVec 12) : Outcome.Evolves s0
    (execHoldToFifo tap s) := by
  unfold execHoldToFifo
  try dsimp only
  (repeat' split) <;> simp +contextual (maxDischargeDepth := 99) only [↓ev, ↓Outcome.evolves_next,
      ↓State.setTap_evolves]

theorem State.ackTaken_evolves {s0 s : State} (ev : Evolves s0 s) (t : Nat) (k : Tok) : Evolves s0 (State.ackTaken s
    t k) := by
  unfold State.ackTaken
  try dsimp only
  (repeat' split) <;> simp +contextual (maxDischargeDepth := 99) only [↓ev, ↓State.modTap_evolves,
      ↓State.setLeaf_evolves]

theorem execReleaseTake_evolves {s0 s : State} (ev : Evolves s0 s) (tap : BitVec 12) : Outcome.Evolves s0
    (execReleaseTake tap s) := by
  unfold execReleaseTake
  try dsimp only
  (repeat' split) <;> simp +contextual (maxDischargeDepth := 99) only [↓ev, ↓Outcome.evolves_next,
      ↓State.ackTaken_evolves, ↓State.emit_evolves, ↓State.traceLeaf_evolves]

theorem State.undIn_evolves {s0 s : State} (ev : Evolves s0 s) (l rid mask : Nat) : Evolves s0 (State.undIn s l rid
    mask) := by
  unfold State.undIn
  try dsimp only
  (repeat' split) <;> simp +contextual (maxDischargeDepth := 99) only [↓ev, ↓Evolves.update, implies_true, eq_self,
      Cst.wf_iff, Wel.wf_iff, Rst.wf_iff, Pipe.wf_iff, Cul.wf_iff, Pump.wf_iff, Obs.wf_iff, GLink.wf_iff, and_self,
      ↓State.bump_evolves, ↓State.modCtx_evolves, ↓State.setFlag_evolves]

theorem State.reportIn_evolves {s0 s : State} (ev : Evolves s0 s) (l : Nat) (r : Report) : Evolves s0
    (State.reportIn s l r) := by
  unfold State.reportIn
  try dsimp only
  simp +contextual (maxDischargeDepth := 99) only [↓ev, ↓Evolves.ite, ↓State.ctxAck_evolves, ↓State.undIn_evolves]

theorem State.lostIn_evolves {s0 s : State} (ev : Evolves s0 s) (e : Nat × Nat) : Evolves s0 (State.lostIn s e) := by
  unfold State.lostIn
  try dsimp only
  simp +contextual (maxDischargeDepth := 99) only [↓ev, ↓State.bump_evolves, ↓State.modCtx_evolves,
      ↓State.setFlag_evolves]

theorem State.traceIn_evolves {s0 s : State} (ev : Evolves s0 s) (i w : Nat) : Evolves s0 (State.traceIn s i w) := by
  unfold State.traceIn
  try dsimp only
  simp +contextual (maxDischargeDepth := 99) only [↓ev, ↓Evolves.ite, ↓State.sumpRecord_evolves]

theorem State.spareCycle_evolves {s0 s : State} (ev : Evolves s0 s) (l : Nat) : Evolves s0 (State.spareCycle s l) :=
    by
  unfold State.spareCycle
  try dsimp only
  (repeat' split) <;> simp +contextual (maxDischargeDepth := 99) only [↓ev, ↓State.setLeaf_evolves,
      ↓State.traceIn_evolves]

theorem execReportCycle_evolves {s0 s : State} (ev : Evolves s0 s) (leaf : BitVec 10) : Outcome.Evolves s0
    (execReportCycle leaf s) := by
  unfold execReportCycle
  try dsimp only
  simp +contextual (maxDischargeDepth := 99) only [↓ev, ↓Outcome.evolves_ite, ↓Evolves.foldl, ↓Outcome.evolves_next,
      implies_true, ↓State.ackTaken_evolves, ↓State.lostIn_evolves, ↓State.reportIn_evolves, ↓State.setLeaf_evolves,
      ↓State.settle_evolves, ↓State.spareCycle_evolves]

theorem State.directed_evolves {s0 s : State} (ev : Evolves s0 s) (u : Undeliv) : Evolves s0 (State.directed s u) :=
    by
  unfold State.directed
  try dsimp only
  (repeat' split) <;> simp +contextual (maxDischargeDepth := 99) only [↓ev, ↓Evolves.update, implies_true, eq_self,
      Cst.wf_iff, Wel.wf_iff, Rst.wf_iff, Pipe.wf_iff, Cul.wf_iff, Pump.wf_iff, Obs.wf_iff, GLink.wf_iff, and_self,
      ↓State.count_evolves, ↓State.readBasin_evolves, ↓State.serveLeaf_evolves]

theorem State.reissue_evolves {s0 s : State} (ev : Evolves s0 s) (p : Nat) : Evolves s0 (State.reissue s p) := by
  unfold State.reissue
  try dsimp only
  simp +contextual (maxDischargeDepth := 99) only [↓ev, ↓Evolves.ite, ↓Evolves.foldl, implies_true,
      ↓State.directed_evolves]

theorem State.undRecords_evolves {s0 s : State} (ev : Evolves s0 s) (c : Ctx) (e : Cistern) : Evolves s0
    (State.undRecords s c e) := by
  unfold State.undRecords
  try dsimp only
  simp +contextual (maxDischargeDepth := 99) only [↓ev, ↓Evolves.ite, ↓Evolves.foldl, implies_true, ↓State.sb_evolves]

theorem State.lateRelease_evolves {s0 s : State} (ev : Evolves s0 s) (c : Ctx) : Evolves s0 (State.lateRelease s c)
    := by
  unfold State.lateRelease
  try dsimp only
  (repeat' split) <;> simp +contextual (maxDischargeDepth := 99) only [↓ev, ↓State.abandonCtx_evolves,
      ↓State.event_evolves, ↓State.released_evolves, ↓State.undRecords_evolves]

theorem State.judgeAll_evolves {s0 s : State} (ev : Evolves s0 s) (p n : Nat) : Evolves s0 (State.judgeAll s p n) :=
    by
  unfold State.judgeAll
  try dsimp only
  simp +contextual (maxDischargeDepth := 99) only [↓ev, ↓Evolves.ite, ↓Evolves.foldl, implies_true,
      ↓State.lateRelease_evolves]

theorem State.undelay_evolves {s0 s : State} (ev : Evolves s0 s) (l : Nat) (d : Delayed) : Evolves s0 (State.undelay
    s l d) := by
  unfold State.undelay
  try dsimp only
  (repeat' split) <;> simp +contextual (maxDischargeDepth := 99) only [↓ev, ↓State.bump_evolves,
      ↓State.modLeaf_evolves, ↓State.modTap_evolves, ↓State.reportUndelivered_evolves, ↓State.serveTap_evolves]

theorem State.delayStep_evolves {s0 s : State} (ev : Evolves s0 s) (p : Nat) : Evolves s0 (State.delayStep s p) := by
  unfold State.delayStep
  try dsimp only
  simp +contextual (maxDischargeDepth := 99) only [↓ev, ↓Evolves.ite, ↓Evolves.foldl, implies_true,
      ↓State.modLeaf_evolves, ↓State.undelay_evolves]

theorem execGrantMessage_evolves {s0 s : State} (ev : Evolves s0 s) (entry : BitVec 13) : Outcome.Evolves s0
    (execGrantMessage entry s) := by
  unfold execGrantMessage
  try dsimp only
  (repeat' split) <;> simp +contextual (maxDischargeDepth := 99) only [↓ev, ↓Outcome.evolves_next,
      ↓State.bump_evolves, ↓State.modLeaf_evolves, ↓State.modTap_evolves, ↓State.setGrant_evolves,
      ↓State.whenAwake_evolves]

theorem execCreditGrantPlace_evolves {s0 s : State} (ev : Evolves s0 s) (leaf : BitVec 10) : Outcome.Evolves s0
    (execCreditGrantPlace leaf s) := by
  unfold execCreditGrantPlace
  try dsimp only
  (repeat' split) <;> simp +contextual (maxDischargeDepth := 99) only [↓ev, ↓Outcome.evolves_next,
      ↓State.count_evolves, ↓State.modLeaf_evolves, ↓State.modTap_evolves, ↓State.traceLeaf_evolves]

/-! ## Standpipe.lean -/

theorem State.tapAnswer_evolves {s0 s : State} (ev : Evolves s0 s) (t cnum code kind : Nat) (b : Option Bind) :
    Evolves s0 (State.tapAnswer s t cnum code kind b) := by
  unfold State.tapAnswer
  try dsimp only
  (repeat' split) <;> simp +contextual (maxDischargeDepth := 99) only [↓ev, ↓State.bump_evolves,
      ↓State.count_evolves, ↓State.emit_evolves, ↓State.traceLeaf_evolves]

theorem State.tapCount_evolves {s0 s : State} (ev : Evolves s0 s) (t : Nat) (e : Evt) : Evolves s0 (State.tapCount s
    t e) := by
  unfold State.tapCount
  try dsimp only
  (repeat' split) <;> simp +contextual (maxDischargeDepth := 99) only [↓ev, ↓State.count_evolves,
      ↓State.usage_evolves]

theorem State.setLeafSum_evolves {s0 s : State} (ev : Evolves s0 s) (l ch v : Nat) : Evolves s0 (State.setLeafSum s
    l ch v) := by
  unfold State.setLeafSum
  try dsimp only
  simp +contextual (maxDischargeDepth := 99) only [↓ev, ↓Evolves.update, implies_true, eq_self, Cst.wf_iff,
      Wel.wf_iff, Rst.wf_iff, Pipe.wf_iff, Cul.wf_iff, Pump.wf_iff, Obs.wf_iff, GLink.wf_iff, and_self]

theorem State.tapGate_evolves {s0 s : State} (ev : Evolves s0 s) (i : Instr) (t cnum kind : Nat) (f : State → State)
    (hf_f : ∀ t, Evolves s0 t → Evolves s0 (f t)) : Outcome.Evolves s0 (State.tapGate s i t cnum kind f) := by
  unfold State.tapGate
  try dsimp only
  simp +contextual (maxDischargeDepth := 99) only [↓ev, ↓hf_f, ↓Outcome.evolves_ite, ↓Evolves.update,
      ↓Outcome.evolves_next, implies_true, eq_self, Cst.wf_iff, Wel.wf_iff, Rst.wf_iff, Pipe.wf_iff, Cul.wf_iff,
      Pump.wf_iff, Obs.wf_iff, GLink.wf_iff, and_self, ↓State.settle_evolves, ↓State.tapAnswer_evolves]

theorem State.tapAccept_evolves {s0 s : State} (ev : Evolves s0 s) (t cnum n kind : Nat) (b : Bind) : Evolves s0
    (State.tapAccept s t cnum n kind b) := by
  unfold State.tapAccept
  try dsimp only
  simp +contextual (maxDischargeDepth := 99) only [↓ev, ↓State.rootCount_evolves, ↓State.tapAnswer_evolves,
      ↓State.tapCount_evolves]

theorem State.tapArrival_evolves {s0 s : State} (ev : Evolves s0 s) (t cnum kind : Nat) (legal : Bool) : Evolves s0
    (State.tapArrival s t cnum kind legal) := by
  unfold State.tapArrival
  try dsimp only
  (repeat' split) <;> simp +contextual (maxDischargeDepth := 99) only [↓ev, ↓State.setLeafSum_evolves,
      ↓State.tapAccept_evolves, ↓State.tapAnswer_evolves]

theorem State.tapMulti_evolves {s0 s : State} (ev : Evolves s0 s) (t cnum n : Nat) (legal : Bool) : Evolves s0
    (State.tapMulti s t cnum n legal) := by
  unfold State.tapMulti
  try dsimp only
  (repeat' split) <;> simp +contextual (maxDischargeDepth := 99) only [↓ev, ↓Evolves.update, implies_true, eq_self,
      Cst.wf_iff, Wel.wf_iff, Rst.wf_iff, Pipe.wf_iff, Cul.wf_iff, Pump.wf_iff, Obs.wf_iff, GLink.wf_iff, and_self,
      ↓State.tapAnswer_evolves]

theorem State.judgeOne_evolves {s0 s : State} (ev : Evolves s0 s) (m : Multi) : Evolves s0 (State.judgeOne s m) := by
  unfold State.judgeOne
  try dsimp only
  (repeat' split) <;> simp +contextual (maxDischargeDepth := 99) only [↓ev, ↓State.setLeafSum_evolves,
      ↓State.tapAccept_evolves, ↓State.tapAnswer_evolves]

theorem State.judgeMulti_evolves {s0 s : State} (ev : Evolves s0 s) (sel : Multi → Bool) : Evolves s0
    (State.judgeMulti s sel) := by
  unfold State.judgeMulti
  try dsimp only
  simp +contextual (maxDischargeDepth := 99) only [↓ev, ↓Evolves.update, ↓Evolves.foldl, implies_true, eq_self,
      Cst.wf_iff, Wel.wf_iff, Rst.wf_iff, Pipe.wf_iff, Cul.wf_iff, Pump.wf_iff, Obs.wf_iff, GLink.wf_iff, and_self,
      ↓State.judgeOne_evolves]

theorem execTapArrive_evolves {s0 s : State} (ev : Evolves s0 s) (tap : BitVec 12) (cnum : Cnum) (last : ArriveBeat)
    : Outcome.Evolves s0 (execTapArrive tap cnum last s) := by
  unfold execTapArrive
  try dsimp only
  simp +contextual (maxDischargeDepth := 99) only [↓ev, implies_true, ↓State.tapArrival_evolves,
      ↓State.tapGate_evolves]

theorem execTapArriveN_evolves {s0 s : State} (ev : Evolves s0 s) (tap : BitVec 12) (cnum : Cnum) (arg : BitVec 22)
    (last : Bool) : Outcome.Evolves s0 (execTapArriveN tap cnum arg last s) := by
  unfold execTapArriveN
  try dsimp only
  simp +contextual (maxDischargeDepth := 99) only [↓ev, implies_true, ↓State.tapGate_evolves, ↓State.tapMulti_evolves]

theorem State.tapToken_evolves {s0 s : State} (ev : Evolves s0 s) (t cnum arg : Nat) (data : Payload) (legal : Bool)
    : Evolves s0 (State.tapToken s t cnum arg data legal) := by
  unfold State.tapToken
  try dsimp only
  (repeat' split) <;> simp +contextual (maxDischargeDepth := 99) only [↓ev, ↓Evolves.update, implies_true, eq_self,
      Cst.wf_iff, Wel.wf_iff, Rst.wf_iff, Pipe.wf_iff, Cul.wf_iff, Pump.wf_iff, Obs.wf_iff, GLink.wf_iff, and_self,
      ↓State.tapAnswer_evolves, ↓State.tapCount_evolves, ↓State.usage_evolves]

theorem execTapReduce_evolves {s0 s : State} (ev : Evolves s0 s) (tap : BitVec 12) (cnum : Cnum) (arg : BitVec 22)
    (data : Payload) (lastOk : Bool) : Outcome.Evolves s0 (execTapReduce tap cnum arg data lastOk s) := by
  unfold execTapReduce
  try dsimp only
  simp +contextual (maxDischargeDepth := 99) only [↓ev, implies_true, ↓State.tapGate_evolves, ↓State.tapToken_evolves]

theorem State.withdrawLevel_evolves {s0 s : State} (ev : Evolves s0 s) (ch level : Nat) : Evolves s0
    (State.withdrawLevel s ch level) := by
  unfold State.withdrawLevel
  try dsimp only
  (repeat' split) <;> simp +contextual (maxDischargeDepth := 99) only [↓ev, ↓State.setAct_evolves]

theorem State.withdraw_evolves {s0 s : State} (ev : Evolves s0 s) (ch : Nat) : Evolves s0 (State.withdraw s ch) := by
  unfold State.withdraw
  try dsimp only
  simp +contextual (maxDischargeDepth := 99) only [↓ev, ↓Evolves.foldl, implies_true, ↓State.withdrawLevel_evolves]

theorem State.rootToken_evolves {s0 s : State} (ev : Evolves s0 s) (b : Bind) (k : Token) : Evolves s0
    (State.rootToken s b k) := by
  unfold State.rootToken
  try dsimp only
  (repeat' split) <;> simp +contextual (maxDischargeDepth := 99) only [↓ev, implies_true, ↓State.bump_evolves,
      ↓State.modAct_evolves, ↓State.payWrite_evolves, ↓State.rootCount_evolves, ↓State.tryBank_evolves]

theorem State.combineGo_evolves {s0 s : State} (ev : Evolves s0 s) (b : Bind) (ch lv r c : Nat) (use : List Token) :
    Evolves s0 (State.combineGo s b ch lv r c use) := by
  unfold State.combineGo
  try dsimp only
  simp +contextual (maxDischargeDepth := 99) only [↓ev, ↓Evolves.ite, ↓Evolves.update, implies_true, eq_self,
      Cst.wf_iff, Wel.wf_iff, Rst.wf_iff, Pipe.wf_iff, Cul.wf_iff, Pump.wf_iff, Obs.wf_iff, GLink.wf_iff, and_self,
      ↓State.rootToken_evolves]

theorem State.combineAt_evolves {s0 s : State} (ev : Evolves s0 s) (ch lv r : Nat) : ∀ u, State.combineAt s ch lv r
    = some u → Evolves s0 u := by
  intro u hu
  unfold State.combineAt at hu
  split at hu
  · cases hu
  · dsimp only at hu
    split at hu
    · obtain rfl := Option.some.inj hu
      exact State.combineGo_evolves ev _ _ _ _ _ _
    · cases hu

theorem execPayloadCombine_evolves {s0 s : State} (ev : Evolves s0 s) (chan : BitVec 5) (level : BitVec 3) (router :
    BitVec 10) : Outcome.Evolves s0 (execPayloadCombine chan level router s) := by
  unfold execPayloadCombine
  split
  · exact Outcome.evolves_next (State.settle_evolves (State.combineAt_evolves ev _ _ _ _ ‹_›))
  · exact Outcome.evolves_next ev

theorem State.drainUp_evolves {s0 s : State} (ev : Evolves s0 s) (ch : Nat) (m0 : Nat) : Evolves s0 (State.drainUp s
    ch m0) := by
  induction m0 generalizing s with
  | zero => exact ev
  | succ m ih =>
    unfold State.drainUp
    split
    · next t h =>
      obtain ⟨k, -, hk⟩ := List.exists_of_findSome?_eq_some h
      exact ih (State.combineAt_evolves ev _ _ _ _ hk)
    · exact ev

theorem State.endBinding_evolves {s0 s : State} (ev : Evolves s0 s) (ch : Nat) (write : Bool) : Evolves s0
    (State.endBinding s ch write) := by
  unfold State.endBinding
  try dsimp only
  simp +contextual (maxDischargeDepth := 99) only [↓ev, ↓Evolves.update, implies_true, eq_self, Cst.wf_iff,
      Wel.wf_iff, Rst.wf_iff, Pipe.wf_iff, Cul.wf_iff, Pump.wf_iff, Obs.wf_iff, GLink.wf_iff, and_self,
      ↓State.drainUp_evolves, ↓State.judgeMulti_evolves, ↓State.sampleReturn_evolves, ↓State.unbind_evolves]

theorem State.fenceTap_evolves {s0 s : State} (ev : Evolves s0 s) (t : Nat) : Evolves s0 (State.fenceTap s t) := by
  unfold State.fenceTap
  extract_lets +onlyGivenNames x l empty s1 s2 s3 s4 gone
  have h1 : Evolves s0 s1 := State.setTap_evolves ev _ _
  have h2 : Evolves s0 s2 := by
    refine Evolves.foldl (fun t a ht => ?_) _ h1
    (repeat' split) <;> simp +contextual (maxDischargeDepth := 99) only [↓ht, ↓Evolves.ite, ↓Evolves.update,
        implies_true, eq_self, Cst.wf_iff, Wel.wf_iff, Rst.wf_iff, Pipe.wf_iff, Cul.wf_iff, Pump.wf_iff, Obs.wf_iff,
        GLink.wf_iff, and_self, ↓State.ao_evolves, ↓State.bump_evolves, ↓State.fencedDrop_evolves,
        ↓State.modLeaf_evolves, ↓State.withdraw_evolves]
  have h3 : Evolves s0 s3 := by
    refine Evolves.foldl (fun t a ht => ?_) _ h2
    simp +contextual (maxDischargeDepth := 99) only [↓ht, ↓Evolves.ite, ↓Evolves.update, implies_true, eq_self,
        Cst.wf_iff, Wel.wf_iff, Rst.wf_iff, Pipe.wf_iff, Cul.wf_iff, Pump.wf_iff, Obs.wf_iff, GLink.wf_iff,
        and_self, ↓State.ao_evolves, ↓State.bump_evolves, ↓State.fencedDrop_evolves, ↓State.modLeaf_evolves,
        ↓State.withdraw_evolves]
  have h4 : Evolves s0 s4 := by unfold s4; simp +contextual (maxDischargeDepth := 99) only [↓h3, ↓Evolves.ite,
      ↓Evolves.update, implies_true, eq_self, Cst.wf_iff, Wel.wf_iff, Rst.wf_iff, Pipe.wf_iff, Cul.wf_iff,
      Pump.wf_iff, Obs.wf_iff, GLink.wf_iff, and_self, ↓State.ao_evolves, ↓State.bump_evolves,
      ↓State.fencedDrop_evolves, ↓State.modLeaf_evolves, ↓State.withdraw_evolves]
  clear_value s4
  simp +contextual (maxDischargeDepth := 99) only [↓h4, ↓Evolves.ite, ↓Evolves.update, implies_true, eq_self,
      Cst.wf_iff, Wel.wf_iff, Rst.wf_iff, Pipe.wf_iff, Cul.wf_iff, Pump.wf_iff, Obs.wf_iff, GLink.wf_iff, and_self,
      ↓State.ao_evolves, ↓State.bump_evolves, ↓State.fencedDrop_evolves, ↓State.modLeaf_evolves,
      ↓State.withdraw_evolves]

theorem State.fenceWrite_evolves {s0 s : State} (ev : Evolves s0 s) (w v : Nat) : Evolves s0 (State.fenceWrite s w
    v) := by
  unfold State.fenceWrite
  refine Evolves.foldl (fun t a ht => ?_) _ (by simp +contextual (maxDischargeDepth := 99) only [↓ev,
      ↓State.fenceTap_evolves, ↓State.setReg_evolves])
  split <;> simp +contextual (maxDischargeDepth := 99) only [↓ht, ↓ev, ↓State.fenceTap_evolves, ↓State.setReg_evolves]

theorem execPairMiscompare_evolves {s0 s : State} (ev : Evolves s0 s) (pair : BitVec 9) (aBad bBad : Bool) :
    Outcome.Evolves s0 (execPairMiscompare pair aBad bBad s) := by
  unfold execPairMiscompare
  try dsimp only
  (repeat' split) <;> simp +contextual (maxDischargeDepth := 99) only [↓ev, ↓Evolves.foldl, ↓Outcome.evolves_next,
      implies_true, ↓State.ao_evolves, ↓State.fault_evolves, ↓State.setFlag_evolves, ↓State.setFld_evolves]

theorem execLeafSelfCheckFailure_evolves {s0 s : State} (ev : Evolves s0 s) (leaf : BitVec 10) : Outcome.Evolves s0
    (execLeafSelfCheckFailure leaf s) := by
  unfold execLeafSelfCheckFailure
  try dsimp only
  simp +contextual (maxDischargeDepth := 99) only [↓ev, ↓Outcome.evolves_ite, ↓Evolves.foldl, ↓Outcome.evolves_next,
      implies_true, ↓State.ao_evolves, ↓State.fault_evolves]

theorem State.bmodeHalf_evolves {s0 s : State} (ev : Evolves s0 s) (k h v : Nat) : Evolves s0 (State.bmodeHalf s k h
    v) := by
  unfold State.bmodeHalf
  try dsimp only
  (repeat' split) <;> simp +contextual (maxDischargeDepth := 99) only [↓ev, ↓State.cfgLocked_evolves,
      ↓State.setFlag_evolves, ↓State.setFld_evolves]

theorem State.bmodeWrite_evolves {s0 s : State} (ev : Evolves s0 s) (k v : Nat) : Evolves s0 (State.bmodeWrite s k
    v) := by
  unfold State.bmodeWrite
  try dsimp only
  simp +contextual (maxDischargeDepth := 99) only [↓ev, ↓State.bmodeHalf_evolves]

/-! ## Sched.lean -/

theorem State.setDir_evolves {s0 s : State} (ev : Evolves s0 s) (i start len : Nat) : Evolves s0 (State.setDir s i
    start len) := by
  unfold State.setDir
  try dsimp only
  simp +contextual (maxDischargeDepth := 99) only [↓ev, ↓State.codeRead_evolves, ↓State.setRl_evolves]

theorem State.writeList_evolves {s0 s : State} (ev : Evolves s0 s) (at0 : Nat) (l : ImgList) : Evolves s0
    (State.writeList s at0 l).1 := by
  unfold State.writeList
  try dsimp only
  simp +contextual (maxDischargeDepth := 99) only [↓ev, ↓Evolves.foldl, implies_true, ↓State.clearErr_evolves,
      ↓State.setDir_evolves, ↓State.setRl_evolves]

theorem State.unstage_evolves {s0 s : State} (ev : Evolves s0 s) (p n : Nat) : Evolves s0 (State.unstage s p n) := by
  unfold State.unstage
  try dsimp only
  simp +contextual (maxDischargeDepth := 99) only [↓ev, ↓State.modPrt_evolves]

theorem State.placeTable_evolves {s0 s : State} (ev : Evolves s0 s) (p : Nat) (t : Table) (sw : Nat) : Evolves s0
    (State.placeTable s p t sw).1 := by
  unfold State.placeTable
  try dsimp only
  (repeat' split) <;> simp +contextual (maxDischargeDepth := 99) only [↓ev, ↓State.modPrt_evolves,
      ↓State.unstage_evolves]

theorem State.loadEnd_evolves {s0 s : State} (ev : Evolves s0 s) (p f cidx : Nat) (r : CplRec) : Evolves s0
    (State.loadEnd s p f cidx r) := by
  unfold State.loadEnd
  try dsimp only
  (repeat' split) <;> simp +contextual (maxDischargeDepth := 99) only [↓ev, ↓State.complete_evolves,
      ↓State.modPrt_evolves]

theorem State.loadStart_evolves {s0 s : State} (ev : Evolves s0 s) (p f cidx addr sw : Nat) : Evolves s0
    (State.loadStart s p f cidx addr sw) := by
  unfold State.loadStart
  try dsimp only
  simp +contextual (maxDischargeDepth := 99) only [↓ev, ↓Evolves.ite, ↓State.loadEnd_evolves, ↓State.memRd_evolves,
      ↓State.modPrt_evolves, ↓State.placeTable_evolves]

theorem State.loadRest_evolves {s0 s : State} (ev : Evolves s0 s) (p addr len : Nat) : Evolves s0 (State.loadRest s
    p addr len) := by
  unfold State.loadRest
  try dsimp only
  simp +contextual (maxDischargeDepth := 99) only [↓ev, ↓Evolves.foldl, implies_true, ↓State.memRd_evolves,
      ↓State.modPrt_evolves]

theorem State.loadJudge_evolves {s0 s : State} (ev : Evolves s0 s) (p f cidx addr sw : Nat) (image : List Byte) :
    Evolves s0 (State.loadJudge s p f cidx addr sw image) := by
  unfold State.loadJudge
  try dsimp only
  simp +contextual (maxDischargeDepth := 99) only [↓ev, ↓Evolves.ite, ↓Evolves.foldl_fst, implies_true,
      ↓State.loadEnd_evolves, ↓State.memGotAll_evolves, ↓State.placeTable_evolves, ↓State.writeList_evolves]

theorem execImageLoadDone_evolves {s0 s : State} (ev : Evolves s0 s) (p : BitVec 5) (image : List Byte) (err :
    ImageResp) : Outcome.Evolves s0 (execImageLoadDone p image err s) := by
  unfold execImageLoadDone
  try dsimp only
  (repeat' split) <;> simp +contextual (maxDischargeDepth := 99) only [↓ev, ↓Outcome.evolves_next,
      ↓State.loadEnd_evolves, ↓State.loadJudge_evolves, ↓State.loadRest_evolves, ↓State.memGotAll_evolves,
      ↓State.memGot_evolves, ↓State.settle_evolves, ↓State.sysError_evolves]

theorem execRowStaging_evolves {s0 s : State} (ev : Evolves s0 s) (p : BitVec 5) : Outcome.Evolves s0
    (execRowStaging p s) := by
  unfold execRowStaging
  try dsimp only
  (repeat' split) <;> simp +contextual (maxDischargeDepth := 99) only [↓ev, ↓Outcome.evolves_next,
      ↓State.memRd_evolves, ↓State.modPrt_evolves]

theorem State.rowReadFail_evolves {s0 s : State} (ev : Evolves s0 s) (p n i a : Nat) (resp : BitVec 2) : Evolves s0
    (State.rowReadFail s p n i a resp) := by
  unfold State.rowReadFail
  try dsimp only
  simp +contextual (maxDischargeDepth := 99) only [↓ev, ↓Evolves.ite, ↓State.event_evolves, ↓State.setPrt_evolves,
      ↓State.sysError_evolves]

theorem State.rowBad_evolves {s0 s : State} (ev : Evolves s0 s) (p n i w : Nat) : Evolves s0 (State.rowBad s p n i
    w) := by
  unfold State.rowBad
  try dsimp only
  simp +contextual (maxDischargeDepth := 99) only [↓ev, ↓State.fault_evolves, ↓State.sb_evolves]

theorem State.stageRow_evolves {s0 s : State} (ev : Evolves s0 s) (p n w : Nat) : Evolves s0 (State.stageRow s p n
    w) := by
  unfold State.stageRow
  try dsimp only
  simp +contextual (maxDischargeDepth := 99) only [↓ev, ↓Evolves.ite, ↓State.modPrt_evolves,
      ↓State.requestFill_evolves, ↓State.setPrt_evolves]

theorem State.loadMode_evolves {s0 s : State} (ev : Evolves s0 s) (b : Bind) : Evolves s0 (State.loadMode s b).1 := by
  unfold State.loadMode
  try dsimp only
  (repeat' split) <;> simp +contextual (maxDischargeDepth := 99) only [↓ev, ↓State.cycles_evolves,
      ↓State.readEntry_evolves]

theorem State.loadShadow_evolves {s0 s : State} (ev : Evolves s0 s) (b : Bind) : Evolves s0 (State.loadShadow s b)
    := by
  unfold State.loadShadow
  try dsimp only
  (repeat' split) <;> simp +contextual (maxDischargeDepth := 99) only [↓ev, ↓Evolves.update, implies_true, eq_self,
      Cst.wf_iff, Wel.wf_iff, Rst.wf_iff, Pipe.wf_iff, Cul.wf_iff, Pump.wf_iff, Obs.wf_iff, GLink.wf_iff, twf_tset,
      and_self, ↓State.loadMode_evolves, ↓State.readList_evolves]

theorem State.loadShadows_evolves {s0 s : State} (ev : Evolves s0 s) (p : Nat) : Evolves s0 (State.loadShadows s p)
    := by
  unfold State.loadShadows
  try dsimp only
  simp +contextual (maxDischargeDepth := 99) only [↓ev, ↓Evolves.ite, ↓Evolves.foldl, implies_true,
      ↓State.loadShadow_evolves]

theorem execRowReadDone_evolves {s0 s : State} (ev : Evolves s0 s) (p : BitVec 5) (row : BitVec 256) (resp : BitVec
    2) : Outcome.Evolves s0 (execRowReadDone p row resp s) := by
  unfold execRowReadDone
  try dsimp only
  (repeat' split) <;> simp +contextual (maxDischargeDepth := 99) only [↓ev, ↓Outcome.evolves_next,
      ↓State.loadShadows_evolves, ↓State.memGot_evolves, ↓State.modPrt_evolves, ↓State.rowBad_evolves,
      ↓State.rowReadFail_evolves, ↓State.settle_evolves, ↓State.stageRow_evolves]

theorem execSwapStrobe_evolves {s0 s : State} (ev : Evolves s0 s) (p : BitVec 5) : Outcome.Evolves s0
    (execSwapStrobe p s) := by
  unfold execSwapStrobe
  try dsimp only
  simp +contextual (maxDischargeDepth := 99) only [↓ev, ↓Outcome.evolves_ite, ↓Evolves.update,
      ↓Outcome.evolves_next, implies_true, eq_self, Cst.wf_iff, Wel.wf_iff, Rst.wf_iff, Pipe.wf_iff, Cul.wf_iff,
      Pump.wf_iff, Obs.wf_iff, GLink.wf_iff, and_self, ↓State.loadShadows_evolves]

/-! ## Headgate.lean -/

theorem State.faultOutcome_evolves {s0 s : State} (ev : Evolves s0 s) (p : Nat) : Evolves s0 (State.faultOutcome s
    p) := by
  unfold State.faultOutcome
  try dsimp only
  simp +contextual (maxDischargeDepth := 99) only [↓ev, ↓State.closeFlush_evolves, ↓State.modPrt_evolves]

theorem State.overrun_evolves {s0 s : State} (ev : Evolves s0 s) (p : Nat) (faulted : Bool) : Evolves s0
    (State.overrun s p faulted) := by
  unfold State.overrun
  try dsimp only
  simp +contextual (maxDischargeDepth := 99) only [↓ev, ↓State.bump_evolves, ↓State.setPair_evolves]

theorem State.setShift_evolves {s0 s : State} (ev : Evolves s0 s) (p v : Nat) : Evolves s0 (State.setShift s p v) :=
    by
  unfold State.setShift
  try dsimp only
  simp +contextual (maxDischargeDepth := 99) only [↓ev, ↓State.setFld_evolves]

theorem State.stretchTaken_evolves {s0 s : State} (ev : Evolves s0 s) (p x : Nat) : Evolves s0 (State.stretchTaken s
    p x) := by
  unfold State.stretchTaken
  try dsimp only
  simp +contextual (maxDischargeDepth := 99) only [↓ev, ↓Evolves.ite, ↓State.bump_evolves, ↓State.fault_evolves,
      ↓State.overrun_evolves, ↓State.setShift_evolves]

theorem State.capTaken_evolves {s0 s : State} (ev : Evolves s0 s) (p : Nat) : Evolves s0 (State.capTaken s p) := by
  unfold State.capTaken
  try dsimp only
  simp +contextual (maxDischargeDepth := 99) only [↓ev, ↓Evolves.ite, ↓State.bump_evolves,
      ↓State.faultOutcome_evolves, ↓State.overrun_evolves, ↓State.setShift_evolves]

theorem State.aloneTaken_evolves {s0 s : State} (ev : Evolves s0 s) (p x : Nat) : Evolves s0 (State.aloneTaken s p
    x) := by
  unfold State.aloneTaken
  try dsimp only
  simp +contextual (maxDischargeDepth := 99) only [↓ev, ↓State.bump_evolves, ↓State.faultOutcome_evolves,
      ↓State.overrun_evolves, ↓State.setShift_evolves]

theorem State.tickOutcome_evolves {s0 s : State} (ev : Evolves s0 s) (p : Nat) : Evolves s0 (State.tickOutcome s p)
    := by
  unfold State.tickOutcome
  try dsimp only
  (repeat' split) <;> simp +contextual (maxDischargeDepth := 99) only [↓ev, ↓State.aloneTaken_evolves,
      ↓State.capTaken_evolves, ↓State.faultOutcome_evolves, ↓State.overrun_evolves, ↓State.setShift_evolves,
      ↓State.stretchTaken_evolves]

theorem State.endBinds_evolves {s0 s : State} (ev : Evolves s0 s) (p : Nat) : Evolves s0 (State.endBinds s p) := by
  unfold State.endBinds
  dsimp only
  simp +contextual (maxDischargeDepth := 99) only [↓twf_foldl, ↓ev, ↓Evolves.update, ↓Evolves.foldl, implies_true,
      eq_self, Cst.wf_iff, Wel.wf_iff, Rst.wf_iff, Pipe.wf_iff, Cul.wf_iff, Pump.wf_iff, Obs.wf_iff, GLink.wf_iff,
      twf_tset, and_self, ↓State.endBinding_evolves, ↓State.modPrt_evolves]

theorem State.bindMiss_evolves {s0 s : State} (ev : Evolves s0 s) (b : Bind) : Evolves s0 (State.bindMiss s b) := by
  unfold State.bindMiss
  try dsimp only
  simp +contextual (maxDischargeDepth := 99) only [↓ev, ↓State.modPrt_evolves, ↓State.sb_evolves]

theorem State.bindEffect_evolves {s0 s : State} (ev : Evolves s0 s) (b : Bind) : Evolves s0 (State.bindEffect s b)
    := by
  unfold State.bindEffect
  try dsimp only
  simp +contextual (maxDischargeDepth := 99) only [↓ev, implies_true, ↓State.bindSample_evolves,
      ↓State.count_evolves, ↓State.setAct_evolves, ↓State.trace_evolves, ↓State.tryBank_evolves]

theorem State.bindBegin_evolves {s0 s : State} (ev : Evolves s0 s) (old : List (Nat × Nat)) (b : Bind) : Evolves s0
    (State.bindBegin s old b) := by
  unfold State.bindBegin
  try dsimp only
  (repeat' split) <;> simp +contextual (maxDischargeDepth := 99) only [↓ev, ↓Evolves.update, implies_true, eq_self,
      Cst.wf_iff, Wel.wf_iff, Rst.wf_iff, Pipe.wf_iff, Cul.wf_iff, Pump.wf_iff, Obs.wf_iff, GLink.wf_iff, twf_tset,
      and_self, ↓State.bindEffect_evolves, ↓State.bindMiss_evolves, ↓State.endBinding_evolves]

theorem State.dropLeaves_evolves {s0 s : State} (ev : Evolves s0 s) (ch : Nat) : Evolves s0 (State.dropLeaves s ch)
    := by
  unfold State.dropLeaves
  try dsimp only
  simp +contextual (maxDischargeDepth := 99) only [↓ev, ↓State.modAct_evolves]

theorem State.swapBinds_evolves {s0 s : State} (ev : Evolves s0 s) (p : Nat) (start : Bool) : Evolves s0
    (State.swapBinds s p start) := by
  unfold State.swapBinds
  try dsimp only
  simp +contextual (maxDischargeDepth := 99) only [↓ev, ↓Evolves.update, ↓Evolves.foldl, implies_true, eq_self,
      Cst.wf_iff, Wel.wf_iff, Rst.wf_iff, Pipe.wf_iff, Cul.wf_iff, Pump.wf_iff, Obs.wf_iff, GLink.wf_iff, and_self,
      ↓State.bindBegin_evolves, ↓State.dropLeaves_evolves, ↓State.endBinding_evolves, ↓State.modAct_evolves,
      ↓State.modPrt_evolves, ↓State.withdraw_evolves]

theorem State.dueRows_evolves {s0 s : State} (ev : Evolves s0 s) (p : Nat) : Evolves s0 (State.dueRows s p) := by
  unfold State.dueRows
  try dsimp only
  simp +contextual (maxDischargeDepth := 99) only [↓ev, ↓Evolves.ite, ↓State.modPrt_evolves, ↓State.sb_evolves]

theorem State.haltEffect_evolves {s0 s : State} (ev : Evolves s0 s) (p : Nat) : Evolves s0 (State.haltEffect s p) :=
    by
  unfold State.haltEffect
  try dsimp only
  simp +contextual (maxDischargeDepth := 99) only [↓ev, ↓State.endBinds_evolves, ↓State.modPrt_evolves]

theorem State.releaseWaiting_evolves {s0 s : State} (ev : Evolves s0 s) (p : Nat) : Evolves s0 (State.releaseWaiting
    s p) := by
  unfold State.releaseWaiting
  try dsimp only
  simp +contextual (maxDischargeDepth := 99) only [↓ev, ↓Evolves.foldl, implies_true, ↓State.ctxIssue_evolves]

theorem State.rejudge_evolves {s0 s : State} (ev : Evolves s0 s) (p : Nat) : Evolves s0 (State.rejudge s p) := by
  unfold State.rejudge
  try dsimp only
  simp +contextual (maxDischargeDepth := 99) only [↓ev, ↓Evolves.update, implies_true, eq_self, Cst.wf_iff,
      Wel.wf_iff, Rst.wf_iff, Pipe.wf_iff, Cul.wf_iff, Pump.wf_iff, Obs.wf_iff, GLink.wf_iff, and_self]

theorem State.unsmear_evolves {s0 s : State} (ev : Evolves s0 s) (p : Nat) : Evolves s0 (State.unsmear s p) := by
  unfold State.unsmear
  try dsimp only
  simp +contextual (maxDischargeDepth := 99) only [↓ev, ↓Evolves.update, implies_true, eq_self, Cst.wf_iff,
      Wel.wf_iff, Rst.wf_iff, Pipe.wf_iff, Cul.wf_iff, Pump.wf_iff, Obs.wf_iff, GLink.wf_iff, and_self]

theorem State.unhalt_evolves {s0 s : State} (ev : Evolves s0 s) (p : Nat) : Evolves s0 (State.unhalt s p) := by
  unfold State.unhalt
  try dsimp only
  simp +contextual (maxDischargeDepth := 99) only [↓ev, ↓Evolves.ite, ↓State.modPrt_evolves, ↓State.rejudge_evolves,
      ↓State.releaseWaiting_evolves, ↓State.unsmear_evolves]

theorem State.skipRows_evolves {s0 s : State} (ev : Evolves s0 s) (p : Nat) : Evolves s0 (State.skipRows s p) := by
  unfold State.skipRows
  try dsimp only
  simp +contextual (maxDischargeDepth := 99) only [↓ev, ↓Evolves.ite, ↓State.modPrt_evolves, ↓State.sb_evolves]

theorem State.setPstate_evolves {s0 s : State} (ev : Evolves s0 s) (p v : Nat) : Evolves s0 (State.setPstate s p v)
    := by
  unfold State.setPstate
  try dsimp only
  simp +contextual (maxDischargeDepth := 99) only [↓ev, ↓State.setFld_evolves]

theorem State.enterQuiescing_evolves {s0 s : State} (ev : Evolves s0 s) (p : Nat) : Evolves s0 (State.enterQuiescing
    s p) := by
  unfold State.enterQuiescing
  try dsimp only
  simp +contextual (maxDischargeDepth := 99) only [↓ev, ↓Evolves.ite, ↓State.endBinds_evolves,
      ↓State.modPrt_evolves, ↓State.setPstate_evolves, ↓State.unhalt_evolves, ↓State.unsmear_evolves]

theorem State.switchTable_evolves {s0 s : State} (ev : Evolves s0 s) (p n : Nat) : Evolves s0 (State.switchTable s p
    n) := by
  unfold State.switchTable
  try dsimp only
  (repeat' split) <;> simp +contextual (maxDischargeDepth := 99) only [↓ev, ↓State.modPrt_evolves]

theorem State.slotBegin_evolves {s0 s : State} (ev : Evolves s0 s) (p : Nat) (start : Bool) : Evolves s0
    (State.slotBegin s p start) := by
  unfold State.slotBegin
  try dsimp only
  simp +contextual (maxDischargeDepth := 99) only [↓ev, ↓Evolves.ite, ↓State.closeEval_evolves,
      ↓State.delayStep_evolves, ↓State.dueRows_evolves, ↓State.haltEffect_evolves, ↓State.loadShadows_evolves,
      ↓State.modPrt_evolves, ↓State.reissue_evolves, ↓State.swapBinds_evolves]

theorem State.dumpTimeouts_evolves {s0 s : State} (ev : Evolves s0 s) (p n : Nat) : Evolves s0 (State.dumpTimeouts s
    p n) := by
  unfold State.dumpTimeouts
  split
  · exact ev
  · refine Evolves.foldl (fun t a ht => ?_) _ ev
    split
    · split <;> simp +contextual (maxDischargeDepth := 99) only [↓ht, ↓State.dumpEnd_evolves]
    · exact ht

theorem State.tickBegin_evolves {s0 s : State} (ev : Evolves s0 s) (p : Nat) : Evolves s0 (State.tickBegin s p) := by
  unfold State.tickBegin
  try dsimp only
  simp +contextual (maxDischargeDepth := 99) only [↓ev, ↓Evolves.ite, ↓State.dumpTimeouts_evolves,
      ↓State.enterQuiescing_evolves, ↓State.judgeAll_evolves, ↓State.modPrt_evolves, ↓State.rejudge_evolves,
      ↓State.skipRows_evolves, ↓State.slotBegin_evolves, ↓State.summaries_evolves, ↓State.switchTable_evolves,
      ↓State.tcloseClear_evolves, ↓State.unhalt_evolves]

theorem State.closeAtEnd_evolves {s0 s : State} (ev : Evolves s0 s) (p : Nat) : Evolves s0 (State.closeAtEnd s p) :=
    by
  unfold State.closeAtEnd
  try dsimp only
  simp +contextual (maxDischargeDepth := 99) only [↓ev, ↓Evolves.ite, ↓State.closeEval_evolves]

theorem execPartitionSlotBoundary_evolves {s0 s : State} (ev : Evolves s0 s) (p : BitVec 5) : Outcome.Evolves s0
    (execPartitionSlotBoundary p s) := by
  unfold execPartitionSlotBoundary
  try dsimp only
  simp +contextual (maxDischargeDepth := 99) only [↓ev, ↓Outcome.evolves_ite, ↓Outcome.evolves_next,
      ↓State.closeAtEnd_evolves, ↓State.modPrt_evolves, ↓State.settle_evolves, ↓State.slotBegin_evolves,
      ↓State.tickBegin_evolves, ↓State.tickOutcome_evolves]

theorem execStretchCapExpiry_evolves {s0 s : State} (ev : Evolves s0 s) (p : BitVec 5) : Outcome.Evolves s0
    (execStretchCapExpiry p s) := by
  unfold execStretchCapExpiry
  try dsimp only
  simp +contextual (maxDischargeDepth := 99) only [↓ev, ↓Outcome.evolves_ite, ↓Outcome.evolves_next,
      ↓State.modPrt_evolves]

theorem State.rowDone_evolves {s0 s : State} (ev : Evolves s0 s) (p : Nat) (r : Staged) : Evolves s0 (State.rowDone
    s p r) := by
  unfold State.rowDone
  try dsimp only
  simp +contextual (maxDischargeDepth := 99) only [↓ev, ↓Evolves.ite, ↓State.bump_evolves, ↓State.count_evolves,
      ↓State.modPrt_evolves, ↓State.trace_evolves]

theorem State.rowStep_evolves {s0 s : State} (ev : Evolves s0 s) (p action : Nat) (f : State → Staged → State) (hf_f
    : ∀ t u0, Evolves s0 t → Evolves s0 (f t u0)) : Outcome.Evolves s0 (State.rowStep s p action f) := by
  unfold State.rowStep
  try dsimp only
  (repeat' split) <;> simp +contextual (maxDischargeDepth := 99) only [↓ev, ↓hf_f, ↓Outcome.evolves_next,
      ↓State.rowDone_evolves, ↓State.settle_evolves]

theorem State.rowBank_evolves {s0 s : State} (ev : Evolves s0 s) (p action : Nat) (f : State → Staged → State) (hf_f
    : ∀ t u0, Evolves s0 t → Evolves s0 (f t u0)) : Outcome.Evolves s0 (State.rowBank s p action f) := by
  unfold State.rowBank
  try dsimp only
  (repeat' split) <;> simp +contextual (maxDischargeDepth := 99) only [↓ev, ↓hf_f, ↓Outcome.evolves_next,
      ↓State.closeOne_evolves, ↓State.cycles_evolves, ↓State.rowDone_evolves, ↓State.settle_evolves]

theorem State.rowEntry_evolves {s0 s : State} (ev : Evolves s0 s) (p : Nat) (r : Row) : Evolves s0 (State.rowEntry s
    p r).1 := by
  unfold State.rowEntry
  try dsimp only
  (repeat' split) <;> simp +contextual (maxDischargeDepth := 99) only [↓ev, ↓State.readEntry_evolves]

theorem State.rowArm_evolves {s0 s : State} (ev : Evolves s0 s) (p : Nat) (r : Staged) : Evolves s0 (State.rowArm s
    p r) := by
  unfold State.rowArm
  try dsimp only
  (repeat' split) <;> simp +contextual (maxDischargeDepth := 99) only [↓ev, ↓State.arm_evolves,
      ↓State.rowEntry_evolves, ↓State.sb_evolves]

theorem execRowArm_evolves {s0 s : State} (ev : Evolves s0 s) (p : BitVec 5) : Outcome.Evolves s0 (execRowArm p s)
    := by
  unfold execRowArm
  try dsimp only
  simp +contextual (maxDischargeDepth := 99) only [↓ev, implies_true, ↓State.rowArm_evolves, ↓State.rowBank_evolves]

theorem execBind_evolves {s0 s : State} (ev : Evolves s0 s) (p : BitVec 5) : Outcome.Evolves s0 (execBind p s) := by
  unfold execBind
  try dsimp only
  simp +contextual (maxDischargeDepth := 99) only [↓ev, ↓Evolves.ite, implies_true, ↓State.bindMiss_evolves,
      ↓State.loadShadows_evolves, ↓State.rowStep_evolves, ↓State.sb_evolves]

theorem State.rootForce_evolves {s0 s : State} (ev : Evolves s0 s) (ch : Nat) : Evolves s0 (State.rootForce s ch) :=
    by
  unfold State.rootForce
  try dsimp only
  (repeat' split) <;> simp +contextual (maxDischargeDepth := 99) only [↓ev, ↓State.rootComplete_evolves,
      ↓State.sampleReturn_evolves]

theorem State.releaseNow_evolves {s0 s : State} (ev : Evolves s0 s) (p n cnum : Nat) (e : Cistern) : Evolves s0
    (State.releaseNow s p n cnum e) := by
  unfold State.releaseNow
  try dsimp only
  (repeat' split) <;> simp +contextual (maxDischargeDepth := 99) only [↓ev, ↓State.enter_evolves,
      ↓State.rootForce_evolves]

theorem State.rowRelease_evolves {s0 s : State} (ev : Evolves s0 s) (p : Nat) (r : Staged) : Evolves s0
    (State.rowRelease s p r) := by
  unfold State.rowRelease
  try dsimp only
  (repeat' split) <;> simp +contextual (maxDischargeDepth := 99) only [↓ev, ↓State.releaseNow_evolves,
      ↓State.rowEntry_evolves, ↓State.sb_evolves]

theorem execReleaseAt_evolves {s0 s : State} (ev : Evolves s0 s) (p : BitVec 5) : Outcome.Evolves s0 (execReleaseAt
    p s) := by
  unfold execReleaseAt
  try dsimp only
  simp +contextual (maxDischargeDepth := 99) only [↓ev, implies_true, ↓State.rowBank_evolves,
      ↓State.rowRelease_evolves]

theorem State.rowCheck_evolves {s0 s : State} (ev : Evolves s0 s) (p : Nat) (r : Staged) : Evolves s0
    (State.rowCheck s p r) := by
  unfold State.rowCheck
  try dsimp only
  (repeat' split) <;> simp +contextual (maxDischargeDepth := 99) only [↓ev, ↓State.rowEntry_evolves,
      ↓State.sb_evolves]

theorem execCheck_evolves {s0 s : State} (ev : Evolves s0 s) (p : BitVec 5) : Outcome.Evolves s0 (execCheck p s) := by
  unfold execCheck
  try dsimp only
  simp +contextual (maxDischargeDepth := 99) only [↓ev, implies_true, ↓State.rowBank_evolves, ↓State.rowCheck_evolves]

theorem execSnapshotRow_evolves {s0 s : State} (ev : Evolves s0 s) (p : BitVec 5) : Outcome.Evolves s0
    (execSnapshotRow p s) := by
  unfold execSnapshotRow
  try dsimp only
  simp +contextual (maxDischargeDepth := 99) only [↓ev, implies_true, ↓State.modPrt_evolves, ↓State.rowStep_evolves]

theorem execScoreboardRecordWriteDone_evolves {s0 s : State} (ev : Evolves s0 s) (p : BitVec 5) (resp : BitVec 2) :
    Outcome.Evolves s0 (execScoreboardRecordWriteDone p resp s) := by
  unfold execScoreboardRecordWriteDone
  try dsimp only
  (repeat' split) <;> simp +contextual (maxDischargeDepth := 99) only [↓ev, ↓Outcome.evolves_next,
      ↓State.bump_evolves, ↓State.event_evolves, ↓State.memAck_evolves, ↓State.modPrt_evolves,
      ↓State.sbIssue_evolves, ↓State.setFld_evolves, ↓State.sysError_evolves]

/-! ## Alloc.lean -/

theorem State.initUnits_evolves {s0 s t : State} (ev : Evolves s0 s) (ev1 : Evolves s0 t) (p : Nat) : Evolves s0
    (State.initUnits s t p) := by
  unfold State.initUnits
  try dsimp only
  simp +contextual (maxDischargeDepth := 99) only [↓ev1, ↓Evolves.update, implies_true, eq_self, Cst.wf_iff,
      Wel.wf_iff, Rst.wf_iff, Pipe.wf_iff, Cul.wf_iff, Pump.wf_iff, Obs.wf_iff, GLink.wf_iff, and_self]

theorem State.allocJudge_evolves {s0 s t : State} (ev : Evolves s0 s) (ev1 : Evolves s0 t) (p : Nat) : Evolves s0
    (State.allocJudge s t p) := by
  unfold State.allocJudge
  try dsimp only
  simp +contextual (maxDischargeDepth := 99) only [↓ev, ↓ev1, ↓Evolves.ite, ↓State.initUnits_evolves,
      ↓State.setFlag_evolves]

theorem State.clearErrs_evolves {s0 s : State} (ev : Evolves s0 s) (cls lo hi : Nat) : Evolves s0 (State.clearErrs s
    cls lo hi) := by
  unfold State.clearErrs
  try dsimp only
  simp +contextual (maxDischargeDepth := 99) only [↓ev, ↓Evolves.update, implies_true, eq_self, Cst.wf_iff,
      Wel.wf_iff, Rst.wf_iff, Pipe.wf_iff, Cul.wf_iff, Pump.wf_iff, Obs.wf_iff, GLink.wf_iff, twf_tclear, and_self]

theorem State.initUnit_evolves {s0 s : State} (ev : Evolves s0 s) (e : Nat × Nat × Nat) : Evolves s0 (State.initUnit
    s e) := by
  unfold State.initUnit
  try dsimp only
  simp +contextual (maxDischargeDepth := 99) only [↓ev, ↓Evolves.ite, ↓Evolves.update, implies_true, eq_self,
      Cst.wf_iff, Wel.wf_iff, Rst.wf_iff, Pipe.wf_iff, Cul.wf_iff, Pump.wf_iff, Obs.wf_iff, GLink.wf_iff,
      twf_tclear, twf_tfill, and_self, ↓State.clearErrs_evolves, ↓State.cycles_evolves, ↓State.setFld_evolves]

theorem execAllocationInitDone_evolves {s0 s : State} (ev : Evolves s0 s) (p : BitVec 5) : Outcome.Evolves s0
    (execAllocationInitDone p s) := by
  unfold execAllocationInitDone
  try dsimp only
  simp +contextual (maxDischargeDepth := 99) only [↓ev, ↓Evolves.update, ↓Evolves.foldl, ↓Outcome.evolves_next,
      implies_true, eq_self, Cst.wf_iff, Wel.wf_iff, Rst.wf_iff, Pipe.wf_iff, Cul.wf_iff, Pump.wf_iff, Obs.wf_iff,
      GLink.wf_iff, and_self, ↓State.initUnit_evolves]

theorem State.chanQuotaJudge_evolves {s0 s t : State} (ev : Evolves s0 s) (ev1 : Evolves s0 t) (p : Nat) : Evolves
    s0 (State.chanQuotaJudge s t p) := by
  unfold State.chanQuotaJudge
  try dsimp only
  simp +contextual (maxDischargeDepth := 99) only [↓ev, ↓ev1, ↓Evolves.ite, ↓State.setFlag_evolves]

theorem State.stageQuotaJudge_evolves {s0 s t : State} (ev : Evolves s0 s) (ev1 : Evolves s0 t) (p : Nat) : Evolves
    s0 (State.stageQuotaJudge s t p) := by
  unfold State.stageQuotaJudge
  try dsimp only
  simp +contextual (maxDischargeDepth := 99) only [↓ev, ↓ev1, ↓Evolves.ite, ↓State.setFlag_evolves]

theorem State.creditJudge_evolves {s0 s t : State} (ev : Evolves s0 s) (ev1 : Evolves s0 t) (p : Nat) : Evolves s0
    (State.creditJudge s t p) := by
  unfold State.creditJudge
  try dsimp only
  simp +contextual (maxDischargeDepth := 99) only [↓ev, ↓ev1, ↓Evolves.ite, ↓State.setFlag_evolves]

theorem State.tapRangeJudge_evolves {s0 s t : State} (ev : Evolves s0 s) (ev1 : Evolves s0 t) (p k : Nat) : Evolves
    s0 (State.tapRangeJudge s t p k) := by
  unfold State.tapRangeJudge
  try dsimp only
  simp +contextual (maxDischargeDepth := 99) only [↓ev, ↓ev1, ↓Evolves.ite, ↓State.setFlag_evolves]

theorem State.pumpJudge_evolves {s0 s t : State} (ev : Evolves s0 s) (ev1 : Evolves s0 t) (p : Nat) : Evolves s0
    (State.pumpJudge s t p) := by
  unfold State.pumpJudge
  try dsimp only
  simp +contextual (maxDischargeDepth := 99) only [↓ev, ↓ev1, ↓Evolves.ite, ↓State.setFlag_evolves]

theorem State.credClr_evolves {s0 s : State} (ev : Evolves s0 s) (held e : Nat) : Evolves s0 (State.credClr s held
    e) := by
  unfold State.credClr
  try dsimp only
  (repeat' split) <;> simp +contextual (maxDischargeDepth := 99) only [↓ev, ↓State.grantSet_evolves,
      ↓State.readEntry_evolves, ↓State.setFlag_evolves]

theorem execBindSampleReturn_evolves {s0 s : State} (ev : Evolves s0 s) (chan : BitVec 5) : Outcome.Evolves s0
    (execBindSampleReturn chan s) := by
  unfold execBindSampleReturn
  try dsimp only
  simp +contextual (maxDischargeDepth := 99) only [↓ev, ↓Outcome.evolves_next, ↓State.sampleReturn_evolves,
      ↓State.settle_evolves]

end Sys2Proof.Machine
end

