-- ==== Sys2Proof/Laws/EvolvesNet.lean ====
section
/-! SUPPORT. What Culvert and membership do to a state: the build and the queue stay, and the invariant is kept. -/

namespace Sys2Proof.Machine

/-! ## Culvert.lean -/

theorem State.setLink_evolves {s0 s : State} (ev : Evolves s0 s) (k st : Nat) : Evolves s0 (State.setLink s k st) :=
    by
  unfold State.setLink
  try dsimp only
  simp +contextual (maxDischargeDepth := 99) only [↓ev, ↓State.setFld_evolves]

theorem State.sendTrain_evolves {s0 s : State} (ev : Evolves s0 s) (k : Nat) : Evolves s0 (State.sendTrain s k) := by
  unfold State.sendTrain
  try dsimp only
  simp +contextual (maxDischargeDepth := 99) only [↓ev, ↓State.nextFree_evolves, ↓State.sendFlit_evolves]

theorem State.linkReset_evolves {s0 s : State} (ev : Evolves s0 s) (k : Nat) : Evolves s0 (State.linkReset s k) := by
  unfold State.linkReset
  try dsimp only
  simp +contextual (maxDischargeDepth := 99) only [↓ev, ↓State.bump_evolves, ↓State.setPort_evolves]

theorem State.downRecords_evolves {s0 s : State} (ev : Evolves s0 s) (k : Nat) : Evolves s0 (State.downRecords s k)
    := by
  unfold State.downRecords
  try dsimp only
  simp +contextual (maxDischargeDepth := 99) only [↓ev, ↓Evolves.foldl, implies_true, ↓State.ao_evolves,
      ↓State.event_evolves, ↓State.setFlag_evolves]

theorem State.linkDown_evolves {s0 s : State} (ev : Evolves s0 s) (k : Nat) : Evolves s0 (State.linkDown s k) := by
  unfold State.linkDown
  try dsimp only
  simp +contextual (maxDischargeDepth := 99) only [↓ev, ↓State.downRecords_evolves, ↓State.linkReset_evolves,
      ↓State.setLink_evolves]

theorem State.linkJoin_evolves {s0 s : State} (ev : Evolves s0 s) (k : Nat) : Evolves s0 (State.linkJoin s k) := by
  unfold State.linkJoin
  try dsimp only
  simp +contextual (maxDischargeDepth := 99) only [↓ev, ↓State.modPort_evolves, ↓State.setLink_evolves]

theorem State.linkHold_evolves {s0 s : State} (ev : Evolves s0 s) (k : Nat) : Evolves s0 (State.linkHold s k) := by
  unfold State.linkHold
  try dsimp only
  simp +contextual (maxDischargeDepth := 99) only [↓ev, ↓State.bump_evolves, ↓State.setLink_evolves,
      ↓State.setPort_evolves]

theorem execLaneLock_evolves {s0 s : State} (ev : Evolves s0 s) (port : BitVec 3) : Outcome.Evolves s0 (execLaneLock
    port s) := by
  unfold execLaneLock
  try dsimp only
  simp +contextual (maxDischargeDepth := 99) only [↓ev, ↓Outcome.evolves_ite, ↓Outcome.evolves_next,
      ↓State.modPort_evolves, ↓State.sendTrain_evolves, ↓State.setFld_evolves, ↓State.setLink_evolves]

theorem execLaneLockLoss_evolves {s0 s : State} (ev : Evolves s0 s) (port : BitVec 3) (lane : Bool) :
    Outcome.Evolves s0 (execLaneLockLoss port lane s) := by
  unfold execLaneLockLoss
  try dsimp only
  simp +contextual (maxDischargeDepth := 99) only [↓ev, ↓Outcome.evolves_ite, ↓Outcome.evolves_next,
      ↓State.linkDown_evolves, ↓State.modPort_evolves, ↓State.setFlag_evolves, ↓State.setLink_evolves,
      ↓State.settle_evolves]

theorem execDownTimerExpiry_evolves {s0 s : State} (ev : Evolves s0 s) (port : BitVec 3) : Outcome.Evolves s0
    (execDownTimerExpiry port s) := by
  unfold execDownTimerExpiry
  try dsimp only
  simp +contextual (maxDischargeDepth := 99) only [↓ev, ↓Outcome.evolves_ite, ↓Outcome.evolves_next,
      ↓State.setLink_evolves]

theorem execAckTimeout_evolves {s0 s : State} (ev : Evolves s0 s) (port : BitVec 3) : Outcome.Evolves s0
    (execAckTimeout port s) := by
  unfold execAckTimeout
  try dsimp only
  simp +contextual (maxDischargeDepth := 99) only [↓ev, ↓Outcome.evolves_ite, ↓Outcome.evolves_next,
      ↓State.linkDown_evolves, ↓State.settle_evolves]

theorem State.floodMember_evolves {s0 s : State} (ev : Evolves s0 s) (skip : Option Nat) (m : Msg) : Evolves s0
    (State.floodMember s skip m) := by
  unfold State.floodMember
  try dsimp only
  simp +contextual (maxDischargeDepth := 99) only [↓ev, ↓Evolves.foldl, implies_true, ↓State.queueFrame_evolves]

theorem State.raiseMember_evolves {s0 s : State} (ev : Evolves s0 s) (mtype pay : Nat) : Evolves s0
    (State.raiseMember s mtype pay) := by
  unfold State.raiseMember
  try dsimp only
  simp +contextual (maxDischargeDepth := 99) only [↓ev, ↓Evolves.ite, ↓Evolves.update, implies_true, eq_self,
      Cst.wf_iff, Wel.wf_iff, Rst.wf_iff, Pipe.wf_iff, Cul.wf_iff, Pump.wf_iff, Obs.wf_iff, GLink.wf_iff, and_self,
      ↓State.floodMember_evolves]

theorem State.withdrawSelf_evolves {s0 s : State} (ev : Evolves s0 s) : Evolves s0 (State.withdrawSelf s) := by
  unfold State.withdrawSelf
  try dsimp only
  simp +contextual (maxDischargeDepth := 99) only [↓ev, ↓State.raiseMember_evolves, ↓State.setFlag_evolves]

theorem State.memberIn_evolves {s0 s : State} (ev : Evolves s0 s) (k : Nat) (m : Msg) : Evolves s0 (State.memberIn s
    k m) := by
  unfold State.memberIn
  try dsimp only
  simp +contextual (maxDischargeDepth := 99) only [↓ev, ↓Evolves.ite, ↓Evolves.update, implies_true, eq_self,
      Cst.wf_iff, Wel.wf_iff, Rst.wf_iff, Pipe.wf_iff, Cul.wf_iff, Pump.wf_iff, Obs.wf_iff, GLink.wf_iff, and_self,
      ↓State.floodMember_evolves, ↓State.setFlag_evolves, ↓State.withdrawSelf_evolves]

theorem execLinkGraceExpiry_evolves {s0 s : State} (ev : Evolves s0 s) (port : BitVec 3) : Outcome.Evolves s0
    (execLinkGraceExpiry port s) := by
  unfold execLinkGraceExpiry
  try dsimp only
  simp +contextual (maxDischargeDepth := 99) only [↓ev, ↓Outcome.evolves_ite, ↓Outcome.evolves_next,
      ↓State.modPort_evolves, ↓State.raiseMember_evolves, ↓State.settle_evolves]

theorem State.joinWrite_evolves {s0 s : State} (ev : Evolves s0 s) (v : Nat) : Evolves s0 (State.joinWrite s v) := by
  unfold State.joinWrite
  try dsimp only
  simp +contextual (maxDischargeDepth := 99) only [↓ev, ↓Evolves.ite, ↓State.raiseMember_evolves]

theorem State.flitCorrected_evolves {s0 s : State} (ev : Evolves s0 s) (k : Nat) : Evolves s0 (State.flitCorrected s
    k) := by
  unfold State.flitCorrected
  try dsimp only
  simp +contextual (maxDischargeDepth := 99) only [↓ev, ↓State.bump_evolves, ↓State.corrected_evolves]

theorem State.identIn_evolves {s0 s : State} (ev : Evolves s0 s) (k : Nat) (t : TrainFlit) : Evolves s0
    (State.identIn s k t) := by
  unfold State.identIn
  try dsimp only
  simp +contextual (maxDischargeDepth := 99) only [↓ev, ↓Evolves.ite, ↓State.linkDown_evolves,
      ↓State.linkJoin_evolves, ↓State.setFlag_evolves, ↓State.setFld_evolves]

theorem execTrainFlit_evolves {s0 s : State} (ev : Evolves s0 s) (port : BitVec 3) (t : TrainFlit) : Outcome.Evolves
    s0 (execTrainFlit port t s) := by
  unfold execTrainFlit
  try dsimp only
  simp +contextual (maxDischargeDepth := 99) only [↓ev, ↓Evolves.ite, ↓Outcome.evolves_ite, ↓Outcome.evolves_next,
      ↓State.flitCorrected_evolves, ↓State.identIn_evolves, ↓State.modPort_evolves, ↓State.sendTrain_evolves,
      ↓State.setLink_evolves, ↓State.settle_evolves]

theorem State.ackIn_evolves {s0 s : State} (ev : Evolves s0 s) (k a : Nat) : Evolves s0 (State.ackIn s k a) := by
  unfold State.ackIn
  try dsimp only
  (repeat' split) <;> simp +contextual (maxDischargeDepth := 99) only [↓ev, ↓State.setPort_evolves]

theorem State.creditIn_evolves {s0 s : State} (ev : Evolves s0 s) (k : Nat) (c : Option Nat) : Evolves s0
    (State.creditIn s k c) := by
  unfold State.creditIn
  try dsimp only
  (repeat' split) <;> simp +contextual (maxDischargeDepth := 99) only [↓ev, ↓State.modPort_evolves]

theorem State.resend_evolves {s0 s : State} (ev : Evolves s0 s) (k : Nat) : Evolves s0 (State.resend s k) := by
  unfold State.resend
  try dsimp only
  simp +contextual (maxDischargeDepth := 99) only [↓ev, ↓Evolves.ite, ↓Evolves.update, ↓Evolves.foldl, implies_true,
      eq_self, Cst.wf_iff, Wel.wf_iff, Rst.wf_iff, Pipe.wf_iff, Cul.wf_iff, Pump.wf_iff, Obs.wf_iff, GLink.wf_iff,
      and_self, ↓State.bump_evolves, ↓State.count_evolves, ↓State.sendFlit_evolves]

theorem State.nakIn_evolves {s0 s : State} (ev : Evolves s0 s) (k ack : Nat) : Evolves s0 (State.nakIn s k ack) := by
  unfold State.nakIn
  try dsimp only
  simp +contextual (maxDischargeDepth := 99) only [↓ev, ↓Evolves.ite, ↓State.ackIn_evolves, ↓State.linkDown_evolves,
      ↓State.modPort_evolves, ↓State.resend_evolves]

theorem State.rejectFlit_evolves {s0 s : State} (ev : Evolves s0 s) (k : Nat) : Evolves s0 (State.rejectFlit s k) :=
    by
  unfold State.rejectFlit
  try dsimp only
  simp +contextual (maxDischargeDepth := 99) only [↓ev, ↓Evolves.ite, ↓State.modPort_evolves, ↓State.sendFlit_evolves]

theorem State.wakeFor_evolves {s0 s : State} (ev : Evolves s0 s) : Evolves s0 (State.wakeFor s) := by
  unfold State.wakeFor
  try dsimp only
  simp +contextual (maxDischargeDepth := 99) only [↓ev, ↓Evolves.ite, ↓Evolves.update, implies_true, eq_self,
      Cst.wf_iff, Wel.wf_iff, Rst.wf_iff, Pipe.wf_iff, Cul.wf_iff, Pump.wf_iff, Obs.wf_iff, GLink.wf_iff, and_self]

theorem State.takeCount_evolves {s0 s : State} (ev : Evolves s0 s) (k : Nat) (b : Beat) : Evolves s0
    (State.takeCount s k b).1 := by
  unfold State.takeCount
  try dsimp only
  simp +contextual (maxDischargeDepth := 99) only [↓ev, ↓Evolves.ite, ↓Evolves.ite_fst, ↓State.countHere_evolves,
      ↓State.countOn_evolves, ↓State.epDrop_evolves, ↓State.wakeFor_evolves]

theorem State.takeCounts_evolves {s0 s : State} (ev : Evolves s0 s) (k : Nat) : Evolves s0 (State.takeCounts s k) :=
    by
  have hf : ∀ (l : List Beat) {u : State}, Evolves s0 u → Evolves s0 (State.takeFrom u k l).1 := by
    intro l
    induction l with
    | nil => exact fun h => h
    | cons b t ih =>
      intro u h
      unfold State.takeFrom
      split
      · exact h
      · dsimp only
        apply ih
        split
        · exact State.takeCount_evolves h _ _
        · exact h
  unfold State.takeCounts
  dsimp only
  split
  · exact ev
  · exact State.modPort_evolves (hf _ ev) _ _

theorem State.flitCounts_evolves {s0 s : State} (ev : Evolves s0 s) (k : Nat) (w : BitVec 640) : Evolves s0
    (State.flitCounts s k w) := by
  unfold State.flitCounts
  try dsimp only
  simp +contextual (maxDischargeDepth := 99) only [↓ev, ↓Evolves.ite, ↓Evolves.foldl, implies_true,
      ↓State.drop_evolves, ↓State.modPort_evolves]

theorem State.flitBeatIn_evolves {s0 s : State} (ev : Evolves s0 s) (k : Nat) (b : Beat) : Evolves s0
    (State.flitBeatIn s k b) := by
  unfold State.flitBeatIn
  try dsimp only
  simp +contextual (maxDischargeDepth := 99) only [↓ev, ↓Evolves.ite, ↓State.drop_evolves, ↓State.modPort_evolves,
      ↓State.sendIdle_evolves, ↓State.wakeFor_evolves]

theorem State.acceptFlit_evolves {s0 s : State} (ev : Evolves s0 s) (k : Nat) (w : BitVec 640) : Evolves s0
    (State.acceptFlit s k w) := by
  unfold State.acceptFlit
  try dsimp only
  simp +contextual (maxDischargeDepth := 99) only [↓ev, ↓Evolves.ite, ↓State.ackIn_evolves, ↓State.creditIn_evolves,
      ↓State.flitBeatIn_evolves, ↓State.flitCounts_evolves, ↓State.modPort_evolves, ↓State.sendIdle_evolves,
      ↓State.takeCounts_evolves, ↓State.tmatch_evolves, ↓State.tracePair_evolves]

theorem State.flitIn_evolves {s0 s : State} (ev : Evolves s0 s) (k : Nat) (f : BitVec 640 × Bool) : Evolves s0
    (State.flitIn k s f) := by
  unfold State.flitIn
  try dsimp only
  simp +contextual (maxDischargeDepth := 99) only [↓ev, ↓Evolves.ite, ↓State.acceptFlit_evolves,
      ↓State.ackIn_evolves, ↓State.creditIn_evolves, ↓State.flitCorrected_evolves, ↓State.nakIn_evolves,
      ↓State.rejectFlit_evolves]

theorem State.received_evolves {s0 s : State} (ev : Evolves s0 s) (k : Nat) (fl : RxFlit) : Evolves s0
    (State.received s k fl) := by
  unfold State.received
  try dsimp only
  (repeat' split) <;> simp +contextual (maxDischargeDepth := 99) only [↓ev, ↓Evolves.foldl, implies_true,
      ↓State.drainPort_evolves, ↓State.flitIn_evolves, ↓State.rejectFlit_evolves, ↓State.settle_evolves]

theorem execIdleFlit_evolves {s0 s : State} (ev : Evolves s0 s) (port : BitVec 3) (first : BitVec 680) (rest :
    Option (BitVec 4760)) : Outcome.Evolves s0 (execIdleFlit port first rest s) := by
  unfold execIdleFlit
  try dsimp only
  simp +contextual (maxDischargeDepth := 99) only [↓ev, ↓Outcome.evolves_next, ↓State.received_evolves]

theorem execNormalFlit_evolves {s0 s : State} (ev : Evolves s0 s) (port : BitVec 3) (fl : RxFlit) : Outcome.Evolves
    s0 (execNormalFlit port fl s) := by
  unfold execNormalFlit
  try dsimp only
  simp +contextual (maxDischargeDepth := 99) only [↓ev, ↓Outcome.evolves_next, ↓State.received_evolves]

theorem execNak_evolves {s0 s : State} (ev : Evolves s0 s) (port : BitVec 3) (fl : RxFlit) : Outcome.Evolves s0
    (execNak port fl s) := by
  unfold execNak
  try dsimp only
  simp +contextual (maxDischargeDepth := 99) only [↓ev, ↓Outcome.evolves_next, ↓State.received_evolves]

theorem State.freeBeats_evolves {s0 s : State} (ev : Evolves s0 s) (k : Nat) (f rest : List Beat) : Evolves s0
    (State.freeBeats s k f rest) := by
  unfold State.freeBeats
  try dsimp only
  simp +contextual (maxDischargeDepth := 99) only [↓ev, ↓Evolves.ite, ↓Evolves.foldl, implies_true,
      ↓State.modPort_evolves, ↓State.sendIdle_evolves]

theorem State.onHop_evolves {s0 s : State} (ev : Evolves s0 s) (port : BitVec 3) (p : Beat → Bool) (act : State →
    Beat → State) (hf_act : ∀ t u0, Evolves s0 t → Evolves s0 (act t u0)) : Outcome.Evolves s0 (State.onHop s port p
    act) := by
  unfold State.onHop
  try dsimp only
  (repeat' split) <;> simp +contextual (maxDischargeDepth := 99) only [↓ev, ↓hf_act, ↓Outcome.evolves_next,
      ↓State.freeBeats_evolves, ↓State.settle_evolves]

theorem State.onFrame_evolves {s0 s : State} (ev : Evolves s0 s) (i : Instr) (port : BitVec 3) (t : Nat) (act :
    State → Beat → List Beat → State) (hf_act : ∀ t u0 u1, Evolves s0 t → Evolves s0 (act t u0 u1)) :
    Outcome.Evolves s0 (State.onFrame s i port t act) := by
  unfold State.onFrame
  try dsimp only
  (repeat' split) <;> simp +contextual (maxDischargeDepth := 99) only [↓ev, ↓hf_act, ↓Evolves.update,
      ↓Outcome.evolves_next, implies_true, eq_self, Cst.wf_iff, Wel.wf_iff, Rst.wf_iff, Pipe.wf_iff, Cul.wf_iff,
      Pump.wf_iff, Obs.wf_iff, GLink.wf_iff, and_self, ↓State.freeBeats_evolves, ↓State.routeFrame_evolves,
      ↓State.settle_evolves]

theorem State.reqIn_evolves {s0 s : State} (ev : Evolves s0 s) (b : Beat) (f : List Beat) : Evolves s0 (State.reqIn
    s b f) := by
  unfold State.reqIn
  try dsimp only
  simp +contextual (maxDischargeDepth := 99) only [↓ev, ↓Evolves.ite, ↓State.epDrop_evolves, ↓State.issue_evolves,
      ↓State.pollReq_evolves, ↓State.refuseOp_evolves]

theorem execCtrlReq_evolves {s0 s : State} (ev : Evolves s0 s) (port : BitVec 3) : Outcome.Evolves s0 (execCtrlReq
    port s) := by
  unfold execCtrlReq
  try dsimp only
  simp +contextual (maxDischargeDepth := 99) only [↓ev, implies_true, ↓State.onFrame_evolves, ↓State.reqIn_evolves]

theorem State.forwardRefused_evolves {s0 s : State} (ev : Evolves s0 s) (b : Beat) : Evolves s0
    (State.forwardRefused s b) := by
  unfold State.forwardRefused
  try dsimp only
  simp +contextual (maxDischargeDepth := 99) only [↓ev, ↓State.ao_evolves, ↓State.bump_evolves, ↓State.event_evolves]

theorem State.rspIn_evolves {s0 s : State} (ev : Evolves s0 s) (b : Beat) : Evolves s0 (State.rspIn s b) := by
  unfold State.rspIn
  try dsimp only
  (repeat' split) <;> simp +contextual (maxDischargeDepth := 99) only [↓ev, ↓State.deliver_evolves,
      ↓State.dropFwd_evolves, ↓State.forwardRefused_evolves]

theorem execCtrlRsp_evolves {s0 s : State} (ev : Evolves s0 s) (port : BitVec 3) : Outcome.Evolves s0 (execCtrlRsp
    port s) := by
  unfold execCtrlRsp
  try dsimp only
  simp +contextual (maxDischargeDepth := 99) only [↓ev, implies_true, ↓State.onFrame_evolves, ↓State.rspIn_evolves]

theorem execFwd_evolves {s0 s : State} (ev : Evolves s0 s) (port : BitVec 3) : Outcome.Evolves s0 (execFwd port s)
    := by
  unfold execFwd
  try dsimp only
  simp +contextual (maxDischargeDepth := 99) only [↓ev, ↓Evolves.ite, implies_true, ↓State.epDrop_evolves,
      ↓State.issue_evolves, ↓State.onFrame_evolves]

theorem execFarrive_evolves {s0 s : State} (ev : Evolves s0 s) (port : BitVec 3) : Outcome.Evolves s0 (execFarrive
    port s) := by
  unfold execFarrive
  try dsimp only
  simp +contextual (maxDischargeDepth := 99) only [↓ev, ↓Evolves.ite, implies_true, ↓State.epDrop_evolves,
      ↓State.issue_evolves, ↓State.onFrame_evolves]

theorem execRnotice_evolves {s0 s : State} (ev : Evolves s0 s) (port : BitVec 3) : Outcome.Evolves s0 (execRnotice
    port s) := by
  unfold execRnotice
  try dsimp only
  simp +contextual (maxDischargeDepth := 99) only [↓ev, ↓Evolves.foldl, implies_true, ↓State.addPend_evolves,
      ↓State.onFrame_evolves]

theorem execMember_evolves {s0 s : State} (ev : Evolves s0 s) (port : BitVec 3) : Outcome.Evolves s0 (execMember
    port s) := by
  unfold execMember
  try dsimp only
  simp +contextual (maxDischargeDepth := 99) only [↓ev, implies_true, ↓State.memberIn_evolves, ↓State.onHop_evolves]

theorem execFctl_evolves {s0 s : State} (ev : Evolves s0 s) (port : BitVec 3) : Outcome.Evolves s0 (execFctl port s)
    := by
  unfold execFctl
  try dsimp only
  simp +contextual (maxDischargeDepth := 99) only [↓ev, ↓Evolves.ite, ↓Evolves.foldl, implies_true,
      ↓State.modPrt_evolves, ↓State.onHop_evolves, ↓State.sendHop_evolves]

theorem State.markError_evolves {s0 s : State} (ev : Evolves s0 s) (k : Nat) : Evolves s0 (State.markError s k) := by
  unfold State.markError
  try dsimp only
  simp +contextual (maxDischargeDepth := 99) only [↓ev, ↓Evolves.ite, ↓State.ao_evolves, ↓State.bump_evolves,
      ↓State.linkDown_evolves, ↓State.modPort_evolves, ↓State.setFlag_evolves]

theorem State.markIn_evolves {s0 s : State} (ev : Evolves s0 s) (k : Nat) (b : Beat) : Evolves s0 (State.markIn s k
    b) := by
  unfold State.markIn
  try dsimp only
  simp +contextual (maxDischargeDepth := 99) only [↓ev, ↓Evolves.ite, ↓State.markError_evolves,
      ↓State.modPort_evolves]

theorem execTickMark_evolves {s0 s : State} (ev : Evolves s0 s) (port : BitVec 3) : Outcome.Evolves s0 (execTickMark
    port s) := by
  unfold execTickMark
  try dsimp only
  simp +contextual (maxDischargeDepth := 99) only [↓ev, implies_true, ↓State.markIn_evolves, ↓State.onHop_evolves,
      ↓State.takeCounts_evolves]

theorem execTickMarkWatchdogExpiry_evolves {s0 s : State} (ev : Evolves s0 s) (port : BitVec 3) : Outcome.Evolves s0
    (execTickMarkWatchdogExpiry port s) := by
  unfold execTickMarkWatchdogExpiry
  try dsimp only
  simp +contextual (maxDischargeDepth := 99) only [↓ev, ↓Outcome.evolves_ite, ↓Outcome.evolves_next,
      ↓State.linkDown_evolves, ↓State.settle_evolves]

theorem State.tickMarks_evolves {s0 s : State} (ev : Evolves s0 s) : Evolves s0 (State.tickMarks s) := by
  unfold State.tickMarks
  try dsimp only
  simp +contextual (maxDischargeDepth := 99) only [↓ev, ↓Evolves.ite, ↓Evolves.foldl, implies_true,
      ↓State.modPort_evolves, ↓State.sendHop_evolves]

theorem State.finalMarks_evolves {s0 s : State} (ev : Evolves s0 s) : Evolves s0 (State.finalMarks s) := by
  unfold State.finalMarks
  try dsimp only
  simp +contextual (maxDischargeDepth := 99) only [↓ev, ↓Evolves.ite, ↓Evolves.foldl, implies_true,
      ↓State.modPort_evolves, ↓State.sendHop_evolves]

theorem State.syncRecord_evolves {s0 s : State} (ev : Evolves s0 s) (was : Bool) : Evolves s0 (State.syncRecord s
    was) := by
  unfold State.syncRecord
  try dsimp only
  simp +contextual (maxDischargeDepth := 99) only [↓ev, ↓Evolves.ite, ↓State.ao_evolves]

theorem execTimeRequestTimer_evolves {s0 s : State} (ev : Evolves s0 s) : Outcome.Evolves s0 (execTimeRequestTimer
    s) := by
  unfold execTimeRequestTimer
  try dsimp only
  simp +contextual (maxDischargeDepth := 99) only [↓ev, ↓Outcome.evolves_ite, ↓Outcome.evolves_next,
      ↓State.sendHop_evolves, ↓State.settle_evolves]

theorem execTimeRequest_evolves {s0 s : State} (ev : Evolves s0 s) (port : BitVec 3) : Outcome.Evolves s0
    (execTimeRequest port s) := by
  unfold execTimeRequest
  try dsimp only
  simp +contextual (maxDischargeDepth := 99) only [↓ev, implies_true, ↓State.onHop_evolves, ↓State.sendHop_evolves]

theorem State.estimated_evolves {s0 s : State} (ev : Evolves s0 s) (off : Int) : Evolves s0 (State.estimated s off)
    := by
  unfold State.estimated
  try dsimp only
  simp +contextual (maxDischargeDepth := 99) only [↓ev, ↓Evolves.update, implies_true, eq_self, Cst.wf_iff,
      Wel.wf_iff, Rst.wf_iff, Pipe.wf_iff, Cul.wf_iff, Pump.wf_iff, Obs.wf_iff, GLink.wf_iff, and_self,
      ↓State.nextFree_evolves, ↓State.setFld_evolves, ↓State.syncRecord_evolves]

theorem execTimeAnswer_evolves {s0 s : State} (ev : Evolves s0 s) (port : BitVec 3) : Outcome.Evolves s0
    (execTimeAnswer port s) := by
  unfold execTimeAnswer
  try dsimp only
  simp +contextual (maxDischargeDepth := 99) only [↓ev, ↓Evolves.ite, implies_true, ↓State.estimated_evolves,
      ↓State.onHop_evolves, ↓State.setReg_evolves]

theorem execTimeEstimateAged_evolves {s0 s : State} (ev : Evolves s0 s) : Outcome.Evolves s0 (execTimeEstimateAged
    s) := by
  unfold execTimeEstimateAged
  try dsimp only
  simp +contextual (maxDischargeDepth := 99) only [↓ev, ↓Outcome.evolves_ite, ↓Evolves.update,
      ↓Outcome.evolves_next, implies_true, eq_self, Cst.wf_iff, Wel.wf_iff, Rst.wf_iff, Pipe.wf_iff, Cul.wf_iff,
      Pump.wf_iff, Obs.wf_iff, GLink.wf_iff, and_self, ↓State.setFld_evolves, ↓State.syncRecord_evolves]

theorem State.graceCheck_evolves {s0 s : State} (ev : Evolves s0 s) : Evolves s0 (State.graceCheck s) := by
  unfold State.graceCheck
  try dsimp only
  simp +contextual (maxDischargeDepth := 99) only [↓ev, ↓Evolves.ite, ↓Evolves.update, implies_true, eq_self,
      Cst.wf_iff, Wel.wf_iff, Rst.wf_iff, Pipe.wf_iff, Cul.wf_iff, Pump.wf_iff, Obs.wf_iff, GLink.wf_iff, and_self,
      ↓State.withdrawSelf_evolves]

theorem State.portConfig_evolves {s0 s t : State} (ev : Evolves s0 s) (ev1 : Evolves s0 t) (k : Nat) : Evolves s0
    (State.portConfig s t k) := by
  unfold State.portConfig
  try dsimp only
  simp +contextual (maxDischargeDepth := 99) only [↓ev1, ↓Evolves.ite, ↓State.linkReset_evolves,
      ↓State.setLink_evolves]

theorem State.channelJudge_evolves {s0 s t : State} (ev : Evolves s0 s) (ev1 : Evolves s0 t) (c : Nat) : Evolves s0
    (State.channelJudge s t c) := by
  unfold State.channelJudge
  try dsimp only
  simp +contextual (maxDischargeDepth := 99) only [↓ev, ↓ev1, ↓Evolves.ite, ↓State.setFlag_evolves]

theorem State.remoteJudge_evolves {s0 s t : State} (ev : Evolves s0 s) (ev1 : Evolves s0 t) (e : Nat) : Evolves s0
    (State.remoteJudge s t e) := by
  unfold State.remoteJudge
  try dsimp only
  simp +contextual (maxDischargeDepth := 99) only [↓ev, ↓ev1, ↓Evolves.ite, ↓State.setFlag_evolves]

/-! ## Member.lean -/

theorem State.freezeChannel_evolves {s0 s : State} (ev : Evolves s0 s) (c : Nat) : Evolves s0 (State.freezeChannel s
    c) := by
  unfold State.freezeChannel
  try dsimp only
  simp +contextual (maxDischargeDepth := 99) only [↓ev, ↓State.setFab_evolves, ↓State.setReg_evolves]

theorem State.freezeAll_evolves {s0 s : State} (ev : Evolves s0 s) (p : Nat) : Evolves s0 (State.freezeAll s p) := by
  unfold State.freezeAll
  try dsimp only
  simp +contextual (maxDischargeDepth := 99) only [↓ev, ↓Evolves.foldl, implies_true, ↓State.freezeChannel_evolves]

theorem State.faultCistern_evolves {s0 s : State} (ev : Evolves s0 s) (p cnum : Nat) : Evolves s0
    (State.faultCistern s p cnum) := by
  unfold State.faultCistern
  try dsimp only
  (repeat' split) <;> simp +contextual (maxDischargeDepth := 99) only [↓ev, ↓State.mark_evolves,
      ↓State.readEntry_evolves]

theorem State.closeAlone_evolves {s0 s : State} (ev : Evolves s0 s) (p : Nat) : Evolves s0 (State.closeAlone s p) :=
    by
  unfold State.closeAlone
  try dsimp only
  (repeat' split) <;> simp +contextual (maxDischargeDepth := 99) only [↓ev, ↓State.modPrt_evolves]

theorem State.affect_evolves {s0 s : State} (ev : Evolves s0 s) (p n : Nat) : Evolves s0 (State.affect s p n) := by
  unfold State.affect
  try dsimp only
  simp +contextual (maxDischargeDepth := 99) only [↓ev, ↓Evolves.foldl, implies_true, ↓State.closeAlone_evolves,
      ↓State.faultCistern_evolves, ↓State.fault_evolves, ↓State.freezeAll_evolves]

theorem State.portMember_evolves {s0 s : State} (ev : Evolves s0 s) (k : Nat) : Evolves s0 (State.portMember s k) :=
    by
  unfold State.portMember
  try dsimp only
  simp +contextual (maxDischargeDepth := 99) only [↓ev, ↓Evolves.ite, ↓State.linkHold_evolves, ↓State.setLink_evolves]

theorem State.lostForwards_evolves {s0 s : State} (ev : Evolves s0 s) : Evolves s0 (State.lostForwards s) := by
  unfold State.lostForwards
  try dsimp only
  simp +contextual (maxDischargeDepth := 99) only [↓ev, ↓Evolves.ite, ↓Evolves.foldl, implies_true,
      ↓State.cisternLost_evolves, ↓State.dropFwd_evolves, ↓State.wellLost_evolves]

theorem State.lostMasters_evolves {s0 s : State} (ev : Evolves s0 s) : Evolves s0 (State.lostMasters s) := by
  unfold State.lostMasters
  try dsimp only
  simp +contextual (maxDischargeDepth := 99) only [↓ev, ↓Evolves.foldl, implies_true, ↓State.addPend_evolves]

theorem State.applyChange_evolves {s0 s : State} (ev : Evolves s0 s) (c : Change) (msgs : Nat) : Evolves s0
    (State.applyChange s c msgs) := by
  unfold State.applyChange
  try dsimp only
  simp +contextual (maxDischargeDepth := 99) only [↓ev, ↓Evolves.update, ↓Evolves.foldl, implies_true, eq_self,
      Cst.wf_iff, Wel.wf_iff, Rst.wf_iff, Pipe.wf_iff, Cul.wf_iff, Pump.wf_iff, Obs.wf_iff, GLink.wf_iff, and_self,
      ↓State.affect_evolves, ↓State.ao_evolves, ↓State.lostForwards_evolves, ↓State.lostMasters_evolves,
      ↓State.portMember_evolves, ↓State.setFlag_evolves, ↓State.setFld_evolves, ↓State.setReg_evolves]

theorem State.epochChange_evolves {s0 s : State} (ev : Evolves s0 s) : Evolves s0 (State.epochChange s) := by
  unfold State.epochChange
  try dsimp only
  simp +contextual (maxDischargeDepth := 99) only [↓ev, ↓Evolves.ite, ↓Evolves.update, implies_true, eq_self,
      Cst.wf_iff, Wel.wf_iff, Rst.wf_iff, Pipe.wf_iff, Cul.wf_iff, Pump.wf_iff, Obs.wf_iff, GLink.wf_iff, and_self,
      ↓State.applyChange_evolves]

end Sys2Proof.Machine
end

