-- ==== Sys2Proof/Laws/EvolvesHost.lean ====
section
/-! SUPPORT. What host queues, partitions, observation, snapshots and Pump operations do to a state: the build and the queue stay, and the invariant is kept. -/

namespace Sys2Proof.Machine

/-! ## Dqu.lean -/

theorem State.prodIn_evolves {s0 s : State} (ev : Evolves s0 s) (f v : Nat) : Evolves s0 (State.prodIn s f v) := by
  unfold State.prodIn
  try dsimp only
  simp +contextual (maxDischargeDepth := 99) only [↓ev, ↓Evolves.ite, ↓State.fnError_evolves, ↓State.setFn_evolves]

theorem State.consIn_evolves {s0 s : State} (ev : Evolves s0 s) (f u : Nat) : Evolves s0 (State.consIn s f u) := by
  unfold State.consIn
  try dsimp only
  simp +contextual (maxDischargeDepth := 99) only [↓ev, ↓Evolves.ite, ↓State.fnError_evolves, ↓State.setFn_evolves]

theorem State.kickIn_evolves {s0 s : State} (ev : Evolves s0 s) (f w : Nat) : Evolves s0 (State.kickIn s f w) := by
  unfold State.kickIn
  try dsimp only
  simp +contextual (maxDischargeDepth := 99) only [↓ev, ↓Evolves.ite, ↓State.consIn_evolves, ↓State.prodIn_evolves]

theorem State.doorbell_evolves {s0 s : State} (ev : Evolves s0 s) (f : Nat) : Evolves s0 (State.doorbell s f) := by
  unfold State.doorbell
  try dsimp only
  simp +contextual (maxDischargeDepth := 99) only [↓ev, ↓State.memRd_evolves, ↓State.modFn_evolves]

theorem State.tickDoorbells_evolves {s0 s : State} (ev : Evolves s0 s) : Evolves s0 (State.tickDoorbells s) := by
  unfold State.tickDoorbells
  try dsimp only
  simp +contextual (maxDischargeDepth := 99) only [↓ev, ↓Evolves.foldl, implies_true, ↓State.doorbell_evolves]

theorem State.slotDoorbells_evolves {s0 s : State} (ev : Evolves s0 s) : Evolves s0 (State.slotDoorbells s) := by
  unfold State.slotDoorbells
  try dsimp only
  simp +contextual (maxDischargeDepth := 99) only [↓ev, ↓Evolves.foldl, implies_true, ↓State.doorbell_evolves]

theorem execDoorbellReadDone_evolves {s0 s : State} (ev : Evolves s0 s) (f : BitVec 8) (rec : W32) (resp : BitVec 2)
    : Outcome.Evolves s0 (execDoorbellReadDone f rec resp s) := by
  unfold execDoorbellReadDone
  try dsimp only
  simp +contextual (maxDischargeDepth := 99) only [↓ev, ↓Outcome.evolves_ite, ↓Outcome.evolves_next,
      ↓State.fnError_evolves, ↓State.kickIn_evolves, ↓State.memGot_evolves, ↓State.modFn_evolves,
      ↓State.sysError_evolves]

theorem execCommandFetch_evolves {s0 s : State} (ev : Evolves s0 s) : Outcome.Evolves s0 (execCommandFetch s) := by
  unfold execCommandFetch
  try dsimp only
  (repeat' split) <;> simp +contextual (maxDischargeDepth := 99) only [↓ev, ↓Evolves.update, ↓Outcome.evolves_next,
      implies_true, eq_self, Cst.wf_iff, Wel.wf_iff, Rst.wf_iff, Pipe.wf_iff, Cul.wf_iff, Pump.wf_iff, Obs.wf_iff,
      GLink.wf_iff, and_self, ↓State.memRd_evolves, ↓State.modFn_evolves]

theorem State.accept_evolves {s0 s : State} (ev : Evolves s0 s) (f : Nat) (w : BitVec 512) : Evolves s0
    (State.accept s f w) := by
  unfold State.accept
  try dsimp only
  simp +contextual (maxDischargeDepth := 99) only [↓ev, ↓Evolves.ite, ↓State.modFn_evolves, ↓State.refuse_evolves]

theorem State.acceptAll_evolves {s0 s : State} (ev : Evolves s0 s) (f : Nat) (m0 : List (BitVec 512)) : Evolves s0
    (State.acceptAll s f m0) := by
  induction m0 generalizing s with
  | nil => exact ev
  | cons w t ih =>
    unfold State.acceptAll
    split
    · simp +contextual (maxDischargeDepth := 99) only [↓ev, ↓State.modFn_evolves]
    · exact ih (State.accept_evolves ev _ _)

theorem execCommandReadDone_evolves {s0 s : State} (ev : Evolves s0 s) (f : BitVec 8) (cmds : List (BitVec 512))
    (resp : BitVec 2) : Outcome.Evolves s0 (execCommandReadDone f cmds resp s) := by
  unfold execCommandReadDone
  try dsimp only
  (repeat' split) <;> simp +contextual (maxDischargeDepth := 99) only [↓ev, ↓Outcome.evolves_next,
      ↓State.acceptAll_evolves, ↓State.fnError_evolves, ↓State.memGot_evolves, ↓State.modFn_evolves,
      ↓State.settle_evolves, ↓State.sysError_evolves]

theorem State.fly_evolves {s0 s : State} (ev : Evolves s0 s) (f : Nat) (c : Cmd) (ph : Phase) : Evolves s0
    (State.fly s f c ph) := by
  unfold State.fly
  try dsimp only
  simp +contextual (maxDischargeDepth := 99) only [↓ev, ↓State.modFn_evolves]

theorem State.cmdStep_evolves {s0 s : State} (ev : Evolves s0 s) (f : BitVec 8) (ok : Cmd → Bool) (ph : Phase) (go :
    State → Nat → Cmd → State) (hf_go : ∀ t u0 u1, Evolves s0 t → Evolves s0 (go t u0 u1)) : Outcome.Evolves s0
    (State.cmdStep s f ok ph go) := by
  unfold State.cmdStep
  try dsimp only
  (repeat' split) <;> simp +contextual (maxDischargeDepth := 99) only [↓ev, ↓hf_go, ↓Outcome.evolves_next,
      ↓State.fly_evolves, ↓State.settle_evolves]

theorem execNop_evolves {s0 s : State} (ev : Evolves s0 s) (f : BitVec 8) : Outcome.Evolves s0 (execNop f s) := by
  unfold execNop
  try dsimp only
  simp +contextual (maxDischargeDepth := 99) only [↓ev, implies_true, ↓State.cmdStep_evolves, ↓State.complete_evolves]

theorem execArmCommand_evolves {s0 s : State} (ev : Evolves s0 s) (f : BitVec 8) : Outcome.Evolves s0
    (execArmCommand f s) := by
  unfold execArmCommand
  try dsimp only
  simp +contextual (maxDischargeDepth := 99) only [↓ev, implies_true, ↓State.cmdStep_evolves, ↓State.submit_evolves]

theorem execPost_evolves {s0 s : State} (ev : Evolves s0 s) (f : BitVec 8) : Outcome.Evolves s0 (execPost f s) := by
  unfold execPost
  try dsimp only
  simp +contextual (maxDischargeDepth := 99) only [↓ev, ↓Evolves.ite, implies_true, ↓State.cmdStep_evolves,
      ↓State.refuseOp_evolves, ↓State.submit_evolves]

theorem execReduceFromHost_evolves {s0 s : State} (ev : Evolves s0 s) (f : BitVec 8) : Outcome.Evolves s0
    (execReduceFromHost f s) := by
  unfold execReduceFromHost
  try dsimp only
  simp +contextual (maxDischargeDepth := 99) only [↓ev, ↓Evolves.ite, implies_true, ↓State.cmdStep_evolves,
      ↓State.memRd_evolves, ↓State.refuse_evolves]

theorem execPayloadReadDone_evolves {s0 s : State} (ev : Evolves s0 s) (f : BitVec 8) (data : Payload) (resp :
    BitVec 2) : Outcome.Evolves s0 (execPayloadReadDone f data resp s) := by
  unfold execPayloadReadDone
  try dsimp only
  (repeat' split) <;> simp +contextual (maxDischargeDepth := 99) only [↓ev, ↓Outcome.evolves_next,
      ↓State.memGot_evolves, ↓State.refuse_evolves, ↓State.setPhase_evolves, ↓State.settle_evolves,
      ↓State.submit_evolves, ↓State.sysError_evolves]

theorem State.waitPoll_evolves {s0 s : State} (ev : Evolves s0 s) (f : Nat) (w : WaitEnt) : Evolves s0
    (State.waitPoll s f w) := by
  unfold State.waitPoll
  try dsimp only
  simp +contextual (maxDischargeDepth := 99) only [↓ev, ↓State.submit_evolves]

theorem execWait_evolves {s0 s : State} (ev : Evolves s0 s) (f : BitVec 8) : Outcome.Evolves s0 (execWait f s) := by
  unfold execWait
  try dsimp only
  simp +contextual (maxDischargeDepth := 99) only [↓ev, ↓Evolves.ite, implies_true, ↓State.cmdStep_evolves,
      ↓State.modFn_evolves, ↓State.refuse_evolves, ↓State.waitPoll_evolves]

theorem State.waitPolls_evolves {s0 s : State} (ev : Evolves s0 s) (tick : Bool) : Evolves s0 (State.waitPolls s
    tick) := by
  unfold State.waitPolls
  try dsimp only
  simp +contextual (maxDischargeDepth := 99) only [↓ev, ↓Evolves.foldl, implies_true, ↓State.modFn_evolves,
      ↓State.waitPoll_evolves]

theorem State.abortWaits_evolves {s0 s : State} (ev : Evolves s0 s) (p : Nat) : Evolves s0 (State.abortWaits s p) :=
    by
  unfold State.abortWaits
  try dsimp only
  simp +contextual (maxDischargeDepth := 99) only [↓ev, ↓Evolves.foldl, implies_true, ↓State.complete_evolves]

theorem State.wellCmd_evolves {s0 s : State} (ev : Evolves s0 s) (f : Nat) (c : Cmd) (opc : Nat) (a b : W64) :
    Evolves s0 (State.wellCmd s f c opc a b) := by
  unfold State.wellCmd
  try dsimp only
  simp +contextual (maxDischargeDepth := 99) only [↓ev, ↓State.submit_evolves]

theorem execSemRead_evolves {s0 s : State} (ev : Evolves s0 s) (f : BitVec 8) : Outcome.Evolves s0 (execSemRead f s)
    := by
  unfold execSemRead
  try dsimp only
  simp +contextual (maxDischargeDepth := 99) only [↓ev, implies_true, ↓State.cmdStep_evolves, ↓State.wellCmd_evolves]

theorem execSemAddCommand_evolves {s0 s : State} (ev : Evolves s0 s) (f : BitVec 8) : Outcome.Evolves s0
    (execSemAddCommand f s) := by
  unfold execSemAddCommand
  try dsimp only
  simp +contextual (maxDischargeDepth := 99) only [↓ev, implies_true, ↓State.cmdStep_evolves, ↓State.wellCmd_evolves]

theorem execLockCas_evolves {s0 s : State} (ev : Evolves s0 s) (f : BitVec 8) : Outcome.Evolves s0 (execLockCas f s)
    := by
  unfold execLockCas
  try dsimp only
  simp +contextual (maxDischargeDepth := 99) only [↓ev, implies_true, ↓State.cmdStep_evolves, ↓State.wellCmd_evolves]

theorem execLockSwap_evolves {s0 s : State} (ev : Evolves s0 s) (f : BitVec 8) : Outcome.Evolves s0 (execLockSwap f
    s) := by
  unfold execLockSwap
  try dsimp only
  simp +contextual (maxDischargeDepth := 99) only [↓ev, implies_true, ↓State.cmdStep_evolves, ↓State.wellCmd_evolves]

theorem execClaim_evolves {s0 s : State} (ev : Evolves s0 s) (f : BitVec 8) : Outcome.Evolves s0 (execClaim f s) := by
  unfold execClaim
  try dsimp only
  simp +contextual (maxDischargeDepth := 99) only [↓ev, implies_true, ↓State.cmdStep_evolves, ↓State.wellCmd_evolves]

theorem execLockRelease_evolves {s0 s : State} (ev : Evolves s0 s) (f : BitVec 8) : Outcome.Evolves s0
    (execLockRelease f s) := by
  unfold execLockRelease
  try dsimp only
  simp +contextual (maxDischargeDepth := 99) only [↓ev, implies_true, ↓State.cmdStep_evolves, ↓State.wellCmd_evolves]

theorem execClrab_evolves {s0 s : State} (ev : Evolves s0 s) (f : BitVec 8) : Outcome.Evolves s0 (execClrab f s) := by
  unfold execClrab
  try dsimp only
  simp +contextual (maxDischargeDepth := 99) only [↓ev, implies_true, ↓State.cmdStep_evolves, ↓State.wellCmd_evolves]

theorem execForce_evolves {s0 s : State} (ev : Evolves s0 s) (f : BitVec 8) : Outcome.Evolves s0 (execForce f s) := by
  unfold execForce
  try dsimp only
  simp +contextual (maxDischargeDepth := 99) only [↓ev, implies_true, ↓State.cmdStep_evolves, ↓State.wellCmd_evolves]

theorem execSchedLoad_evolves {s0 s : State} (ev : Evolves s0 s) (f : BitVec 8) : Outcome.Evolves s0 (execSchedLoad
    f s) := by
  unfold execSchedLoad
  try dsimp only
  simp +contextual (maxDischargeDepth := 99) only [↓ev, ↓Evolves.ite, implies_true, ↓State.cmdStep_evolves,
      ↓State.loadStart_evolves, ↓State.refuse_evolves]

theorem execSnapshot_evolves {s0 s : State} (ev : Evolves s0 s) (f : BitVec 8) : Outcome.Evolves s0 (execSnapshot f
    s) := by
  unfold execSnapshot
  try dsimp only
  simp +contextual (maxDischargeDepth := 99) only [↓ev, ↓Evolves.ite, implies_true, ↓State.cmdStep_evolves,
      ↓State.modPrt_evolves, ↓State.refuse_evolves]

theorem execCompletionWriteDone_evolves {s0 s : State} (ev : Evolves s0 s) (f : BitVec 8) (resp : BitVec 2) :
    Outcome.Evolves s0 (execCompletionWriteDone f resp s) := by
  unfold execCompletionWriteDone
  try dsimp only
  (repeat' split) <;> simp +contextual (maxDischargeDepth := 99) only [↓ev, ↓Outcome.evolves_next,
      ↓State.fnError_evolves, ↓State.irqEvent_evolves, ↓State.memAck_evolves, ↓State.modFn_evolves,
      ↓State.sysError_evolves]

theorem execHoldoffExpiry_evolves {s0 s : State} (ev : Evolves s0 s) (f : BitVec 8) (v : BitVec 5) : Outcome.Evolves
    s0 (execHoldoffExpiry f v s) := by
  unfold execHoldoffExpiry
  try dsimp only
  simp +contextual (maxDischargeDepth := 99) only [↓ev, ↓Evolves.ite, ↓Outcome.evolves_ite, ↓Outcome.evolves_next,
      ↓State.irqEvent_evolves, ↓State.modFn_evolves]

theorem State.vmaskSet_evolves {s0 s : State} (ev : Evolves s0 s) (f v : Nat) : Evolves s0 (State.vmaskSet s f v) :=
    by
  unfold State.vmaskSet
  try dsimp only
  simp +contextual (maxDischargeDepth := 99) only [↓ev, ↓Evolves.ite, ↓Evolves.foldl, implies_true,
      ↓State.irqEvent_evolves, ↓State.setFlag_evolves, ↓State.setReg_evolves]

theorem State.queueOn_evolves {s0 s : State} (ev : Evolves s0 s) (f : Nat) : Evolves s0 (State.queueOn s f) := by
  unfold State.queueOn
  try dsimp only
  simp +contextual (maxDischargeDepth := 99) only [↓ev, ↓Evolves.ite, ↓State.modFn_evolves, ↓State.setFlag_evolves,
      ↓State.setFld_evolves]

theorem State.queueOff_evolves {s0 s : State} (ev : Evolves s0 s) (f : Nat) : Evolves s0 (State.queueOff s f) := by
  unfold State.queueOff
  try dsimp only
  simp +contextual (maxDischargeDepth := 99) only [↓ev, ↓State.modFn_evolves, ↓State.setFlag_evolves,
      ↓State.setFld_evolves]

theorem State.fnReset_evolves {s0 s : State} (ev : Evolves s0 s) (f : Nat) : Evolves s0 (State.fnReset s f) := by
  unfold State.fnReset
  extract_lets +onlyGivenNames s1
  have h1 : Evolves s0 s1 := State.queueOff_evolves ev _
  clear_value s1
  refine State.raiseFree_evolves (Evolves.update (State.modFn_evolves (Evolves.update h1 (regsWf_tclear _ _)
    id id id id id id id id id id id) _ _) id id id id id id id id id id id (twf_tset _ _)) _

theorem execFaultEntryWriteDone_evolves {s0 s : State} (ev : Evolves s0 s) (p : BitVec 5) (resp : BitVec 2) :
    Outcome.Evolves s0 (execFaultEntryWriteDone p resp s) := by
  unfold execFaultEntryWriteDone
  try dsimp only
  (repeat' split) <;> simp +contextual (maxDischargeDepth := 99) only [↓ev, ↓Outcome.evolves_next,
      ↓State.bump_evolves, ↓State.faultIssue_evolves, ↓State.irqEvent_evolves, ↓State.memAck_evolves,
      ↓State.modPrt_evolves, ↓State.setFld_evolves, ↓State.sysError_evolves]

/-! ## Part.lean -/

theorem State.startChecks_evolves {s0 s : State} (ev : Evolves s0 s) (p : Nat) : Evolves s0 (State.startChecks s
    p).1 := by
  unfold State.startChecks
  try dsimp only
  simp +contextual (maxDischargeDepth := 99) only [↓ev, ↓Evolves.ite, ↓State.setFlag_evolves]

theorem State.partStart_evolves {s0 s : State} (ev : Evolves s0 s) (p : Nat) : Evolves s0 (State.partStart s p) := by
  unfold State.partStart
  try dsimp only
  simp +contextual (maxDischargeDepth := 99) only [↓ev, ↓Evolves.ite, ↓State.setFlag_evolves,
      ↓State.setPstate_evolves, ↓State.startChecks_evolves]

theorem State.partQuiesce_evolves {s0 s : State} (ev : Evolves s0 s) (p : Nat) : Evolves s0 (State.partQuiesce s p)
    := by
  unfold State.partQuiesce
  try dsimp only
  simp +contextual (maxDischargeDepth := 99) only [↓ev, ↓Evolves.ite, ↓State.modPrt_evolves, ↓State.setFlag_evolves]

theorem State.partAbort_evolves {s0 s : State} (ev : Evolves s0 s) (p : Nat) : Evolves s0 (State.partAbort s p) := by
  unfold State.partAbort
  try dsimp only
  simp +contextual (maxDischargeDepth := 99) only [↓ev, ↓Evolves.ite, ↓State.setFlag_evolves,
      ↓State.setPstate_evolves]

theorem State.pctrl_evolves {s0 s : State} (ev : Evolves s0 s) (p cmd : Nat) : Evolves s0 (State.pctrl s p cmd) := by
  unfold State.pctrl
  try dsimp only
  simp +contextual (maxDischargeDepth := 99) only [↓ev, ↓Evolves.ite, ↓State.partAbort_evolves,
      ↓State.partQuiesce_evolves, ↓State.partStart_evolves]

theorem State.startTables_evolves {s0 s : State} (ev : Evolves s0 s) (p n : Nat) : Evolves s0 (State.startTables s p
    n) := by
  unfold State.startTables
  try dsimp only
  (repeat' split) <;> simp +contextual (maxDischargeDepth := 99) only [↓ev, ↓State.modPrt_evolves,
      ↓State.switchTable_evolves]

theorem State.enterRun_evolves {s0 s : State} (ev : Evolves s0 s) (p n : Nat) : Evolves s0 (State.enterRun s p n) :=
    by
  unfold State.enterRun
  try dsimp only
  simp +contextual (maxDischargeDepth := 99) only [↓ev, ↓Evolves.ite, ↓Evolves.update, ↓Evolves.foldl, implies_true,
      eq_self, Cst.wf_iff, Wel.wf_iff, Rst.wf_iff, Pipe.wf_iff, Cul.wf_iff, Pump.wf_iff, Obs.wf_iff, GLink.wf_iff,
      twf_tmap, and_self, ↓State.dumpTimeouts_evolves, ↓State.modPrt_evolves, ↓State.setFlag_evolves,
      ↓State.setFld_evolves, ↓State.setPstate_evolves, ↓State.setReg_evolves, ↓State.slotBegin_evolves,
      ↓State.startTables_evolves, ↓State.summaries_evolves]

theorem State.restartStep_evolves {s0 s : State} (ev : Evolves s0 s) (p n : Nat) : Evolves s0 (State.restartStep s p
    n) := by
  unfold State.restartStep
  try dsimp only
  simp +contextual (maxDischargeDepth := 99) only [↓ev, ↓Evolves.ite, ↓State.enterRun_evolves,
      ↓State.startChecks_evolves]

theorem State.abortDumps_evolves {s0 s : State} (ev : Evolves s0 s) (p : Nat) : Evolves s0 (State.abortDumps s p) :=
    by
  unfold State.abortDumps
  refine Evolves.foldl (fun t a ht => ?_) _ ev
  split
  · split <;> simp +contextual (maxDischargeDepth := 99) only [↓ht, ↓State.dumpEnd_evolves]
  · exact ht

theorem State.enterStopped_evolves {s0 s : State} (ev : Evolves s0 s) (p : Nat) : Evolves s0 (State.enterStopped s
    p) := by
  unfold State.enterStopped
  try dsimp only
  simp +contextual (maxDischargeDepth := 99) only [↓ev, ↓State.abortDumps_evolves, ↓State.abortWaits_evolves,
      ↓State.freezeAll_evolves, ↓State.modPrt_evolves, ↓State.setPstate_evolves, ↓State.summaries_evolves]

theorem execDrained_evolves {s0 s : State} (ev : Evolves s0 s) (p : BitVec 5) : Outcome.Evolves s0 (execDrained p s)
    := by
  unfold execDrained
  try dsimp only
  simp +contextual (maxDischargeDepth := 99) only [↓ev, ↓Outcome.evolves_ite, ↓Outcome.evolves_next,
      ↓State.enterStopped_evolves]

theorem State.dropDelays_evolves {s0 s : State} (ev : Evolves s0 s) (p : Nat) : Evolves s0 (State.dropDelays s p) :=
    by
  unfold State.dropDelays
  try dsimp only
  simp +contextual (maxDischargeDepth := 99) only [↓ev, ↓Evolves.update, implies_true, eq_self, Cst.wf_iff,
      Wel.wf_iff, Rst.wf_iff, Pipe.wf_iff, Cul.wf_iff, Pump.wf_iff, Obs.wf_iff, GLink.wf_iff, twf_tmap, and_self]

theorem execQuiesceTimeout_evolves {s0 s : State} (ev : Evolves s0 s) (p : BitVec 5) : Outcome.Evolves s0
    (execQuiesceTimeout p s) := by
  unfold execQuiesceTimeout
  try dsimp only
  simp +contextual (maxDischargeDepth := 99) only [↓ev, ↓Outcome.evolves_ite, ↓Evolves.foldl, ↓Outcome.evolves_next,
      implies_true, ↓State.dropDelays_evolves, ↓State.enterStopped_evolves, ↓State.lateRelease_evolves,
      ↓State.setFlag_evolves]

theorem State.poolJudge_evolves {s0 s t : State} (ev : Evolves s0 s) (ev1 : Evolves s0 t) (f : Nat) : Evolves s0
    (State.poolJudge s t f) := by
  unfold State.poolJudge
  try dsimp only
  simp +contextual (maxDischargeDepth := 99) only [↓ev, ↓ev1, ↓Evolves.ite, ↓State.fnReset_evolves,
      ↓State.setFlag_evolves]

theorem State.fcfgWrite_evolves {s0 s : State} (ev : Evolves s0 s) (f v : Nat) : Evolves s0 (State.fcfgWrite s f v)
    := by
  unfold State.fcfgWrite
  try dsimp only
  simp +contextual (maxDischargeDepth := 99) only [↓ev, ↓State.poolJudge_evolves, ↓State.setReg_evolves]

theorem State.fwaitWrite_evolves {s0 s : State} (ev : Evolves s0 s) (f v : Nat) : Evolves s0 (State.fwaitWrite s f
    v) := by
  unfold State.fwaitWrite
  try dsimp only
  simp +contextual (maxDischargeDepth := 99) only [↓ev, ↓State.poolJudge_evolves, ↓State.setReg_evolves]

/-! ## Obs.lean -/

theorem State.sumpJudge_evolves {s0 s t : State} (ev : Evolves s0 s) (ev1 : Evolves s0 t) (i : Nat) : Evolves s0
    (State.sumpJudge s t i) := by
  unfold State.sumpJudge
  try dsimp only
  simp +contextual (maxDischargeDepth := 99) only [↓ev, ↓ev1, ↓Evolves.ite, ↓State.setFlag_evolves]

theorem State.selWrite_evolves {s0 s : State} (ev : Evolves s0 s) (glob : Bool) (off k v : Nat) : Evolves s0
    (State.selWrite s glob off k v) := by
  unfold State.selWrite
  try dsimp only
  simp +contextual (maxDischargeDepth := 99) only [↓ev, ↓Evolves.ite, ↓Evolves.update, implies_true, eq_self,
      Cst.wf_iff, Wel.wf_iff, Rst.wf_iff, Pipe.wf_iff, Cul.wf_iff, Pump.wf_iff, Obs.wf_iff, GLink.wf_iff, and_self,
      ↓State.setReg_evolves]

theorem State.sampleSet_evolves {s0 s : State} (ev : Evolves s0 s) (p : Option Nat) : Evolves s0 (State.sampleSet s
    p) := by
  unfold State.sampleSet
  try dsimp only
  (repeat' split) <;> simp +contextual (maxDischargeDepth := 99) only [↓ev, ↓Evolves.foldl, implies_true,
      ↓State.sumpRecord_evolves]

theorem State.samplePoint_evolves {s0 s : State} (ev : Evolves s0 s) : Evolves s0 (State.samplePoint s) := by
  unfold State.samplePoint
  try dsimp only
  simp +contextual (maxDischargeDepth := 99) only [↓ev, ↓Evolves.ite, ↓Evolves.update, ↓Evolves.foldl, implies_true,
      eq_self, Cst.wf_iff, Wel.wf_iff, Rst.wf_iff, Pipe.wf_iff, Cul.wf_iff, Pump.wf_iff, Obs.wf_iff, GLink.wf_iff,
      and_self, ↓State.sampleSet_evolves]

theorem State.tickRecords_evolves {s0 s : State} (ev : Evolves s0 s) : Evolves s0 (State.tickRecords s) := by
  unfold State.tickRecords
  try dsimp only
  simp +contextual (maxDischargeDepth := 99) only [↓ev, ↓Evolves.update, ↓Evolves.foldl, implies_true, eq_self,
      Cst.wf_iff, Wel.wf_iff, Rst.wf_iff, Pipe.wf_iff, Cul.wf_iff, Pump.wf_iff, Obs.wf_iff, GLink.wf_iff, and_self,
      ↓State.ao_evolves]

theorem State.utilRecord_evolves {s0 s : State} (ev : Evolves s0 s) : Evolves s0 (State.utilRecord s) := by
  unfold State.utilRecord
  try dsimp only
  simp +contextual (maxDischargeDepth := 99) only [↓ev, ↓Evolves.ite, ↓State.ao_evolves, ↓State.nextFree_evolves]

theorem State.restart_evolves {s0 s : State} (ev : Evolves s0 s) (r : Nat) : Evolves s0 (State.restart s r) := by
  unfold State.restart
  try dsimp only
  simp +contextual (maxDischargeDepth := 99) only [↓ev, ↓Evolves.foldl, implies_true, ↓State.ao_evolves,
      ↓State.sumpRecord_evolves]

theorem execTclkWindow_evolves {s0 s : State} (ev : Evolves s0 s) (r : BitVec 3) (count : BitVec 16) :
    Outcome.Evolves s0 (execTclkWindow r count s) := by
  unfold execTclkWindow
  try dsimp only
  simp +contextual (maxDischargeDepth := 99) only [↓ev, ↓Evolves.ite, ↓Outcome.evolves_ite, ↓Evolves.update,
      ↓Outcome.evolves_next, implies_true, eq_self, Cst.wf_iff, Wel.wf_iff, Rst.wf_iff, Pipe.wf_iff, Cul.wf_iff,
      Pump.wf_iff, Obs.wf_iff, GLink.wf_iff, and_self, ↓State.restart_evolves, ↓State.setFld_evolves]

theorem State.haltOne_evolves {s0 s : State} (ev : Evolves s0 s) (p : Nat) : Evolves s0 (State.haltOne s p) := by
  unfold State.haltOne
  try dsimp only
  simp +contextual (maxDischargeDepth := 99) only [↓ev, ↓Evolves.ite, ↓Evolves.update, implies_true, eq_self,
      Cst.wf_iff, Wel.wf_iff, Rst.wf_iff, Pipe.wf_iff, Cul.wf_iff, Pump.wf_iff, Obs.wf_iff, GLink.wf_iff, and_self,
      ↓State.modPrt_evolves]

theorem State.resumeOne_evolves {s0 s : State} (ev : Evolves s0 s) (p : Nat) : Evolves s0 (State.resumeOne s p) := by
  unfold State.resumeOne
  try dsimp only
  simp +contextual (maxDischargeDepth := 99) only [↓ev, ↓Evolves.ite, ↓State.modPrt_evolves]

theorem State.haltSeen_evolves {s0 s : State} (ev : Evolves s0 s) (chip id : Nat) : Evolves s0 (State.haltSeen s
    chip id) := by
  unfold State.haltSeen
  try dsimp only
  simp +contextual (maxDischargeDepth := 99) only [↓ev, ↓Evolves.update, implies_true, eq_self, Cst.wf_iff,
      Wel.wf_iff, Rst.wf_iff, Pipe.wf_iff, Cul.wf_iff, Pump.wf_iff, Obs.wf_iff, GLink.wf_iff, and_self]

theorem State.haltIdNext_evolves {s0 s : State} (ev : Evolves s0 s) : Evolves s0 (State.haltIdNext s) := by
  unfold State.haltIdNext
  try dsimp only
  simp +contextual (maxDischargeDepth := 99) only [↓ev, ↓Evolves.update, implies_true, eq_self, Cst.wf_iff,
      Wel.wf_iff, Rst.wf_iff, Pipe.wf_iff, Cul.wf_iff, Pump.wf_iff, Obs.wf_iff, GLink.wf_iff, and_self]

theorem State.haltRecord_evolves {s0 s : State} (ev : Evolves s0 s) (op id chip : Nat) : Evolves s0
    (State.haltRecord s op id chip) := by
  unfold State.haltRecord
  try dsimp only
  simp +contextual (maxDischargeDepth := 99) only [↓ev, ↓State.ao_evolves]

theorem State.raiseHalt_evolves {s0 s : State} (ev : Evolves s0 s) (mask : Nat) : Evolves s0 (State.raiseHalt s
    mask) := by
  unfold State.raiseHalt
  try dsimp only
  simp +contextual (maxDischargeDepth := 99) only [↓ev, ↓Evolves.foldl, implies_true, ↓State.flood_evolves,
      ↓State.haltIdNext_evolves, ↓State.haltOne_evolves, ↓State.haltRecord_evolves, ↓State.haltSeen_evolves]

theorem State.resumeAt_evolves {s0 s : State} (ev : Evolves s0 s) (e m : Nat) : Evolves s0 (State.resumeAt s e m) :=
    by
  unfold State.resumeAt
  try dsimp only
  simp +contextual (maxDischargeDepth := 99) only [↓ev, ↓Evolves.ite, ↓Evolves.update, ↓Evolves.foldl, implies_true,
      eq_self, Cst.wf_iff, Wel.wf_iff, Rst.wf_iff, Pipe.wf_iff, Cul.wf_iff, Pump.wf_iff, Obs.wf_iff, GLink.wf_iff,
      and_self, ↓State.resumeOne_evolves, ↓State.setFlag_evolves]

theorem State.raiseResume_evolves {s0 s : State} (ev : Evolves s0 s) (mask : Nat) : Evolves s0 (State.raiseResume s
    mask) := by
  unfold State.raiseResume
  try dsimp only
  simp +contextual (maxDischargeDepth := 99) only [↓ev, ↓State.flood_evolves, ↓State.haltIdNext_evolves,
      ↓State.haltRecord_evolves, ↓State.haltSeen_evolves, ↓State.resumeAt_evolves]

theorem State.resumesDue_evolves {s0 s : State} (ev : Evolves s0 s) : Evolves s0 (State.resumesDue s) := by
  unfold State.resumesDue
  try dsimp only
  simp +contextual (maxDischargeDepth := 99) only [↓ev, ↓Evolves.update, ↓Evolves.foldl, implies_true, eq_self,
      Cst.wf_iff, Wel.wf_iff, Rst.wf_iff, Pipe.wf_iff, Cul.wf_iff, Pump.wf_iff, Obs.wf_iff, GLink.wf_iff, and_self,
      ↓State.resumeOne_evolves]

theorem execTapBreak_evolves {s0 s : State} (ev : Evolves s0 s) (tap : BitVec 12) : Outcome.Evolves s0 (execTapBreak
    tap s) := by
  unfold execTapBreak
  try dsimp only
  (repeat' split) <;> simp +contextual (maxDischargeDepth := 99) only [↓ev, ↓Evolves.update, ↓Outcome.evolves_next,
      implies_true, eq_self, Cst.wf_iff, Wel.wf_iff, Rst.wf_iff, Pipe.wf_iff, Cul.wf_iff, Pump.wf_iff, Obs.wf_iff,
      GLink.wf_iff, and_self, ↓State.raiseHalt_evolves, ↓State.settle_evolves]

theorem State.stopKnown_evolves {s0 s : State} (ev : Evolves s0 s) (e : Nat) (start : Bool) : Evolves s0
    (State.stopKnown s e start) := by
  unfold State.stopKnown
  try dsimp only
  simp +contextual (maxDischargeDepth := 99) only [↓ev, ↓Evolves.update, implies_true, eq_self, Cst.wf_iff,
      Wel.wf_iff, Rst.wf_iff, Pipe.wf_iff, Cul.wf_iff, Pump.wf_iff, Obs.wf_iff, GLink.wf_iff, and_self]

theorem State.stopAt_evolves {s0 s : State} (ev : Evolves s0 s) (e : Nat) : Evolves s0 (State.stopAt s e) := by
  unfold State.stopAt
  try dsimp only
  simp +contextual (maxDischargeDepth := 99) only [↓ev, ↓State.stopKnown_evolves]

theorem State.startAt_evolves {s0 s : State} (ev : Evolves s0 s) (e : Nat) : Evolves s0 (State.startAt s e) := by
  unfold State.startAt
  try dsimp only
  simp +contextual (maxDischargeDepth := 99) only [↓ev, ↓State.stopKnown_evolves]

theorem State.raiseStop_evolves {s0 s : State} (ev : Evolves s0 s) : Evolves s0 (State.raiseStop s) := by
  unfold State.raiseStop
  try dsimp only
  simp +contextual (maxDischargeDepth := 99) only [↓ev, ↓State.flood_evolves, ↓State.haltIdNext_evolves,
      ↓State.haltSeen_evolves, ↓State.stopAt_evolves]

theorem State.raiseStart_evolves {s0 s : State} (ev : Evolves s0 s) : Evolves s0 (State.raiseStart s) := by
  unfold State.raiseStart
  try dsimp only
  simp +contextual (maxDischargeDepth := 99) only [↓ev, ↓State.flood_evolves, ↓State.haltIdNext_evolves,
      ↓State.haltSeen_evolves, ↓State.startAt_evolves]

theorem State.hcmd_evolves {s0 s : State} (ev : Evolves s0 s) (cmd : Nat) : Evolves s0 (State.hcmd s cmd) := by
  unfold State.hcmd
  try dsimp only
  simp +contextual (maxDischargeDepth := 99) only [↓ev, ↓Evolves.ite, ↓State.raiseHalt_evolves,
      ↓State.raiseResume_evolves, ↓State.raiseStart_evolves, ↓State.raiseStop_evolves]

theorem State.stopRecord_evolves {s0 s : State} (ev : Evolves s0 s) (aux e : Nat) : Evolves s0 (State.stopRecord s
    aux e) := by
  unfold State.stopRecord
  try dsimp only
  simp +contextual (maxDischargeDepth := 99) only [↓ev, ↓State.ao_evolves]

theorem State.stopLate_evolves {s0 s : State} (ev : Evolves s0 s) (e : Nat) : Evolves s0 (State.stopLate s e) := by
  unfold State.stopLate
  try dsimp only
  simp +contextual (maxDischargeDepth := 99) only [↓ev, ↓State.setFlag_evolves, ↓State.stopRecord_evolves]

theorem State.stopEffect_evolves {s0 s : State} (ev : Evolves s0 s) (e : Nat) (late : Bool) : Evolves s0
    (State.stopEffect s e late) := by
  unfold State.stopEffect
  try dsimp only
  (repeat' split) <;> simp +contextual (maxDischargeDepth := 99) only [↓ev, ↓Evolves.update, ↓Evolves.foldl,
      implies_true, eq_self, Cst.wf_iff, Wel.wf_iff, Rst.wf_iff, Pipe.wf_iff, Cul.wf_iff, Pump.wf_iff, Obs.wf_iff,
      GLink.wf_iff, and_self, ↓State.endBinds_evolves, ↓State.modPrt_evolves, ↓State.stopLate_evolves,
      ↓State.stopRecord_evolves]

theorem State.startEffect_evolves {s0 s : State} (ev : Evolves s0 s) (e : Nat) (late : Bool) : Evolves s0
    (State.startEffect s e late) := by
  unfold State.startEffect
  try dsimp only
  (repeat' split) <;> simp +contextual (maxDischargeDepth := 99) only [↓ev, ↓Evolves.update, ↓Evolves.foldl,
      implies_true, eq_self, Cst.wf_iff, Wel.wf_iff, Rst.wf_iff, Pipe.wf_iff, Cul.wf_iff, Pump.wf_iff, Obs.wf_iff,
      GLink.wf_iff, and_self, ↓State.drainPort_evolves, ↓State.reissue_evolves, ↓State.releaseWaiting_evolves,
      ↓State.sendFormed_evolves, ↓State.stopLate_evolves]

theorem State.stopOne_evolves {s0 s : State} (ev : Evolves s0 s) (x : Nat × Bool × Bool) : Evolves s0 (State.stopOne
    s x) := by
  unfold State.stopOne
  try dsimp only
  simp +contextual (maxDischargeDepth := 99) only [↓ev, ↓Evolves.ite, ↓State.startEffect_evolves,
      ↓State.stopEffect_evolves]

theorem State.stopBoundary_evolves {s0 s : State} (ev : Evolves s0 s) : Evolves s0 (State.stopBoundary s) := by
  unfold State.stopBoundary
  try dsimp only
  simp +contextual (maxDischargeDepth := 99) only [↓ev, ↓Evolves.update, ↓Evolves.foldl, implies_true, eq_self,
      Cst.wf_iff, Wel.wf_iff, Rst.wf_iff, Pipe.wf_iff, Cul.wf_iff, Pump.wf_iff, Obs.wf_iff, GLink.wf_iff, and_self,
      ↓State.stopOne_evolves]

theorem execStopCut_evolves {s0 s : State} (ev : Evolves s0 s) : Outcome.Evolves s0 (execStopCut s) := by
  unfold execStopCut
  try dsimp only
  simp +contextual (maxDischargeDepth := 99) only [↓ev, ↓Outcome.evolves_ite, ↓Evolves.update,
      ↓Outcome.evolves_next, implies_true, eq_self, Cst.wf_iff, Wel.wf_iff, Rst.wf_iff, Pipe.wf_iff, Cul.wf_iff,
      Pump.wf_iff, Obs.wf_iff, GLink.wf_iff, and_self, ↓State.stopRecord_evolves]

theorem State.haltForward_evolves {s0 s : State} (ev : Evolves s0 s) (k : Nat) (b : Beat) : Evolves s0
    (State.haltForward s k b) := by
  unfold State.haltForward
  try dsimp only
  simp +contextual (maxDischargeDepth := 99) only [↓ev, ↓Evolves.ite, ↓State.flood_evolves, ↓State.haltSeen_evolves]

theorem execHaltToken_evolves {s0 s : State} (ev : Evolves s0 s) (port : BitVec 3) : Outcome.Evolves s0
    (execHaltToken port s) := by
  unfold execHaltToken
  try dsimp only
  simp +contextual (maxDischargeDepth := 99) only [↓ev, ↓Evolves.ite, ↓Evolves.foldl, implies_true,
      ↓State.haltForward_evolves, ↓State.haltOne_evolves, ↓State.haltRecord_evolves, ↓State.onHop_evolves,
      ↓State.stopAt_evolves]

theorem execResumeToken_evolves {s0 s : State} (ev : Evolves s0 s) (port : BitVec 3) : Outcome.Evolves s0
    (execResumeToken port s) := by
  unfold execResumeToken
  try dsimp only
  simp +contextual (maxDischargeDepth := 99) only [↓ev, ↓Evolves.ite, implies_true, ↓State.haltForward_evolves,
      ↓State.haltRecord_evolves, ↓State.onHop_evolves, ↓State.resumeAt_evolves, ↓State.startAt_evolves]

theorem execHaltSeenEntryRetire_evolves {s0 s : State} (ev : Evolves s0 s) (chip : BitVec 12) (id : BitVec 16) :
    Outcome.Evolves s0 (execHaltSeenEntryRetire chip id s) := by
  unfold execHaltSeenEntryRetire
  try dsimp only
  simp +contextual (maxDischargeDepth := 99) only [↓ev, ↓Evolves.update, ↓Outcome.evolves_next, implies_true,
      eq_self, Cst.wf_iff, Wel.wf_iff, Rst.wf_iff, Pipe.wf_iff, Cul.wf_iff, Pump.wf_iff, Obs.wf_iff, GLink.wf_iff,
      and_self]

theorem execDumpTensor_evolves {s0 s : State} (ev : Evolves s0 s) (f : BitVec 8) : Outcome.Evolves s0
    (execDumpTensor f s) := by
  unfold execDumpTensor
  refine State.cmdStep_evolves ev _ _ _ _ (fun t a b ht => ?_)
  (repeat' split) <;> simp +contextual (maxDischargeDepth := 99) only [↓ht, ↓Evolves.ite, ↓Evolves.update,
      implies_true, eq_self, Cst.wf_iff, Wel.wf_iff, Rst.wf_iff, Pipe.wf_iff, Cul.wf_iff, Pump.wf_iff, Obs.wf_iff,
      GLink.wf_iff, twf_tset, and_self, ↓State.refuse_evolves, ↓State.setPhase_evolves]

theorem execDumpDone_evolves {s0 s : State} (ev : Evolves s0 s) (d : BitVec 4) : Outcome.Evolves s0 (execDumpDone d
    s) := by
  unfold execDumpDone
  try dsimp only
  (repeat' split) <;> simp +contextual (maxDischargeDepth := 99) only [↓ev, ↓Outcome.evolves_next,
      ↓State.dumpEnd_evolves, ↓State.settle_evolves]

/-! ## Snapshot.lean -/

theorem State.snapCmdsAbort_evolves {s0 s : State} (ev : Evolves s0 s) (p : Nat) : Evolves s0 (State.snapCmdsAbort s
    p) := by
  unfold State.snapCmdsAbort
  try dsimp only
  repeat' first
    | assumption
    | refine Evolves.foldl (fun _ _ _ => ?_) _ ?_
    | refine Evolves.foldl_fst (fun _ _ _ => ?_) _ ?_
    | (simp +contextual (maxDischargeDepth := 99) only [*, ↓State.complete_evolves, ↓State.modPrt_evolves]; done)
    | split
    | apply State.complete_evolves
    | apply State.modPrt_evolves
    | apply Evolves.update

theorem State.snapStart_evolves {s0 s : State} (ev : Evolves s0 s) (p : Nat) : Evolves s0 (State.snapStart s p) := by
  unfold State.snapStart
  try dsimp only
  simp +contextual (maxDischargeDepth := 99) only [↓ev, ↓Evolves.ite, ↓State.modPrt_evolves, ↓State.setFlag_evolves,
      ↓State.snapCmdsAbort_evolves]

theorem State.snapBoundary_evolves {s0 s : State} (ev : Evolves s0 s) (p : Nat) : Evolves s0 (State.snapBoundary s
    p) := by
  unfold State.snapBoundary
  try dsimp only
  simp +contextual (maxDischargeDepth := 99) only [↓ev, ↓Evolves.ite, ↓State.closeFlush_evolves,
      ↓State.modPrt_evolves, ↓State.setFlag_evolves, ↓State.snapCmdsAbort_evolves, ↓State.snapStart_evolves]

theorem State.copyImages_evolves {s0 s : State} (ev : Evolves s0 s) (p : Nat) (n : Snap) : Evolves s0
    (State.copyImages s p n) := by
  unfold State.copyImages
  try dsimp only
  simp +contextual (maxDischargeDepth := 99) only [↓ev, ↓State.memIssue_evolves, ↓State.modChan_evolves,
      ↓State.modPrt_evolves]

theorem State.snapWrites_evolves {s0 s : State} (ev : Evolves s0 s) (p : Nat) (n : Snap) (ws : List (Nat × Nat ×
    Nat)) : Evolves s0 (State.snapWrites s p n ws) := by
  unfold State.snapWrites
  try dsimp only
  simp +contextual (maxDischargeDepth := 99) only [↓ev, ↓Evolves.foldl, implies_true, ↓State.modPrt_evolves,
      ↓State.snapSend_evolves]

theorem State.copyNext_evolves {s0 s : State} (ev : Evolves s0 s) (p : Nat) (n : Snap) : Evolves s0 (State.copyNext
    s p n) := by
  unfold State.copyNext
  try dsimp only
  (repeat' split) <;> simp +contextual (maxDischargeDepth := 99) only [↓ev, ↓State.copyImages_evolves,
      ↓State.cycles_evolves, ↓State.snapWrites_evolves]

theorem execSnapshotBlockCopy_evolves {s0 s : State} (ev : Evolves s0 s) (p : BitVec 5) : Outcome.Evolves s0
    (execSnapshotBlockCopy p s) := by
  unfold execSnapshotBlockCopy
  try dsimp only
  (repeat' split) <;> simp +contextual (maxDischargeDepth := 99) only [↓ev, ↓Outcome.evolves_next,
      ↓State.copyNext_evolves, ↓State.served_evolves, ↓State.settle_evolves]

theorem execSnapshotComplete_evolves {s0 s : State} (ev : Evolves s0 s) (p : BitVec 5) : Outcome.Evolves s0
    (execSnapshotComplete p s) := by
  unfold execSnapshotComplete
  try dsimp only
  (repeat' split) <;> simp +contextual (maxDischargeDepth := 99) only [↓ev, ↓Outcome.evolves_next,
      ↓State.served_evolves, ↓State.snapWrites_evolves]

theorem State.restoreWords_evolves {s0 s : State} (ev : Evolves s0 s) (p : Nat) (m : List Byte) : Evolves s0
    (State.restoreWords s p m) := by
  unfold State.restoreWords
  try dsimp only
  simp +contextual (maxDischargeDepth := 99) only [↓ev, ↓Evolves.update, implies_true, eq_self, Cst.wf_iff,
      Wel.wf_iff, Rst.wf_iff, Pipe.wf_iff, Cul.wf_iff, Pump.wf_iff, Obs.wf_iff, GLink.wf_iff, twf_tclear, twf_tfill,
      and_self, ↓State.clearErrs_evolves]

theorem State.restoreModes_evolves {s0 s : State} (ev : Evolves s0 s) (p : Nat) (m : List Byte) : Evolves s0
    (State.restoreModes s p m) := by
  unfold State.restoreModes
  try dsimp only
  simp +contextual (maxDischargeDepth := 99) only [↓ev, ↓Evolves.foldl, implies_true, ↓State.setFld_evolves]

theorem State.restoreImages_evolves {s0 s : State} (ev : Evolves s0 s) (p : Nat) (m : List Byte) : Evolves s0
    (State.restoreImages s p m) := by
  unfold State.restoreImages
  try dsimp only
  simp +contextual (maxDischargeDepth := 99) only [↓ev, ↓Evolves.ite, ↓Evolves.foldl, implies_true,
      ↓State.memWr_evolves]

theorem State.restoreGo_evolves {s0 s : State} (ev : Evolves s0 s) (p : Nat) (m : List Byte) : Evolves s0
    (State.restoreGo s p m) := by
  unfold State.restoreGo
  try dsimp only
  simp +contextual (maxDischargeDepth := 99) only [↓ev, ↓Evolves.ite, ↓State.cycles_evolves, ↓State.memRd_evolves,
      ↓State.modPrt_evolves, ↓State.restoreImages_evolves, ↓State.restoreModes_evolves, ↓State.restoreWords_evolves,
      ↓State.setFlag_evolves]

theorem execRestoreDone_evolves {s0 s : State} (ev : Evolves s0 s) (p : BitVec 5) : Outcome.Evolves s0
    (execRestoreDone p s) := by
  unfold execRestoreDone
  try dsimp only
  simp +contextual (maxDischargeDepth := 99) only [↓ev, ↓Outcome.evolves_ite, ↓Evolves.update,
      ↓Outcome.evolves_next, implies_true, eq_self, Cst.wf_iff, Wel.wf_iff, Rst.wf_iff, Pipe.wf_iff, Cul.wf_iff,
      Pump.wf_iff, Obs.wf_iff, GLink.wf_iff, and_self, ↓State.memFlush_evolves, ↓State.modPrt_evolves,
      ↓State.setFlag_evolves]

/-! ## PumpOp.lean -/

theorem State.pumpOp_evolves {s0 s : State} (ev : Evolves s0 s) (c : Nat) (d : PDesc) : Evolves s0 (State.pumpOp s c
    d) := by
  unfold State.pumpOp
  try dsimp only
  simp +contextual (maxDischargeDepth := 99) only [↓ev, ↓Evolves.ite, ↓State.refuseOp_evolves, ↓State.submit_evolves]

theorem execOpIssue_evolves {s0 s : State} (ev : Evolves s0 s) (c : BitVec 6) : Outcome.Evolves s0 (execOpIssue c s)
    := by
  unfold execOpIssue
  try dsimp only
  (repeat' split) <;> simp +contextual (maxDischargeDepth := 99) only [↓ev, ↓Outcome.evolves_next,
      ↓State.modChan_evolves, ↓State.pumpOp_evolves, ↓State.settle_evolves]

theorem execOpResponse_evolves {s0 s : State} (ev : Evolves s0 s) (c : BitVec 6) : Outcome.Evolves s0
    (execOpResponse c s) := by
  unfold execOpResponse
  try dsimp only
  (repeat' split) <;> simp +contextual (maxDischargeDepth := 99) only [↓ev, ↓Outcome.evolves_next,
      ↓State.chanAdvance_evolves, ↓State.descFinish_evolves, ↓State.descWb_evolves, ↓State.modChan_evolves,
      ↓State.setFld_evolves]

theorem State.pumpResume_evolves {s0 s : State} (ev : Evolves s0 s) : Evolves s0 (State.pumpResume s) := by
  unfold State.pumpResume
  try dsimp only
  simp +contextual (maxDischargeDepth := 99) only [↓ev, ↓State.setFlag_evolves]

end Sys2Proof.Machine
end

