-- ==== Sys2Proof/Laws/EvolvesReset.lean ====
section
/-! SUPPORT. What scrubbing, resets, the configuration store, power and the grid do to a state: the build and the queue stay, and the invariant is kept. -/

namespace Sys2Proof.Machine

/-! ## Scrub.lean -/

theorem State.scrubInit_evolves {s0 s : State} (ev : Evolves s0 s) (cls idx : Nat) : Evolves s0 (State.scrubInit s
    cls idx) := by
  unfold State.scrubInit
  try dsimp only
  simp +contextual (maxDischargeDepth := 99) only [↓ev, ↓Evolves.ite, ↓Evolves.update, implies_true, eq_self,
      Cst.wf_iff, Wel.wf_iff, Rst.wf_iff, Pipe.wf_iff, Cul.wf_iff, Pump.wf_iff, Obs.wf_iff, GLink.wf_iff, twf_tset,
      and_self, ↓State.clearErr_evolves]

theorem State.scrubWord_evolves {s0 s : State} (ev : Evolves s0 s) (cls idx : Nat) : Evolves s0 (State.scrubWord s
    cls idx) := by
  unfold State.scrubWord
  try dsimp only
  (repeat' split) <;> simp +contextual (maxDischargeDepth := 99) only [↓ev, ↓State.codeRead_evolves,
      ↓State.fault_evolves, ↓State.poison_evolves, ↓State.readBasin_evolves, ↓State.readWell_evolves,
      ↓State.scrubInit_evolves]

theorem execScrubWordDue_evolves {s0 s : State} (ev : Evolves s0 s) (bank : BitVec 6) : Outcome.Evolves s0
    (execScrubWordDue bank s) := by
  unfold execScrubWordDue
  try dsimp only
  simp +contextual (maxDischargeDepth := 99) only [↓ev, ↓Outcome.evolves_ite, ↓Evolves.update,
      ↓Outcome.evolves_next, implies_true, eq_self, Cst.wf_iff, Wel.wf_iff, Rst.wf_iff, Pipe.wf_iff, Cul.wf_iff,
      Pump.wf_iff, Obs.wf_iff, GLink.wf_iff, and_self]

theorem execScrubRead_evolves {s0 s : State} (ev : Evolves s0 s) (bank : BitVec 6) : Outcome.Evolves s0
    (execScrubRead bank s) := by
  unfold execScrubRead
  try dsimp only
  simp +contextual (maxDischargeDepth := 99) only [↓ev, ↓Evolves.ite, ↓Outcome.evolves_ite, ↓Evolves.update,
      ↓Outcome.evolves_next, implies_true, eq_self, Cst.wf_iff, Wel.wf_iff, Rst.wf_iff, Pipe.wf_iff, Cul.wf_iff,
      Pump.wf_iff, Obs.wf_iff, GLink.wf_iff, and_self, ↓State.cycles_evolves, ↓State.scrubWord_evolves,
      ↓State.setFld_evolves]

theorem execScrubPeriodEnd_evolves {s0 s : State} (ev : Evolves s0 s) : Outcome.Evolves s0 (execScrubPeriodEnd s) :=
    by
  unfold execScrubPeriodEnd
  try dsimp only
  simp +contextual (maxDischargeDepth := 99) only [↓ev, ↓Outcome.evolves_ite, ↓Evolves.update,
      ↓Outcome.evolves_next, implies_true, eq_self, Cst.wf_iff, Wel.wf_iff, Rst.wf_iff, Pipe.wf_iff, Cul.wf_iff,
      Pump.wf_iff, Obs.wf_iff, GLink.wf_iff, and_self, ↓State.setFlag_evolves, ↓State.wakeFor_evolves]

/-! ## Reset.lean -/

theorem State.pruneResets_evolves {s0 s : State} (ev : Evolves s0 s) : Evolves s0 (State.pruneResets s) := by
  unfold State.pruneResets
  try dsimp only
  simp +contextual (maxDischargeDepth := 99) only [↓ev, ↓Evolves.ite, ↓Evolves.update, ↓Evolves.foldl, implies_true,
      eq_self, Cst.wf_iff, Wel.wf_iff, Rst.wf_iff, Pipe.wf_iff, Cul.wf_iff, Pump.wf_iff, Obs.wf_iff, GLink.wf_iff,
      and_self, ↓State.emit_evolves]

theorem State.raised_evolves {s0 s : State} (ev : Evolves s0 s) (k i : Nat) : Evolves s0 (State.raised s k i) := by
  unfold State.raised
  try dsimp only
  simp +contextual (maxDischargeDepth := 99) only [↓ev, ↓Evolves.ite, ↓Evolves.update, implies_true, eq_self,
      Cst.wf_iff, Wel.wf_iff, Rst.wf_iff, Pipe.wf_iff, Cul.wf_iff, Pump.wf_iff, Obs.wf_iff, GLink.wf_iff, and_self]

theorem State.blockReset_evolves {s0 s : State} (ev : Evolves s0 s) (pin : Bool) : Evolves s0 (State.blockReset s
    pin) := by
  unfold State.blockReset
  refine ⟨ev.build, ev.pending, fun i => ⟨?_, ?_, ?_, ?_, ?_, ?_, ?_, ?_, ?_, rfl, rfl, rfl⟩⟩
  · exact regsWf_tset R.culChipid _ (regsWf_filter _ (ev.inv i).regs)
  · simp [Cst.wf_iff]
  · simp [Wel.wf_iff]
  · simp [Rst.wf_iff]
  · have h : twf {} (pinnedTaps s.pipe.taps) = true := twf_tmap _ (ev.inv i).pipe.2.2.1
    exact ⟨rfl, rfl, h, rfl, rfl⟩
  · exact rfl
  · exact rfl
  · exact ⟨rfl, rfl⟩
  · exact rfl

theorem State.porReset_evolves {s0 s : State} (ev : Evolves s0 s) : Evolves s0 (State.porReset s) := by
  unfold State.porReset
  refine ⟨ev.build, ev.pending, fun i => ⟨rfl, ?_, ?_, ?_, ?_, ?_, ?_, ?_, ?_, rfl, rfl, rfl⟩⟩
  · simp [Cst.wf_iff]
  · simp [Wel.wf_iff]
  · simp [Rst.wf_iff]
  · have h : twf {} (pinnedTaps s.pipe.taps) = true := twf_tmap _ (ev.inv i).pipe.2.2.1
    exact ⟨rfl, rfl, h, rfl, rfl⟩
  · exact rfl
  · exact rfl
  · exact ⟨rfl, rfl⟩
  · exact rfl

theorem execPoRstNAssertion_evolves {s0 s : State} (ev : Evolves s0 s) : Outcome.Evolves s0 (execPoRstNAssertion s)
    := by
  unfold execPoRstNAssertion
  try dsimp only
  simp +contextual (maxDischargeDepth := 99) only [↓ev, ↓Outcome.evolves_next, ↓State.porReset_evolves]

theorem execPowerOnReset_evolves {s0 s : State} (ev : Evolves s0 s) : Outcome.Evolves s0 (execPowerOnReset s) := by
  unfold execPowerOnReset
  try dsimp only
  simp +contextual (maxDischargeDepth := 99) only [↓ev, ↓Outcome.evolves_ite, ↓Evolves.update,
      ↓Outcome.evolves_next, implies_true, eq_self, Cst.wf_iff, Wel.wf_iff, Rst.wf_iff, Pipe.wf_iff, Cul.wf_iff,
      Pump.wf_iff, Obs.wf_iff, GLink.wf_iff, and_self, ↓State.emit_evolves]

theorem State.blockPin_evolves {s0 s : State} (ev : Evolves s0 s) : Evolves s0 (State.blockPin s) := by
  unfold State.blockPin
  try dsimp only
  simp +contextual (maxDischargeDepth := 99) only [↓ev, ↓Evolves.ite, ↓Evolves.update, implies_true, eq_self,
      Cst.wf_iff, Wel.wf_iff, Rst.wf_iff, Pipe.wf_iff, Cul.wf_iff, Pump.wf_iff, Obs.wf_iff, GLink.wf_iff, and_self,
      ↓State.blockReset_evolves]

theorem execBlkRstNRelease_evolves {s0 s : State} (ev : Evolves s0 s) : Outcome.Evolves s0 (execBlkRstNRelease s) :=
    by
  unfold execBlkRstNRelease
  try dsimp only
  simp +contextual (maxDischargeDepth := 99) only [↓ev, ↓Evolves.update, ↓Outcome.evolves_next, implies_true,
      eq_self, Cst.wf_iff, Wel.wf_iff, Rst.wf_iff, Pipe.wf_iff, Cul.wf_iff, Pump.wf_iff, Obs.wf_iff, GLink.wf_iff,
      and_self]

theorem execBlockInitDone_evolves {s0 s : State} (ev : Evolves s0 s) : Outcome.Evolves s0 (execBlockInitDone s) := by
  unfold execBlockInitDone
  try dsimp only
  simp +contextual (maxDischargeDepth := 99) only [↓ev, ↓Outcome.evolves_ite, ↓Evolves.update,
      ↓Outcome.evolves_next, implies_true, eq_self, Cst.wf_iff, Wel.wf_iff, Rst.wf_iff, Pipe.wf_iff, Cul.wf_iff,
      Pump.wf_iff, Obs.wf_iff, GLink.wf_iff, and_self]

theorem State.sumpStop_evolves {s0 s : State} (ev : Evolves s0 s) (c : Nat) : Evolves s0 (State.sumpStop s c) := by
  unfold State.sumpStop
  try dsimp only
  repeat' first
    | assumption
    | refine Evolves.foldl (fun _ _ _ => ?_) _ ?_
    | refine Evolves.foldl_fst (fun _ _ _ => ?_) _ ?_
    | (simp +contextual (maxDischargeDepth := 99) only [*, ↓State.modChan_evolves, ↓State.setSump_evolves]; done)
    | split
    | apply State.modChan_evolves
    | apply State.setSump_evolves
    | apply Evolves.update

theorem State.chanReset_evolves {s0 s : State} (ev : Evolves s0 s) (c : Nat) : Evolves s0 (State.chanReset s c) := by
  unfold State.chanReset
  try dsimp only
  simp +contextual (maxDischargeDepth := 99) only [↓ev, ↓Evolves.ite, ↓Evolves.foldl, implies_true,
      ↓State.chanOff_evolves, ↓State.modChan_evolves, ↓State.raiseFree_evolves, ↓State.setCstate_evolves,
      ↓State.setFlag_evolves, ↓State.setPair_evolves, ↓State.snapAbandon_evolves, ↓State.sumpStop_evolves]

theorem State.portReset_evolves {s0 s : State} (ev : Evolves s0 s) (k : Nat) : Evolves s0 (State.portReset s k) := by
  unfold State.portReset
  extract_lets +onlyGivenNames s1 s2
  have h1 : Evolves s0 s1 := by unfold s1; simp +contextual (maxDischargeDepth := 99) only [↓ev, ↓Evolves.ite,
      ↓State.downRecords_evolves, ↓State.setLink_evolves, ↓State.setPort_evolves]
  have h2 : Evolves s0 s2 := State.linkReset_evolves h1 _
  clear_value s2
  have h3 := Evolves.update h2 (held := s2.held) (out := s2.out) (freeCtr := s2.freeCtr) (clk := s2.clk) (grid :=
      s2.grid)
    (stop := s2.stop) (pipe := s2.pipe) (cul := s2.cul) (parts := s2.parts) (fns := s2.fns) (obs := s2.obs)
    (glink := s2.glink) (island := s2.island) (pump := s2.pump) (fetchTurn := s2.fetchTurn) (holds := s2.holds)
        (start := s2.start)
    (fresh := s2.fresh)
    (fun g => regsWf_tclear (R.culPrtt k) (R.culPdropCnt k + 4) (regsWf_tclear (R.culPstatus k) (R.culPasym k) g))
        id id id id id id id id id id id
  simp +contextual (maxDischargeDepth := 99) only [↓h3, ↓ev, ↓Evolves.ite, ↓State.downRecords_evolves,
      ↓State.setLink_evolves, ↓State.setPort_evolves]

theorem State.dropRequests_evolves {s0 s : State} (ev : Evolves s0 s) (t : Nat) : Evolves s0 (State.dropRequests s
    t) := by
  unfold State.dropRequests
  try dsimp only
  simp +contextual (maxDischargeDepth := 99) only [↓ev, ↓Evolves.update, implies_true, eq_self, Cst.wf_iff,
      Wel.wf_iff, Rst.wf_iff, Pipe.wf_iff, Cul.wf_iff, Pump.wf_iff, Obs.wf_iff, GLink.wf_iff, and_self]

theorem State.tapReset_evolves {s0 s : State} (ev : Evolves s0 s) (t : Nat) : Evolves s0 (State.tapReset s t) := by
  unfold State.tapReset
  try dsimp only
  (repeat' split) <;> simp +contextual (maxDischargeDepth := 99) only [↓ev, ↓State.dropRequests_evolves,
      ↓State.fenceTap_evolves, ↓State.modTap_evolves, ↓State.raiseFree_evolves]

theorem execTapRstNRelease_evolves {s0 s : State} (ev : Evolves s0 s) (tap : BitVec 12) : Outcome.Evolves s0
    (execTapRstNRelease tap s) := by
  unfold execTapRstNRelease
  extract_lets +onlyGivenNames t x
  split
  · exact Outcome.evolves_next ev
  · extract_lets +onlyGivenNames s1
    have h1 : Evolves s0 s1 := State.modTap_evolves ev _ _
    clear_value s1 x
    (repeat' split) <;> simp +contextual (maxDischargeDepth := 99) only [↓h1, ↓Evolves.update,
        ↓Outcome.evolves_next, implies_true, eq_self, Cst.wf_iff, Wel.wf_iff, Rst.wf_iff, Pipe.wf_iff, Cul.wf_iff,
        Pump.wf_iff, Obs.wf_iff, GLink.wf_iff, and_self, ↓State.modTap_evolves, ↓State.raiseFree_evolves]

theorem execTpReadyReturn_evolves {s0 s : State} (ev : Evolves s0 s) (tap : BitVec 12) : Outcome.Evolves s0
    (execTpReadyReturn tap s) := by
  unfold execTpReadyReturn
  try dsimp only
  simp +contextual (maxDischargeDepth := 99) only [↓ev, ↓Outcome.evolves_ite, ↓Outcome.evolves_next,
      ↓State.modTap_evolves, ↓State.settle_evolves]

theorem State.dropBinds_evolves {s0 s : State} (ev : Evolves s0 s) (p : Nat) : Evolves s0 (State.dropBinds s p) := by
  unfold State.dropBinds
  dsimp only
  simp +contextual (maxDischargeDepth := 99) only [↓twf_foldl, ↓ev, ↓Evolves.update, ↓Evolves.foldl, implies_true,
      eq_self, Cst.wf_iff, Wel.wf_iff, Rst.wf_iff, Pipe.wf_iff, Cul.wf_iff, Pump.wf_iff, Obs.wf_iff, GLink.wf_iff,
      twf_tset, and_self, ↓State.discardTokens_evolves, ↓State.setAct_evolves]

theorem State.dropReleases_evolves {s0 s : State} (ev : Evolves s0 s) (p : Nat) : Evolves s0 (State.dropReleases s
    p) := by
  unfold State.dropReleases
  try dsimp only
  simp +contextual (maxDischargeDepth := 99) only [↓ev, ↓Evolves.update, implies_true, eq_self, Cst.wf_iff,
      Wel.wf_iff, Rst.wf_iff, Pipe.wf_iff, Cul.wf_iff, Pump.wf_iff, Obs.wf_iff, GLink.wf_iff, twf_tmap, and_self]

theorem State.dropSchedule_evolves {s0 s : State} (ev : Evolves s0 s) (p : Nat) : Evolves s0 (State.dropSchedule s
    p) := by
  unfold State.dropSchedule
  try dsimp only
  (repeat' split) <;> simp +contextual (maxDischargeDepth := 99) only [↓ev, ↓State.loadEnd_evolves,
      ↓State.modPrt_evolves, ↓State.unsmear_evolves]

theorem State.busyForwards_evolves {s0 s : State} (ev : Evolves s0 s) (p : Nat) : Evolves s0 (State.busyForwards s
    p) := by
  unfold State.busyForwards
  try dsimp only
  simp +contextual (maxDischargeDepth := 99) only [↓ev, ↓Evolves.foldl, implies_true, ↓State.deliver_evolves,
      ↓State.dropFwd_evolves]

theorem State.dropGrants_evolves {s0 s : State} (ev : Evolves s0 s) (p : Nat) : Evolves s0 (State.dropGrants s p) :=
    by
  unfold State.dropGrants
  try dsimp only
  simp +contextual (maxDischargeDepth := 99) only [↓ev, ↓Evolves.foldl, implies_true, ↓State.grantStop_evolves,
      ↓State.setGrant_evolves]

theorem State.initAll_evolves {s0 s : State} (ev : Evolves s0 s) (p : Nat) : Evolves s0 (State.initAll s p) := by
  unfold State.initAll
  try dsimp only
  simp +contextual (maxDischargeDepth := 99) only [↓ev, ↓Evolves.update, ↓Evolves.foldl, implies_true, eq_self,
      Cst.wf_iff, Wel.wf_iff, Rst.wf_iff, Pipe.wf_iff, Cul.wf_iff, Pump.wf_iff, Obs.wf_iff, GLink.wf_iff, and_self,
      ↓State.refuseMisses_evolves]

theorem State.partReset_evolves {s0 s : State} (ev : Evolves s0 s) (p : Nat) : Evolves s0 (State.partReset s p) := by
  unfold State.partReset
  try dsimp only
  simp +contextual (maxDischargeDepth := 99) only [↓ev, ↓Evolves.foldl, implies_true, ↓State.abortDumps_evolves,
      ↓State.busyForwards_evolves, ↓State.chanReset_evolves, ↓State.dropBinds_evolves, ↓State.dropGrants_evolves,
      ↓State.dropReleases_evolves, ↓State.dropSchedule_evolves, ↓State.fnReset_evolves, ↓State.freezeAll_evolves,
      ↓State.initAll_evolves, ↓State.raiseFree_evolves, ↓State.setPstate_evolves, ↓State.snapAbandon_evolves,
      ↓State.snapCmdsAbort_evolves, ↓State.summaries_evolves]

theorem State.resetAsleep_evolves {s0 s : State} (ev : Evolves s0 s) (i : Instr) : Evolves s0 (State.resetAsleep s
    i) := by
  unfold State.resetAsleep
  try dsimp only
  simp +contextual (maxDischargeDepth := 99) only [↓ev, ↓Evolves.update, implies_true, eq_self, Cst.wf_iff,
      Wel.wf_iff, Rst.wf_iff, Pipe.wf_iff, Cul.wf_iff, Pump.wf_iff, Obs.wf_iff, GLink.wf_iff, and_self]

theorem State.resetGo_evolves {s0 s : State} (ev : Evolves s0 s) (k i : Nat) : Evolves s0 (State.resetGo s k i) := by
  unfold State.resetGo
  try dsimp only
  (repeat' split) <;> simp +contextual (maxDischargeDepth := 99) only [↓ev, ↓State.chanReset_evolves,
      ↓State.fnReset_evolves, ↓State.partReset_evolves, ↓State.portReset_evolves, ↓State.raised_evolves,
      ↓State.tapReset_evolves]

theorem State.rstWrite_evolves {s0 s : State} (ev : Evolves s0 s) (acc : Acc) (v : Nat) : Evolves s0 (State.rstWrite
    s acc v) := by
  unfold State.rstWrite
  try dsimp only
  simp +contextual (maxDischargeDepth := 99) only [↓ev, ↓Evolves.ite, ↓State.blockReset_evolves,
      ↓State.resetAsleep_evolves, ↓State.resetGo_evolves, ↓State.setFlag_evolves, ↓State.settle_evolves]

theorem State.flr_evolves {s0 s : State} (ev : Evolves s0 s) (f : Nat) : Evolves s0 (State.flr s f) := by
  unfold State.flr
  try dsimp only
  simp +contextual (maxDischargeDepth := 99) only [↓ev, ↓Evolves.ite, ↓State.fnReset_evolves, ↓State.raised_evolves,
      ↓State.resetAsleep_evolves, ↓State.settle_evolves]

theorem State.tapPin_evolves {s0 s : State} (ev : Evolves s0 s) (t : Nat) : Evolves s0 (State.tapPin s t) := by
  unfold State.tapPin
  try dsimp only
  simp +contextual (maxDischargeDepth := 99) only [↓ev, ↓Evolves.ite, ↓State.modTap_evolves,
      ↓State.resetAsleep_evolves, ↓State.settle_evolves, ↓State.tapReset_evolves]

/-! ## CfgStore.lean -/

theorem State.takeRecord_evolves {s0 s : State} (ev : Evolves s0 s) (m : List Byte) : Evolves s0 (State.takeRecord s
    m) := by
  unfold State.takeRecord
  try dsimp only
  simp +contextual (maxDischargeDepth := 99) only [↓ev, ↓Evolves.update, ↓Evolves.foldl, implies_true, eq_self,
      Cst.wf_iff, Wel.wf_iff, Rst.wf_iff, Pipe.wf_iff, Cul.wf_iff, Pump.wf_iff, Obs.wf_iff, GLink.wf_iff, and_self,
      ↓State.setReg_evolves]

theorem execRecordLoadDone_evolves {s0 s : State} (ev : Evolves s0 s) (rec : List Byte) : Outcome.Evolves s0
    (execRecordLoadDone rec s) := by
  unfold execRecordLoadDone
  try dsimp only
  simp +contextual (maxDischargeDepth := 99) only [↓ev, ↓Evolves.ite, ↓Outcome.evolves_ite, ↓Evolves.update,
      ↓Outcome.evolves_next, implies_true, eq_self, Cst.wf_iff, Wel.wf_iff, Rst.wf_iff, Pipe.wf_iff, Cul.wf_iff,
      Pump.wf_iff, Obs.wf_iff, GLink.wf_iff, and_self, ↓State.setFlag_evolves, ↓State.setReg_evolves,
      ↓State.takeRecord_evolves]

theorem State.cfgFail_evolves {s0 s : State} (ev : Evolves s0 s) (code : Nat) : Evolves s0 (State.cfgFail s code) :=
    by
  unfold State.cfgFail
  try dsimp only
  simp +contextual (maxDischargeDepth := 99) only [↓ev, ↓State.setFlag_evolves, ↓State.setFld_evolves]

theorem State.cfgCommit_evolves {s0 s : State} (ev : Evolves s0 s) : Evolves s0 (State.cfgCommit s) := by
  unfold State.cfgCommit
  try dsimp only
  simp +contextual (maxDischargeDepth := 99) only [↓ev, ↓Evolves.ite, ↓Evolves.update, implies_true, eq_self,
      Cst.wf_iff, Wel.wf_iff, Rst.wf_iff, Pipe.wf_iff, Cul.wf_iff, Pump.wf_iff, Obs.wf_iff, GLink.wf_iff, and_self,
      ↓State.cfgFail_evolves, ↓State.emit_evolves, ↓State.privRefuse_evolves, ↓State.setFlag_evolves,
      ↓State.setIsland_evolves]

theorem execConfigRewriteDone_evolves {s0 s : State} (ev : Evolves s0 s) (timeout : Bool) (readback : List Byte) :
    Outcome.Evolves s0 (execConfigRewriteDone timeout readback s) := by
  unfold execConfigRewriteDone
  try dsimp only
  (repeat' split) <;> simp +contextual (maxDischargeDepth := 99) only [↓ev, ↓Evolves.update, ↓Outcome.evolves_next,
      implies_true, eq_self, Cst.wf_iff, Wel.wf_iff, Rst.wf_iff, Pipe.wf_iff, Cul.wf_iff, Pump.wf_iff, Obs.wf_iff,
      GLink.wf_iff, and_self, ↓State.cfgFail_evolves, ↓State.setFlag_evolves, ↓State.setFld_evolves]

theorem State.cfgReload_evolves {s0 s : State} (ev : Evolves s0 s) : Evolves s0 (State.cfgReload s) := by
  unfold State.cfgReload
  try dsimp only
  simp +contextual (maxDischargeDepth := 99) only [↓ev, ↓Evolves.ite, ↓Evolves.update, implies_true, eq_self,
      Cst.wf_iff, Wel.wf_iff, Rst.wf_iff, Pipe.wf_iff, Cul.wf_iff, Pump.wf_iff, Obs.wf_iff, GLink.wf_iff, and_self,
      ↓State.emit_evolves, ↓State.setFlag_evolves]

/-! ## Power.lean -/

theorem execClockLoss_evolves {s0 s : State} (ev : Evolves s0 s) (clk : BitVec 2) : Outcome.Evolves s0
    (execClockLoss clk s) := by
  unfold execClockLoss
  try dsimp only
  simp +contextual (maxDischargeDepth := 99) only [↓ev, ↓Evolves.ite, ↓Outcome.evolves_ite, ↓Evolves.update,
      ↓Outcome.evolves_next, implies_true, eq_self, Cst.wf_iff, Wel.wf_iff, Rst.wf_iff, Pipe.wf_iff, Cul.wf_iff,
      Pump.wf_iff, Obs.wf_iff, GLink.wf_iff, and_self, ↓State.setFlag_evolves]

theorem execClockReturn_evolves {s0 s : State} (ev : Evolves s0 s) (clk : BitVec 2) : Outcome.Evolves s0
    (execClockReturn clk s) := by
  unfold execClockReturn
  try dsimp only
  simp +contextual (maxDischargeDepth := 99) only [↓ev, ↓Outcome.evolves_ite, ↓Evolves.update,
      ↓Outcome.evolves_next, implies_true, eq_self, Cst.wf_iff, Wel.wf_iff, Rst.wf_iff, Pipe.wf_iff, Cul.wf_iff,
      Pump.wf_iff, Obs.wf_iff, GLink.wf_iff, and_self, ↓State.sendRsps_evolves]

theorem State.powerChoose_evolves {s0 s : State} (ev : Evolves s0 s) : Evolves s0 (State.powerChoose s) := by
  have hd : State.deepest s ≤ 3 := by unfold State.deepest; dsimp only; (repeat' split) <;> omega
  unfold State.powerChoose
  split
  · exact ev
  · extract_lets +onlyGivenNames k
    split
    · exact ev.update id id id (fun h => h) id id id id id id id id
    · exact ev.update id id id (fun _ => hd) id id id id id id id id

theorem execWakeTimer_evolves {s0 s : State} (ev : Evolves s0 s) : Outcome.Evolves s0 (execWakeTimer s) := by
  unfold execWakeTimer
  try dsimp only
  (repeat' split) <;> simp +contextual (maxDischargeDepth := 99) only [↓ev, ↓Evolves.update, ↓Outcome.evolves_next,
      implies_true, eq_self, Cst.wf_iff, Wel.wf_iff, Rst.wf_iff, Pipe.wf_iff, Cul.wf_iff, Pump.wf_iff, Obs.wf_iff,
      GLink.wf_iff, and_self]

theorem execWakeDone_evolves {s0 s : State} (ev : Evolves s0 s) : Outcome.Evolves s0 (execWakeDone s) := by
  unfold execWakeDone
  split
  · extract_lets +onlyGivenNames r0 s1 g0 s2
    have h1 : Evolves s0 s1 := ev.update id id id (fun _ => Nat.zero_le 3) id id id id id id id id
    clear_value s1
    have h2 : Evolves s0 s2 := by
      unfold s2
      split
      · exact State.gauPeriodic_evolves (h1.update id id id id id id id id id id id id)
      · exact h1
    clear_value s2
    exact Outcome.evolves_next (State.settle_evolves (Evolves.foldl (fun t a ht => State.takeCounts_evolves ht _) _
        h2))
  · exact Outcome.evolves_next ev

theorem State.tbStep_evolves {s0 s : State} (ev : Evolves s0 s) : Evolves s0 (State.tbStep s) := by
  unfold State.tbStep
  try dsimp only
  simp +contextual (maxDischargeDepth := 99) only [↓ev, ↓Evolves.ite, ↓Evolves.update, implies_true, eq_self,
      Cst.wf_iff, Wel.wf_iff, Rst.wf_iff, Pipe.wf_iff, Cul.wf_iff, Pump.wf_iff, Obs.wf_iff, GLink.wf_iff, and_self,
      ↓State.nextFree_evolves]

theorem State.cycleWork_evolves {s0 s : State} (ev : Evolves s0 s) : Evolves s0 (State.cycleWork s) := by
  unfold State.cycleWork
  try dsimp only
  simp +contextual (maxDischargeDepth := 99) only [↓ev, ↓Evolves.foldl, implies_true, ↓State.closeFlush_evolves,
      ↓State.dumpTimeouts_evolves, ↓State.judgeMulti_evolves, ↓State.passStep_evolves, ↓State.phyStep_evolves,
      ↓State.rspCredits_evolves, ↓State.settle_evolves, ↓State.takeCounts_evolves]

theorem State.cycle_evolves {s0 s : State} (ev : Evolves s0 s) : Evolves s0 (State.cycle s) := by
  unfold State.cycle
  try dsimp only
  simp +contextual (maxDischargeDepth := 99) only [↓ev, ↓Evolves.ite, ↓Evolves.update, implies_true, eq_self,
      Cst.wf_iff, Wel.wf_iff, Rst.wf_iff, Pipe.wf_iff, Cul.wf_iff, Pump.wf_iff, Obs.wf_iff, GLink.wf_iff, and_self,
      ↓State.beginCycle_evolves, ↓State.count_evolves, ↓State.cycleWork_evolves, ↓State.powerChoose_evolves,
      ↓State.pruneResets_evolves, ↓State.setIsland_evolves, ↓State.tbStep_evolves]

/-! ## Grid.lean -/

theorem State.gridLocked_evolves {s0 s : State} (ev : Evolves s0 s) : Evolves s0 (State.gridLocked s) := by
  unfold State.gridLocked
  try dsimp only
  simp +contextual (maxDischargeDepth := 99) only [↓ev, ↓State.setFlag_evolves]

theorem State.tbLoad_evolves {s0 s : State} (ev : Evolves s0 s) (v : Nat) : Evolves s0 (State.tbLoad s v) := by
  unfold State.tbLoad
  try dsimp only
  simp +contextual (maxDischargeDepth := 99) only [↓ev, ↓Evolves.ite, ↓Evolves.update, implies_true, eq_self,
      Cst.wf_iff, Wel.wf_iff, Rst.wf_iff, Pipe.wf_iff, Cul.wf_iff, Pump.wf_iff, Obs.wf_iff, GLink.wf_iff, and_self,
      ↓State.gridLocked_evolves]

theorem State.gridStart_evolves {s0 s : State} (ev : Evolves s0 s) : Evolves s0 (State.gridStart s) := by
  unfold State.gridStart
  try dsimp only
  simp +contextual (maxDischargeDepth := 99) only [↓ev, ↓Evolves.ite, ↓Evolves.update, implies_true, eq_self,
      Cst.wf_iff, Wel.wf_iff, Rst.wf_iff, Pipe.wf_iff, Cul.wf_iff, Pump.wf_iff, Obs.wf_iff, GLink.wf_iff, and_self,
      ↓State.setFlag_evolves]

theorem State.gridStop_evolves {s0 s : State} (ev : Evolves s0 s) : Evolves s0 (State.gridStop s) := by
  unfold State.gridStop
  try dsimp only
  simp +contextual (maxDischargeDepth := 99) only [↓ev, ↓Evolves.ite, ↓Evolves.update, implies_true, eq_self,
      Cst.wf_iff, Wel.wf_iff, Rst.wf_iff, Pipe.wf_iff, Cul.wf_iff, Pump.wf_iff, Obs.wf_iff, GLink.wf_iff, and_self,
      ↓State.finalMarks_evolves, ↓State.gridLocked_evolves, ↓State.setFlag_evolves]

theorem State.gridCtrl_evolves {s0 s : State} (ev : Evolves s0 s) (v : Nat) : Evolves s0 (State.gridCtrl s v) := by
  unfold State.gridCtrl
  try dsimp only
  simp +contextual (maxDischargeDepth := 99) only [↓ev, ↓Evolves.ite, ↓State.gridStart_evolves,
      ↓State.gridStop_evolves]

theorem State.outcomeStep_evolves {s0 : State} (r : State × List Nat) (p : Nat) (ev : Evolves s0 r.1) : Evolves s0
    (State.outcomeStep r p).1 := by
  unfold State.outcomeStep
  try dsimp only
  simp +contextual (maxDischargeDepth := 99) only [↓ev, ↓Evolves.ite_fst, ↓State.closeAtEnd_evolves,
      ↓State.tickOutcome_evolves]

theorem State.tickUsage_evolves {s0 s : State} (ev : Evolves s0 s) : Evolves s0 (State.tickUsage s) := by
  unfold State.tickUsage
  try dsimp only
  simp +contextual (maxDischargeDepth := 99) only [↓ev, ↓Evolves.foldl, implies_true, ↓State.usage_evolves]

theorem State.ticksBegin_evolves {s0 s : State} (ev : Evolves s0 s) (ended : List Nat) : Evolves s0
    (State.ticksBegin s ended) := by
  unfold State.ticksBegin
  try dsimp only
  simp +contextual (maxDischargeDepth := 99) only [↓ev, ↓Evolves.ite, ↓Evolves.foldl, implies_true,
      ↓State.restartStep_evolves, ↓State.tickBegin_evolves]

theorem State.idleSummaries_evolves {s0 s : State} (ev : Evolves s0 s) : Evolves s0 (State.idleSummaries s) := by
  unfold State.idleSummaries
  try dsimp only
  simp +contextual (maxDischargeDepth := 99) only [↓ev, ↓Evolves.foldl, implies_true, ↓State.summaries_evolves]

theorem State.gridTick_evolves {s0 s : State} (ev : Evolves s0 s) : Evolves s0 (State.gridTick s) := by
  unfold State.gridTick
  try dsimp only
  simp +contextual (maxDischargeDepth := 99) only [↓ev, ↓Evolves.update, ↓Evolves.foldl, ↓Evolves.foldl_fst,
      implies_true, eq_self, Cst.wf_iff, Wel.wf_iff, Rst.wf_iff, Pipe.wf_iff, Cul.wf_iff, Pump.wf_iff, Obs.wf_iff,
      GLink.wf_iff, and_self, ↓State.epochChange_evolves, ↓State.gauDue_evolves, ↓State.graceCheck_evolves,
      ↓State.idleSummaries_evolves, ↓State.outcomeStep_evolves, ↓State.resumesDue_evolves,
      ↓State.samplePoint_evolves, ↓State.snapBoundary_evolves, ↓State.stopBoundary_evolves,
      ↓State.tickDoorbells_evolves, ↓State.tickMarks_evolves, ↓State.tickRecords_evolves, ↓State.tickUsage_evolves,
      ↓State.ticksBegin_evolves, ↓State.utilRecord_evolves, ↓State.waitPolls_evolves]

theorem execGridTickBoundary_evolves {s0 s : State} (ev : Evolves s0 s) : Outcome.Evolves s0 (execGridTickBoundary
    s) := by
  unfold execGridTickBoundary
  try dsimp only
  simp +contextual (maxDischargeDepth := 99) only [↓ev, ↓Outcome.evolves_ite, ↓Outcome.evolves_next,
      ↓State.gridTick_evolves, ↓State.settle_evolves]

theorem execGridSlotBoundary_evolves {s0 s : State} (ev : Evolves s0 s) : Outcome.Evolves s0 (execGridSlotBoundary
    s) := by
  unfold execGridSlotBoundary
  try dsimp only
  simp +contextual (maxDischargeDepth := 99) only [↓ev, ↓Outcome.evolves_ite, ↓Evolves.update,
      ↓Outcome.evolves_next, implies_true, eq_self, Cst.wf_iff, Wel.wf_iff, Rst.wf_iff, Pipe.wf_iff, Cul.wf_iff,
      Pump.wf_iff, Obs.wf_iff, GLink.wf_iff, and_self, ↓State.settle_evolves, ↓State.slotDoorbells_evolves,
      ↓State.waitPolls_evolves]

end Sys2Proof.Machine
end

