-- ==== Sys2Proof/Laws/EvolvesRegs.lean ====
section
/-! SUPPORT. What register accesses do to a state: the build and the queue stay, and the invariant is kept. -/

namespace Sys2Proof.Machine

/-! ## RegWrite.lean -/

theorem State.plain_evolves {s0 s : State} (ev : Evolves s0 s) (off v : Nat) : Evolves s0 (State.plain s off v) := by
  unfold State.plain
  try dsimp only
  (repeat' split) <;> simp +contextual (maxDischargeDepth := 99) only [↓ev, ↓State.setReg_evolves]

theorem State.plainPair_evolves {s0 s : State} (ev : Evolves s0 s) (off v : Nat) : Evolves s0 (State.plainPair s off
    v) := by
  unfold State.plainPair
  try dsimp only
  simp +contextual (maxDischargeDepth := 99) only [↓ev, ↓State.plain_evolves]

theorem State.lockedBy_evolves {s0 s t : State} (ev : Evolves s0 s) (ev1 : Evolves s0 t) (p unit off : Nat) :
    Evolves s0 (State.lockedBy s p unit off t) := by
  unfold State.lockedBy
  try dsimp only
  simp +contextual (maxDischargeDepth := 99) only [↓ev, ↓ev1, ↓Evolves.ite, ↓State.cfgLocked_evolves]

theorem State.lockedByAny_evolves {s0 s t : State} (ev : Evolves s0 s) (ev1 : Evolves s0 t) (ps : List Nat) (unit
    off : Nat) : Evolves s0 (State.lockedByAny s ps unit off t) := by
  unfold State.lockedByAny
  try dsimp only
  (repeat' split) <;> simp +contextual (maxDischargeDepth := 99) only [↓ev, ↓ev1, ↓Evolves.foldl, implies_true,
      ↓State.cfgLocked_evolves]

theorem State.pfmWrite_evolves {s0 s : State} (ev : Evolves s0 s) (acc : Acc) (off v : Nat) : Evolves s0
    (State.pfmWrite s acc off v) := by
  unfold State.pfmWrite
  try dsimp only
  simp +contextual (maxDischargeDepth := 99) only [↓ev, ↓Evolves.ite, ↓State.cfgCommit_evolves,
      ↓State.cfgReload_evolves, ↓State.gauMark_evolves, ↓State.plain_evolves, ↓State.privWrite_evolves,
      ↓State.rstWrite_evolves]

theorem State.partWrite_evolves {s0 s : State} (ev : Evolves s0 s) (p o off v : Nat) : Evolves s0 (State.partWrite s
    p o off v) := by
  unfold State.partWrite
  try dsimp only
  simp +contextual (maxDischargeDepth := 99) only [↓ev, ↓Evolves.ite, ↓State.allocJudge_evolves,
      ↓State.lockedBy_evolves, ↓State.pctrl_evolves, ↓State.plain_evolves, ↓State.tapRangeJudge_evolves]

theorem State.partPair_evolves {s0 s : State} (ev : Evolves s0 s) (p o off v : Nat) : Evolves s0 (State.partPair s p
    o off v) := by
  unfold State.partPair
  try dsimp only
  simp +contextual (maxDischargeDepth := 99) only [↓ev, ↓Evolves.ite, ↓State.lockedBy_evolves,
      ↓State.plainPair_evolves, ↓State.pumpJudge_evolves]

theorem State.fnWrite_evolves {s0 s : State} (ev : Evolves s0 s) (f o off v : Nat) : Evolves s0 (State.fnWrite s f o
    off v) := by
  unfold State.fnWrite
  try dsimp only
  simp +contextual (maxDischargeDepth := 99) only [↓ev, ↓Evolves.ite, ↓State.fcfgWrite_evolves,
      ↓State.fwaitWrite_evolves, ↓State.plain_evolves, ↓State.raised_evolves]

theorem State.hgWrite_evolves {s0 s : State} (ev : Evolves s0 s) (off v : Nat) : Evolves s0 (State.hgWrite s off v)
    := by
  unfold State.hgWrite
  try dsimp only
  simp +contextual (maxDischargeDepth := 99) only [↓ev, ↓Evolves.ite, ↓State.chanQuotaJudge_evolves,
      ↓State.creditJudge_evolves, ↓State.gridCtrl_evolves, ↓State.gridLocked_evolves, ↓State.lockedBy_evolves,
      ↓State.plain_evolves, ↓State.stageQuotaJudge_evolves]

theorem State.hgPair_evolves {s0 s : State} (ev : Evolves s0 s) (off v : Nat) : Evolves s0 (State.hgPair s off v) :=
    by
  unfold State.hgPair
  try dsimp only
  simp +contextual (maxDischargeDepth := 99) only [↓ev, ↓Evolves.ite, ↓State.credClr_evolves,
      ↓State.gridLocked_evolves, ↓State.lockedBy_evolves, ↓State.plainPair_evolves]

theorem State.pbdWrite_evolves {s0 s : State} (ev : Evolves s0 s) (t off v : Nat) : Evolves s0 (State.pbdWrite s t
    off v) := by
  unfold State.pbdWrite
  try dsimp only
  (repeat' split) <;> simp +contextual (maxDischargeDepth := 99) only [↓ev, ↓State.lockedBy_evolves,
      ↓State.plain_evolves]

theorem State.spWrite_evolves {s0 s : State} (ev : Evolves s0 s) (off v : Nat) : Evolves s0 (State.spWrite s off v)
    := by
  unfold State.spWrite
  try dsimp only
  simp +contextual (maxDischargeDepth := 99) only [↓ev, ↓Evolves.ite, ↓State.bmodeWrite_evolves,
      ↓State.fenceWrite_evolves, ↓State.pbdWrite_evolves, ↓State.plain_evolves]

theorem State.welWrite_evolves {s0 s : State} (ev : Evolves s0 s) (off v : Nat) : Evolves s0 (State.welWrite s off
    v) := by
  unfold State.welWrite
  try dsimp only
  simp +contextual (maxDischargeDepth := 99) only [↓ev, ↓Evolves.ite, ↓State.groupInit_evolves,
      ↓State.plain_evolves, ↓State.rightsWrite_evolves]

theorem State.snapCtrl_evolves {s0 s : State} (ev : Evolves s0 s) (p off v : Nat) (area : List Byte) : Evolves s0
    (State.snapCtrl s p off v area) := by
  unfold State.snapCtrl
  try dsimp only
  simp +contextual (maxDischargeDepth := 99) only [↓ev, ↓Evolves.ite, ↓State.lockedBy_evolves,
      ↓State.restoreGo_evolves, ↓State.setFld_evolves]

theorem State.snapCtrlWord_evolves {s0 s : State} (ev : Evolves s0 s) (p off v : Nat) : Evolves s0
    (State.snapCtrlWord s p off v) := by
  unfold State.snapCtrlWord
  try dsimp only
  simp +contextual (maxDischargeDepth := 99) only [↓ev, ↓Evolves.ite, ↓State.nextFree_evolves,
      ↓State.snapCtrl_evolves]

theorem State.channelWrite_evolves {s0 s : State} (ev : Evolves s0 s) (c w off v : Nat) : Evolves s0
    (State.channelWrite s c w off v) := by
  unfold State.channelWrite
  try dsimp only
  simp +contextual (maxDischargeDepth := 99) only [↓ev, ↓Evolves.ite, ↓State.channelJudge_evolves,
      ↓State.lockedByAny_evolves, ↓State.lockedBy_evolves, ↓State.plain_evolves]

theorem State.remoteWrite_evolves {s0 s : State} (ev : Evolves s0 s) (e w off v : Nat) : Evolves s0
    (State.remoteWrite s e w off v) := by
  unfold State.remoteWrite
  try dsimp only
  simp +contextual (maxDischargeDepth := 99) only [↓ev, ↓Evolves.ite, ↓State.lockedByAny_evolves,
      ↓State.lockedBy_evolves, ↓State.plain_evolves, ↓State.remoteJudge_evolves]

theorem State.culWrite_evolves {s0 s : State} (ev : Evolves s0 s) (off v : Nat) : Evolves s0 (State.culWrite s off
    v) := by
  unfold State.culWrite
  try dsimp only
  simp +contextual (maxDischargeDepth := 99) only [↓ev, ↓Evolves.ite, ↓State.channelWrite_evolves,
      ↓State.joinWrite_evolves, ↓State.lockedBy_evolves, ↓State.plain_evolves, ↓State.portConfig_evolves,
      ↓State.remoteWrite_evolves, ↓State.snapCtrlWord_evolves, ↓State.syncRecord_evolves]

theorem State.culPair_evolves {s0 s : State} (ev : Evolves s0 s) (off v : Nat) : Evolves s0 (State.culPair s off v)
    := by
  unfold State.culPair
  try dsimp only
  simp +contextual (maxDischargeDepth := 99) only [↓ev, ↓Evolves.ite, ↓State.lockedBy_evolves,
      ↓State.plainPair_evolves]

theorem State.ccfgWrite_evolves {s0 s : State} (ev : Evolves s0 s) (c off v : Nat) : Evolves s0 (State.ccfgWrite s c
    off v) := by
  unfold State.ccfgWrite
  try dsimp only
  simp +contextual (maxDischargeDepth := 99) only [↓ev, ↓Evolves.ite, ↓State.chanDisable_evolves,
      ↓State.chanEnable_evolves, ↓State.plain_evolves]

theorem State.pmpWrite_evolves {s0 s : State} (ev : Evolves s0 s) (off v : Nat) : Evolves s0 (State.pmpWrite s off
    v) := by
  unfold State.pmpWrite
  try dsimp only
  simp +contextual (maxDischargeDepth := 99) only [↓ev, ↓Evolves.ite, ↓State.ccfgWrite_evolves,
      ↓State.chanCmd_evolves, ↓State.plain_evolves, ↓State.pumpResume_evolves]

theorem State.pmpPair_evolves {s0 s : State} (ev : Evolves s0 s) (off v : Nat) : Evolves s0 (State.pmpPair s off v)
    := by
  unfold State.pmpPair
  try dsimp only
  simp +contextual (maxDischargeDepth := 99) only [↓ev, ↓Evolves.ite, ↓State.headWrite_evolves]

theorem State.scfgWrite_evolves {s0 s : State} (ev : Evolves s0 s) (i off v : Nat) : Evolves s0 (State.scfgWrite s i
    off v) := by
  unfold State.scfgWrite
  try dsimp only
  simp +contextual (maxDischargeDepth := 99) only [↓ev, ↓Evolves.ite, ↓State.lockedByAny_evolves,
      ↓State.plain_evolves, ↓State.sumpJudge_evolves]

theorem State.obsWrite_evolves {s0 s : State} (ev : Evolves s0 s) (off v : Nat) : Evolves s0 (State.obsWrite s off
    v) := by
  unfold State.obsWrite
  try dsimp only
  simp +contextual (maxDischargeDepth := 99) only [↓ev, ↓Evolves.ite, ↓State.hcmd_evolves,
      ↓State.lockedByAny_evolves, ↓State.plain_evolves, ↓State.scfgWrite_evolves, ↓State.selWrite_evolves,
      ↓State.setFlag_evolves, ↓State.syncRecord_evolves]

theorem State.obsPair_evolves {s0 s : State} (ev : Evolves s0 s) (off v : Nat) : Evolves s0 (State.obsPair s off v)
    := by
  unfold State.obsPair
  try dsimp only
  simp +contextual (maxDischargeDepth := 99) only [↓ev, ↓Evolves.ite, ↓State.lockedByAny_evolves,
      ↓State.plainPair_evolves, ↓State.tbLoad_evolves]

theorem State.pageWrite_evolves {s0 s : State} (ev : Evolves s0 s) (acc : Acc) (g o off v : Nat) : Evolves s0
    (State.pageWrite s acc g o off v) := by
  unfold State.pageWrite
  try dsimp only
  (repeat' split) <;> simp +contextual (maxDischargeDepth := 99) only [↓ev, ↓State.chanCmd_evolves,
      ↓State.kickIn_evolves, ↓State.plain_evolves, ↓State.queueOff_evolves, ↓State.queueOn_evolves,
      ↓State.selWrite_evolves, ↓State.setReg_evolves, ↓State.vmaskSet_evolves]

theorem State.pagePair_evolves {s0 s : State} (ev : Evolves s0 s) (g o off v : Nat) : Evolves s0 (State.pagePair s g
    o off v) := by
  unfold State.pagePair
  try dsimp only
  (repeat' split) <;> simp +contextual (maxDischargeDepth := 99) only [↓ev, ↓State.headWrite_evolves,
      ↓State.plainPair_evolves]

theorem State.wordWrite_evolves {s0 s : State} (ev : Evolves s0 s) (acc : Acc) (off v : Nat) : Evolves s0
    (State.wordWrite s acc off v) := by
  unfold State.wordWrite
  try dsimp only
  simp +contextual (maxDischargeDepth := 99) only [↓ev, ↓Evolves.ite, ↓State.culWrite_evolves,
      ↓State.fnWrite_evolves, ↓State.hgWrite_evolves, ↓State.obsWrite_evolves, ↓State.pageWrite_evolves,
      ↓State.partWrite_evolves, ↓State.pfmWrite_evolves, ↓State.pmpWrite_evolves, ↓State.spWrite_evolves,
      ↓State.welWrite_evolves]

theorem State.pairWrite_evolves {s0 s : State} (ev : Evolves s0 s) (off v : Nat) : Evolves s0 (State.pairWrite s off
    v) := by
  unfold State.pairWrite
  try dsimp only
  simp +contextual (maxDischargeDepth := 99) only [↓ev, ↓Evolves.ite, ↓State.culPair_evolves,
      ↓State.gauCfgw_evolves, ↓State.hgPair_evolves, ↓State.obsPair_evolves, ↓State.pagePair_evolves,
      ↓State.partPair_evolves, ↓State.pmpPair_evolves]

theorem State.setHeldWrite_evolves {s0 s : State} (ev : Evolves s0 s) (k : Nat) (w : Option (Nat × Nat)) : Evolves
    s0 (State.setHeldWrite s k w) := by
  unfold State.setHeldWrite
  try dsimp only
  simp +contextual (maxDischargeDepth := 99) only [↓ev, ↓Evolves.update, implies_true, eq_self, Cst.wf_iff,
      Wel.wf_iff, Rst.wf_iff, Pipe.wf_iff, Cul.wf_iff, Pump.wf_iff, Obs.wf_iff, GLink.wf_iff, twf_tmod, and_self]

theorem State.regStore_evolves {s0 s : State} (ev : Evolves s0 s) (acc : Acc) (off v : Nat) : Evolves s0
    (State.regStore s acc off v) := by
  unfold State.regStore
  try dsimp only
  (repeat' split) <;> simp +contextual (maxDischargeDepth := 99) only [↓ev, ↓State.pairWrite_evolves,
      ↓State.setHeldWrite_evolves, ↓State.wordWrite_evolves]

theorem State.holdAccess_evolves {s0 s : State} (ev : Evolves s0 s) (i : Instr) : Evolves s0 (State.holdAccess s i)
    := by
  unfold State.holdAccess
  try dsimp only
  simp +contextual (maxDischargeDepth := 99) only [↓ev, ↓Evolves.update, implies_true, eq_self, Cst.wf_iff,
      Wel.wf_iff, Rst.wf_iff, Pipe.wf_iff, Cul.wf_iff, Pump.wf_iff, Obs.wf_iff, GLink.wf_iff, and_self]

theorem State.crossing_evolves {s0 s : State} (ev : Evolves s0 s) (acc : Acc) : Evolves s0 (State.crossing s acc) :=
    by
  unfold State.crossing
  try dsimp only
  simp +contextual (maxDischargeDepth := 99) only [↓ev, ↓Evolves.ite, ↓State.beginCycle_evolves]

theorem State.regWrite_evolves {s0 s : State} (ev : Evolves s0 s) (i : Instr) (acc : Acc) (off v : Nat) (word :
    Bool) : Outcome.Evolves s0 (State.regWrite s i acc off v word) := by
  unfold State.regWrite
  try dsimp only
  (repeat' split) <;> simp +contextual (maxDischargeDepth := 99) only [↓ev, ↓Outcome.evolves_next,
      ↓State.crossing_evolves, ↓State.emit_evolves, ↓State.holdAccess_evolves, ↓State.regStore_evolves,
      ↓State.settle_evolves]

/-! ## RegRead.lean -/

theorem State.setCapture_evolves {s0 s : State} (ev : Evolves s0 s) (k : Nat) (c : Option (Nat × Nat)) : Evolves s0
    (State.setCapture s k c) := by
  unfold State.setCapture
  try dsimp only
  simp +contextual (maxDischargeDepth := 99) only [↓ev, ↓Evolves.update, implies_true, eq_self, Cst.wf_iff,
      Wel.wf_iff, Rst.wf_iff, Pipe.wf_iff, Cul.wf_iff, Pump.wf_iff, Obs.wf_iff, GLink.wf_iff, twf_tmod, and_self]

theorem State.regRead_evolves {s0 s : State} (ev : Evolves s0 s) (acc : Acc) (off : Nat) : Evolves s0 (State.regRead
    s acc off).1 := by
  unfold State.regRead
  try dsimp only
  (repeat' split) <;> simp +contextual (maxDischargeDepth := 99) only [↓ev, ↓State.setCapture_evolves]

theorem State.readAccess_evolves {s0 s : State} (ev : Evolves s0 s) (i : Instr) (acc : Acc) (off : Nat) (word :
    Bool) : Outcome.Evolves s0 (State.readAccess s i acc off word) := by
  unfold State.readAccess
  try dsimp only
  (repeat' split) <;> simp +contextual (maxDischargeDepth := 99) only [↓ev, ↓Outcome.evolves_next,
      ↓State.crossing_evolves, ↓State.emit_evolves, ↓State.holdAccess_evolves, ↓State.regRead_evolves]

/-! ## RegRows.lean -/

theorem execTbLoad_evolves {s0 s : State} (ev : Evolves s0 s) (acc : Acc) (val : W32) : Outcome.Evolves s0
    (execTbLoad acc val s) := by
  unfold execTbLoad
  try dsimp only
  simp +contextual (maxDischargeDepth := 99) only [↓ev, ↓State.regWrite_evolves]

theorem execGridStart_evolves {s0 s : State} (ev : Evolves s0 s) (acc : Acc) (val : W32) : Outcome.Evolves s0
    (execGridStart acc val s) := by
  unfold execGridStart
  try dsimp only
  simp +contextual (maxDischargeDepth := 99) only [↓ev, ↓State.regWrite_evolves]

theorem execGridStop_evolves {s0 s : State} (ev : Evolves s0 s) (acc : Acc) (val : W32) : Outcome.Evolves s0
    (execGridStop acc val s) := by
  unfold execGridStop
  try dsimp only
  simp +contextual (maxDischargeDepth := 99) only [↓ev, ↓State.regWrite_evolves]

theorem execCstAllocationWrite_evolves {s0 s : State} (ev : Evolves s0 s) (acc : Acc) (p : BitVec 5) (off : BitVec
    8) (val : W32) : Outcome.Evolves s0 (execCstAllocationWrite acc p off val s) := by
  unfold execCstAllocationWrite
  try dsimp only
  simp +contextual (maxDischargeDepth := 99) only [↓ev, ↓State.regWrite_evolves]

theorem execSpFenceWrite_evolves {s0 s : State} (ev : Evolves s0 s) (acc : Acc) (w : BitVec 7) (val : W32) :
    Outcome.Evolves s0 (execSpFenceWrite acc w val s) := by
  unfold execSpFenceWrite
  try dsimp only
  simp +contextual (maxDischargeDepth := 99) only [↓ev, ↓State.regWrite_evolves]

theorem execSpBmodeWrite_evolves {s0 s : State} (ev : Evolves s0 s) (acc : Acc) (k : BitVec 9) (val : W32) :
    Outcome.Evolves s0 (execSpBmodeWrite acc k val s) := by
  unfold execSpBmodeWrite
  try dsimp only
  simp +contextual (maxDischargeDepth := 99) only [↓ev, ↓State.regWrite_evolves]

theorem execHgCredClr_evolves {s0 s : State} (ev : Evolves s0 s) (acc : Acc) (val : W32) : Outcome.Evolves s0
    (execHgCredClr acc val s) := by
  unfold execHgCredClr
  try dsimp only
  simp +contextual (maxDischargeDepth := 99) only [↓ev, ↓State.regWrite_evolves]

theorem execCreditWindowWrite_evolves {s0 s : State} (ev : Evolves s0 s) (acc : Acc) (p : BitVec 5) (units : Bool)
    (val : W32) : Outcome.Evolves s0 (execCreditWindowWrite acc p units val s) := by
  unfold execCreditWindowWrite
  try dsimp only
  simp +contextual (maxDischargeDepth := 99) only [↓ev, ↓State.regWrite_evolves]

theorem execHgQuotaWrite_evolves {s0 s : State} (ev : Evolves s0 s) (acc : Acc) (p : BitVec 5) (stage : Bool) (val :
    W32) : Outcome.Evolves s0 (execHgQuotaWrite acc p stage val s) := by
  unfold execHgQuotaWrite
  try dsimp only
  simp +contextual (maxDischargeDepth := 99) only [↓ev, ↓State.regWrite_evolves]

theorem execWellRightsWrite_evolves {s0 s : State} (ev : Evolves s0 s) (acc : Acc) (g : BitVec 10) (word : BitVec 2)
    (val : W32) : Outcome.Evolves s0 (execWellRightsWrite acc g word val s) := by
  unfold execWellRightsWrite
  try dsimp only
  simp +contextual (maxDischargeDepth := 99) only [↓ev, ↓State.regWrite_evolves]

theorem execGroupInitialisation_evolves {s0 s : State} (ev : Evolves s0 s) (acc : Acc) (g : BitVec 10) :
    Outcome.Evolves s0 (execGroupInitialisation acc g s) := by
  unfold execGroupInitialisation
  try dsimp only
  simp +contextual (maxDischargeDepth := 99) only [↓ev, ↓State.regWrite_evolves]

theorem execCulJoin_evolves {s0 s : State} (ev : Evolves s0 s) (acc : Acc) (val : W32) : Outcome.Evolves s0
    (execCulJoin acc val s) := by
  unfold execCulJoin
  try dsimp only
  simp +contextual (maxDischargeDepth := 99) only [↓ev, ↓State.regWrite_evolves]

theorem execFabricChannelWrite_evolves {s0 s : State} (ev : Evolves s0 s) (acc : Acc) (n : BitVec 6) (word : BitVec
    2) (val : W32) : Outcome.Evolves s0 (execFabricChannelWrite acc n word val s) := by
  unfold execFabricChannelWrite
  try dsimp only
  simp +contextual (maxDischargeDepth := 99) only [↓ev, ↓State.regWrite_evolves]

theorem execRemoteReleaseWrite_evolves {s0 s : State} (ev : Evolves s0 s) (acc : Acc) (e : BitVec 10) (word : BitVec
    2) (val : W32) : Outcome.Evolves s0 (execRemoteReleaseWrite acc e word val s) := by
  unfold execRemoteReleaseWrite
  try dsimp only
  simp +contextual (maxDischargeDepth := 99) only [↓ev, ↓State.regWrite_evolves]

theorem execPartitionStart_evolves {s0 s : State} (ev : Evolves s0 s) (acc : Acc) (p : BitVec 5) : Outcome.Evolves
    s0 (execPartitionStart acc p s) := by
  unfold execPartitionStart
  try dsimp only
  simp +contextual (maxDischargeDepth := 99) only [↓ev, ↓State.regWrite_evolves]

theorem execPartitionQuiesce_evolves {s0 s : State} (ev : Evolves s0 s) (acc : Acc) (p : BitVec 5) : Outcome.Evolves
    s0 (execPartitionQuiesce acc p s) := by
  unfold execPartitionQuiesce
  try dsimp only
  simp +contextual (maxDischargeDepth := 99) only [↓ev, ↓State.regWrite_evolves]

theorem execPartitionAbort_evolves {s0 s : State} (ev : Evolves s0 s) (acc : Acc) (p : BitVec 5) : Outcome.Evolves
    s0 (execPartitionAbort acc p s) := by
  unfold execPartitionAbort
  try dsimp only
  simp +contextual (maxDischargeDepth := 99) only [↓ev, ↓State.regWrite_evolves]

theorem execPartitionResourceWrite_evolves {s0 s : State} (ev : Evolves s0 s) (acc : Acc) (p : BitVec 5) (off :
    BitVec 8) (val : W32) : Outcome.Evolves s0 (execPartitionResourceWrite acc p off val s) := by
  unfold execPartitionResourceWrite
  try dsimp only
  simp +contextual (maxDischargeDepth := 99) only [↓ev, ↓State.regWrite_evolves]

theorem execFunctionConfigWrite_evolves {s0 s : State} (ev : Evolves s0 s) (acc : Acc) (f : BitVec 8) (wait : Bool)
    (val : W32) : Outcome.Evolves s0 (execFunctionConfigWrite acc f wait val s) := by
  unfold execFunctionConfigWrite
  try dsimp only
  simp +contextual (maxDischargeDepth := 99) only [↓ev, ↓State.regWrite_evolves]

theorem execDqKick_evolves {s0 s : State} (ev : Evolves s0 s) (acc : Acc) (f : BitVec 8) (val : W32) :
    Outcome.Evolves s0 (execDqKick acc f val s) := by
  unfold execDqKick
  try dsimp only
  simp +contextual (maxDischargeDepth := 99) only [↓ev, ↓State.regWrite_evolves]

theorem execVmaskWrite_evolves {s0 s : State} (ev : Evolves s0 s) (acc : Acc) (f : BitVec 8) (val : W32) :
    Outcome.Evolves s0 (execVmaskWrite acc f val s) := by
  unfold execVmaskWrite
  try dsimp only
  simp +contextual (maxDischargeDepth := 99) only [↓ev, ↓State.regWrite_evolves]

theorem execQueueEnable_evolves {s0 s : State} (ev : Evolves s0 s) (acc : Acc) (f : BitVec 8) : Outcome.Evolves s0
    (execQueueEnable acc f s) := by
  unfold execQueueEnable
  try dsimp only
  simp +contextual (maxDischargeDepth := 99) only [↓ev, ↓State.regWrite_evolves]

theorem execQueueDisable_evolves {s0 s : State} (ev : Evolves s0 s) (acc : Acc) (f : BitVec 8) : Outcome.Evolves s0
    (execQueueDisable acc f s) := by
  unfold execQueueDisable
  try dsimp only
  simp +contextual (maxDischargeDepth := 99) only [↓ev, ↓State.regWrite_evolves]

theorem execChannelEnable_evolves {s0 s : State} (ev : Evolves s0 s) (acc : Acc) (c : BitVec 6) (val : W32) :
    Outcome.Evolves s0 (execChannelEnable acc c val s) := by
  unfold execChannelEnable
  try dsimp only
  simp +contextual (maxDischargeDepth := 99) only [↓ev, ↓State.regWrite_evolves]

theorem execChannelDisable_evolves {s0 s : State} (ev : Evolves s0 s) (acc : Acc) (c : BitVec 6) (val : W32) :
    Outcome.Evolves s0 (execChannelDisable acc c val s) := by
  unfold execChannelDisable
  try dsimp only
  simp +contextual (maxDischargeDepth := 99) only [↓ev, ↓State.regWrite_evolves]

theorem execPumpResume_evolves {s0 s : State} (ev : Evolves s0 s) (acc : Acc) : Outcome.Evolves s0 (execPumpResume
    acc s) := by
  unfold execPumpResume
  try dsimp only
  simp +contextual (maxDischargeDepth := 99) only [↓ev, ↓State.regWrite_evolves]

theorem execSumpConfigWrite_evolves {s0 s : State} (ev : Evolves s0 s) (acc : Acc) (sump : BitVec 4) (val : W32) :
    Outcome.Evolves s0 (execSumpConfigWrite acc sump val s) := by
  unfold execSumpConfigWrite
  try dsimp only
  simp +contextual (maxDischargeDepth := 99) only [↓ev, ↓State.regWrite_evolves]

theorem execCounterClear_evolves {s0 s : State} (ev : Evolves s0 s) (acc : Acc) (glob : Bool) (p : BitVec 5) (i :
    BitVec 8) (val : W32) : Outcome.Evolves s0 (execCounterClear acc glob p i val s) := by
  unfold execCounterClear
  try dsimp only
  simp +contextual (maxDischargeDepth := 99) only [↓ev, ↓State.regWrite_evolves]

theorem execHaltCommand_evolves {s0 s : State} (ev : Evolves s0 s) (acc : Acc) : Outcome.Evolves s0 (execHaltCommand
    acc s) := by
  unfold execHaltCommand
  try dsimp only
  simp +contextual (maxDischargeDepth := 99) only [↓ev, ↓State.regWrite_evolves]

theorem execResumeCommand_evolves {s0 s : State} (ev : Evolves s0 s) (acc : Acc) : Outcome.Evolves s0
    (execResumeCommand acc s) := by
  unfold execResumeCommand
  try dsimp only
  simp +contextual (maxDischargeDepth := 99) only [↓ev, ↓State.regWrite_evolves]

theorem execStop_evolves {s0 s : State} (ev : Evolves s0 s) (acc : Acc) : Outcome.Evolves s0 (execStop acc s) := by
  unfold execStop
  try dsimp only
  simp +contextual (maxDischargeDepth := 99) only [↓ev, ↓State.regWrite_evolves]

theorem execStart_evolves {s0 s : State} (ev : Evolves s0 s) (acc : Acc) : Outcome.Evolves s0 (execStart acc s) := by
  unfold execStart
  try dsimp only
  simp +contextual (maxDischargeDepth := 99) only [↓ev, ↓State.regWrite_evolves]

theorem execPfmGauMark_evolves {s0 s : State} (ev : Evolves s0 s) (acc : Acc) (val : W32) : Outcome.Evolves s0
    (execPfmGauMark acc val s) := by
  unfold execPfmGauMark
  try dsimp only
  simp +contextual (maxDischargeDepth := 99) only [↓ev, ↓State.regWrite_evolves]

theorem execPfmGauCfgw_evolves {s0 s : State} (ev : Evolves s0 s) (acc : Acc) (val : W32) : Outcome.Evolves s0
    (execPfmGauCfgw acc val s) := by
  unfold execPfmGauCfgw
  try dsimp only
  simp +contextual (maxDischargeDepth := 99) only [↓ev, ↓State.regWrite_evolves]

theorem execDbgUnlock_evolves {s0 s : State} (ev : Evolves s0 s) (acc : Acc) : Outcome.Evolves s0 (execDbgUnlock acc
    s) := by
  unfold execDbgUnlock
  try dsimp only
  simp +contextual (maxDischargeDepth := 99) only [↓ev, ↓State.regWrite_evolves]

theorem execDbgLock_evolves {s0 s : State} (ev : Evolves s0 s) (acc : Acc) (both : Bool) : Outcome.Evolves s0
    (execDbgLock acc both s) := by
  unfold execDbgLock
  try dsimp only
  simp +contextual (maxDischargeDepth := 99) only [↓ev, ↓State.regWrite_evolves]

theorem execPartitionReset_evolves {s0 s : State} (ev : Evolves s0 s) (acc : Acc) (p : BitVec 5) : Outcome.Evolves
    s0 (execPartitionReset acc p s) := by
  unfold execPartitionReset
  try dsimp only
  simp +contextual (maxDischargeDepth := 99) only [↓ev, ↓State.regWrite_evolves]

theorem execCulvertPortReset_evolves {s0 s : State} (ev : Evolves s0 s) (acc : Acc) (port : BitVec 3) :
    Outcome.Evolves s0 (execCulvertPortReset acc port s) := by
  unfold execCulvertPortReset
  try dsimp only
  simp +contextual (maxDischargeDepth := 99) only [↓ev, ↓State.regWrite_evolves]

theorem execPumpChannelReset_evolves {s0 s : State} (ev : Evolves s0 s) (acc : Acc) (c : BitVec 6) : Outcome.Evolves
    s0 (execPumpChannelReset acc c s) := by
  unfold execPumpChannelReset
  try dsimp only
  simp +contextual (maxDischargeDepth := 99) only [↓ev, ↓State.regWrite_evolves]

theorem execCommit_evolves {s0 s : State} (ev : Evolves s0 s) (acc : Acc) : Outcome.Evolves s0 (execCommit acc s) :=
    by
  unfold execCommit
  try dsimp only
  simp +contextual (maxDischargeDepth := 99) only [↓ev, ↓State.regWrite_evolves]

theorem execReload_evolves {s0 s : State} (ev : Evolves s0 s) (acc : Acc) : Outcome.Evolves s0 (execReload acc s) :=
    by
  unfold execReload
  try dsimp only
  simp +contextual (maxDischargeDepth := 99) only [↓ev, ↓State.regWrite_evolves]

theorem State.chanAccess_evolves {s0 s : State} (ev : Evolves s0 s) (i : Instr) (acc : Acc) (win : Bool) (c page own
    v : Nat) : Outcome.Evolves s0 (State.chanAccess s i acc win c page own v) := by
  unfold State.chanAccess
  try dsimp only
  simp +contextual (maxDischargeDepth := 99) only [↓ev, ↓Outcome.evolves_ite, ↓Outcome.evolves_next,
      ↓State.regWrite_evolves]

theorem execHeadWrite_evolves {s0 s : State} (ev : Evolves s0 s) (acc : Acc) (win : Bool) (c : BitVec 6) (val : W32)
    : Outcome.Evolves s0 (execHeadWrite acc win c val s) := by
  unfold execHeadWrite
  try dsimp only
  simp +contextual (maxDischargeDepth := 99) only [↓ev, ↓State.chanAccess_evolves]

theorem execAdd_evolves {s0 s : State} (ev : Evolves s0 s) (acc : Acc) (win : Bool) (c : BitVec 6) (n : BitVec 16) :
    Outcome.Evolves s0 (execAdd acc win c n s) := by
  unfold execAdd
  try dsimp only
  simp +contextual (maxDischargeDepth := 99) only [↓ev, ↓State.chanAccess_evolves]

theorem execAbort_evolves {s0 s : State} (ev : Evolves s0 s) (acc : Acc) (win : Bool) (c : BitVec 6) :
    Outcome.Evolves s0 (execAbort acc win c s) := by
  unfold execAbort
  try dsimp only
  simp +contextual (maxDischargeDepth := 99) only [↓ev, ↓State.chanAccess_evolves]

theorem execRestore_evolves {s0 s : State} (ev : Evolves s0 s) (acc : Acc) (p : BitVec 5) (area : RestoreWord) :
    Outcome.Evolves s0 (execRestore acc p area s) := by
  unfold execRestore
  try dsimp only
  (repeat' split) <;> simp +contextual (maxDischargeDepth := 99) only [↓ev, ↓Outcome.evolves_next,
      ↓State.crossing_evolves, ↓State.emit_evolves, ↓State.holdAccess_evolves, ↓State.settle_evolves,
      ↓State.snapCtrl_evolves]

theorem execBlockReset_evolves {s0 s : State} (ev : Evolves s0 s) (src : ResetSrc) : Outcome.Evolves s0
    (execBlockReset src s) := by
  unfold execBlockReset
  try dsimp only
  (repeat' split) <;> simp +contextual (maxDischargeDepth := 99) only [↓ev, ↓Outcome.evolves_next,
      ↓State.blockPin_evolves, ↓State.regWrite_evolves]

theorem execFunctionReset_evolves {s0 s : State} (ev : Evolves s0 s) (src : ResetSrc) (f : BitVec 8) :
    Outcome.Evolves s0 (execFunctionReset src f s) := by
  unfold execFunctionReset
  try dsimp only
  (repeat' split) <;> simp +contextual (maxDischargeDepth := 99) only [↓ev, ↓Outcome.evolves_next,
      ↓State.flr_evolves, ↓State.regWrite_evolves]

theorem execTapReset_evolves {s0 s : State} (ev : Evolves s0 s) (src : ResetSrc) (tap : BitVec 12) : Outcome.Evolves
    s0 (execTapReset src tap s) := by
  unfold execTapReset
  try dsimp only
  (repeat' split) <;> simp +contextual (maxDischargeDepth := 99) only [↓ev, ↓Outcome.evolves_next,
      ↓State.regWrite_evolves, ↓State.tapPin_evolves]

theorem execRegisterWrite_evolves {s0 s : State} (ev : Evolves s0 s) (acc : Acc) (off : BitVec 21) (size : BitVec 2)
    (val : W32) : Outcome.Evolves s0 (execRegisterWrite acc off size val s) := by
  unfold execRegisterWrite
  try dsimp only
  simp +contextual (maxDischargeDepth := 99) only [↓ev, ↓State.regWrite_evolves]

theorem execLoReadCapture_evolves {s0 s : State} (ev : Evolves s0 s) (acc : Acc) (off : ReadAddr)
    : Outcome.Evolves s0 (execLoReadCapture acc off s) := by
  unfold execLoReadCapture
  try dsimp only
  simp +contextual (maxDischargeDepth := 99) only [↓ev, ↓State.readAccess_evolves]

/-! ## Every command -/

/-- A command keeps the build, the queue and the invariant. -/
theorem exec_evolves (i : Instr) (s : State) : Outcome.Evolves s (exec i s) := by
  have ev := Evolves.refl s
  cases i
  case gridTickBoundary => apply execGridTickBoundary_evolves; exact ev
  case gridSlotBoundary => apply execGridSlotBoundary_evolves; exact ev
  case partitionSlotBoundary => apply execPartitionSlotBoundary_evolves; exact ev
  case tbLoad => apply execTbLoad_evolves; exact ev
  case gridStart => apply execGridStart_evolves; exact ev
  case gridStop => apply execGridStop_evolves; exact ev
  case tickMark => apply execTickMark_evolves; exact ev
  case tickMarkWatchdogExpiry => apply execTickMarkWatchdogExpiry_evolves; exact ev
  case stretchCapExpiry => apply execStretchCapExpiry_evolves; exact ev
  case fctl => apply execFctl_evolves; exact ev
  case timeRequestTimer => apply execTimeRequestTimer_evolves; exact ev
  case timeRequest => apply execTimeRequest_evolves; exact ev
  case timeAnswer => apply execTimeAnswer_evolves; exact ev
  case arrive => apply execArrive_evolves; exact ev
  case arriveN => apply execArriveN_evolves; exact ev
  case postCount => apply execPostCount_evolves; exact ev
  case reduceInto => apply execReduceInto_evolves; exact ev
  case creditReturn => apply execCreditReturn_evolves; exact ev
  case poll => apply execPoll_evolves; exact ev
  case pollWindowClose => apply execPollWindowClose_evolves; exact ev
  case arm => apply execArm_evolves; exact ev
  case clear => apply execClear_evolves; exact ev
  case fence => apply execFence_evolves; exact ev
  case unfence => apply execUnfence_evolves; exact ev
  case read => apply execRead_evolves; exact ev
  case semAdd => apply execSemAdd_evolves; exact ev
  case testAndSet => apply execTestAndSet_evolves; exact ev
  case cas => apply execCas_evolves; exact ev
  case swap => apply execSwap_evolves; exact ev
  case incSat => apply execIncSat_evolves; exact ev
  case maxInto => apply execMaxInto_evolves; exact ev
  case minInto => apply execMinInto_evolves; exact ev
  case spillwayFillDone => apply execSpillwayFillDone_evolves; exact ev
  case spillwayWriteBackDone => apply execSpillwayWriteBackDone_evolves; exact ev
  case spillMissTimeout => apply execSpillMissTimeout_evolves; exact ev
  case cstAllocationWrite => apply execCstAllocationWrite_evolves; exact ev
  case allocationInitDone => apply execAllocationInitDone_evolves; exact ev
  case scrubWordDue => apply execScrubWordDue_evolves; exact ev
  case scrubRead => apply execScrubRead_evolves; exact ev
  case scrubPeriodEnd => apply execScrubPeriodEnd_evolves; exact ev
  case schedLoad => apply execSchedLoad_evolves; exact ev
  case imageLoadDone => apply execImageLoadDone_evolves; exact ev
  case rowStaging => apply execRowStaging_evolves; exact ev
  case rowReadDone => apply execRowReadDone_evolves; exact ev
  case swapStrobe => apply execSwapStrobe_evolves; exact ev
  case bindSampleReturn => apply execBindSampleReturn_evolves; exact ev
  case rowArm => apply execRowArm_evolves; exact ev
  case bind => apply execBind_evolves; exact ev
  case releaseAt => apply execReleaseAt_evolves; exact ev
  case check => apply execCheck_evolves; exact ev
  case snapshotRow => apply execSnapshotRow_evolves; exact ev
  case tapArrive => apply execTapArrive_evolves; exact ev
  case tapArriveN => apply execTapArriveN_evolves; exact ev
  case tapReduce => apply execTapReduce_evolves; exact ev
  case payloadCombine => apply execPayloadCombine_evolves; exact ev
  case spFenceWrite => apply execSpFenceWrite_evolves; exact ev
  case pairMiscompare => apply execPairMiscompare_evolves; exact ev
  case leafSelfCheckFailure => apply execLeafSelfCheckFailure_evolves; exact ev
  case releaseIssue => apply execReleaseIssue_evolves; exact ev
  case holdToFifo => apply execHoldToFifo_evolves; exact ev
  case releaseTake => apply execReleaseTake_evolves; exact ev
  case reportCycle => apply execReportCycle_evolves; exact ev
  case spBmodeWrite => apply execSpBmodeWrite_evolves; exact ev
  case grantMessage => apply execGrantMessage_evolves; exact ev
  case creditGrantPlace => apply execCreditGrantPlace_evolves; exact ev
  case hgCredClr => apply execHgCredClr_evolves; exact ev
  case creditWindowWrite => apply execCreditWindowWrite_evolves; exact ev
  case hgQuotaWrite => apply execHgQuotaWrite_evolves; exact ev
  case force => apply execForce_evolves; exact ev
  case freeingPassStart => apply execFreeingPassStart_evolves; exact ev
  case freeingPassEnd => apply execFreeingPassEnd_evolves; exact ev
  case rnotice => apply execRnotice_evolves; exact ev
  case wellForwardTimeout => apply execWellForwardTimeout_evolves; exact ev
  case wellRightsWrite => apply execWellRightsWrite_evolves; exact ev
  case groupInitialisation => apply execGroupInitialisation_evolves; exact ev
  case groupInitDone => apply execGroupInitDone_evolves; exact ev
  case laneLock => apply execLaneLock_evolves; exact ev
  case laneLockLoss => apply execLaneLockLoss_evolves; exact ev
  case downTimerExpiry => apply execDownTimerExpiry_evolves; exact ev
  case ackTimeout => apply execAckTimeout_evolves; exact ev
  case linkGraceExpiry => apply execLinkGraceExpiry_evolves; exact ev
  case trainFlit => apply execTrainFlit_evolves; exact ev
  case idleFlit => apply execIdleFlit_evolves; exact ev
  case normalFlit => apply execNormalFlit_evolves; exact ev
  case nak => apply execNak_evolves; exact ev
  case ctrlReq => apply execCtrlReq_evolves; exact ev
  case ctrlRsp => apply execCtrlRsp_evolves; exact ev
  case fwd => apply execFwd_evolves; exact ev
  case farrive => apply execFarrive_evolves; exact ev
  case member => apply execMember_evolves; exact ev
  case culJoin => apply execCulJoin_evolves; exact ev
  case cisternForwardTimeout => apply execCisternForwardTimeout_evolves; exact ev
  case fabricChannelWrite => apply execFabricChannelWrite_evolves; exact ev
  case remoteReleaseWrite => apply execRemoteReleaseWrite_evolves; exact ev
  case snapshotBlockCopy => apply execSnapshotBlockCopy_evolves; exact ev
  case snapshotComplete => apply execSnapshotComplete_evolves; exact ev
  case restore => apply execRestore_evolves; exact ev
  case restoreDone => apply execRestoreDone_evolves; exact ev
  case partitionStart => apply execPartitionStart_evolves; exact ev
  case partitionQuiesce => apply execPartitionQuiesce_evolves; exact ev
  case partitionAbort => apply execPartitionAbort_evolves; exact ev
  case drained => apply execDrained_evolves; exact ev
  case quiesceTimeout => apply execQuiesceTimeout_evolves; exact ev
  case partitionResourceWrite => apply execPartitionResourceWrite_evolves; exact ev
  case functionConfigWrite => apply execFunctionConfigWrite_evolves; exact ev
  case doorbellReadDone => apply execDoorbellReadDone_evolves; exact ev
  case dqKick => apply execDqKick_evolves; exact ev
  case commandFetch => apply execCommandFetch_evolves; exact ev
  case commandReadDone => apply execCommandReadDone_evolves; exact ev
  case nop => apply execNop_evolves; exact ev
  case armCommand => apply execArmCommand_evolves; exact ev
  case post => apply execPost_evolves; exact ev
  case reduceFromHost => apply execReduceFromHost_evolves; exact ev
  case payloadReadDone => apply execPayloadReadDone_evolves; exact ev
  case wait => apply execWait_evolves; exact ev
  case semRead => apply execSemRead_evolves; exact ev
  case semAddCommand => apply execSemAddCommand_evolves; exact ev
  case lockCas => apply execLockCas_evolves; exact ev
  case lockSwap => apply execLockSwap_evolves; exact ev
  case claim => apply execClaim_evolves; exact ev
  case lockRelease => apply execLockRelease_evolves; exact ev
  case clrab => apply execClrab_evolves; exact ev
  case snapshot => apply execSnapshot_evolves; exact ev
  case completionWriteDone => apply execCompletionWriteDone_evolves; exact ev
  case holdoffExpiry => apply execHoldoffExpiry_evolves; exact ev
  case vmaskWrite => apply execVmaskWrite_evolves; exact ev
  case queueEnable => apply execQueueEnable_evolves; exact ev
  case queueDisable => apply execQueueDisable_evolves; exact ev
  case faultEntryWriteDone => apply execFaultEntryWriteDone_evolves; exact ev
  case channelEnable => apply execChannelEnable_evolves; exact ev
  case channelDisable => apply execChannelDisable_evolves; exact ev
  case headWrite => apply execHeadWrite_evolves; exact ev
  case add => apply execAdd_evolves; exact ev
  case abort => apply execAbort_evolves; exact ev
  case descriptorRead => apply execDescriptorRead_evolves; exact ev
  case descriptorReadDone => apply execDescriptorReadDone_evolves; exact ev
  case burstReadIssue => apply execBurstReadIssue_evolves; exact ev
  case burstReadDone => apply execBurstReadDone_evolves; exact ev
  case burstWriteDone => apply execBurstWriteDone_evolves; exact ev
  case descriptorWriteBackDone => apply execDescriptorWriteBackDone_evolves; exact ev
  case opIssue => apply execOpIssue_evolves; exact ev
  case opResponse => apply execOpResponse_evolves; exact ev
  case rateWindowStart => apply execRateWindowStart_evolves; exact ev
  case channelQuiet => apply execChannelQuiet_evolves; exact ev
  case pumpResume => apply execPumpResume_evolves; exact ev
  case pumpResumeEffect => apply execPumpResumeEffect_evolves; exact ev
  case sumpConfigWrite => apply execSumpConfigWrite_evolves; exact ev
  case counterClear => apply execCounterClear_evolves; exact ev
  case tclkWindow => apply execTclkWindow_evolves; exact ev
  case tapBreak => apply execTapBreak_evolves; exact ev
  case haltCommand => apply execHaltCommand_evolves; exact ev
  case resumeCommand => apply execResumeCommand_evolves; exact ev
  case stop => apply execStop_evolves; exact ev
  case start => apply execStart_evolves; exact ev
  case haltToken => apply execHaltToken_evolves; exact ev
  case resumeToken => apply execResumeToken_evolves; exact ev
  case stopCut => apply execStopCut_evolves; exact ev
  case dumpTensor => apply execDumpTensor_evolves; exact ev
  case dumpDone => apply execDumpDone_evolves; exact ev
  case deltaTimer => apply execDeltaTimer_evolves; exact ev
  case statusWord => apply execStatusWord_evolves; exact ev
  case reportFrame => apply execReportFrame_evolves; exact ev
  case pfmGauMark => apply execPfmGauMark_evolves; exact ev
  case pfmGauCfgw => apply execPfmGauCfgw_evolves; exact ev
  case deltaFrame => apply execDeltaFrame_evolves; exact ev
  case markFrame => apply execMarkFrame_evolves; exact ev
  case configFrame => apply execConfigFrame_evolves; exact ev
  case dbgUnlock => apply execDbgUnlock_evolves; exact ev
  case dbgLock => apply execDbgLock_evolves; exact ev
  case gaugePowerUp => apply execGaugePowerUp_evolves; exact ev
  case gauPwrfail => apply execGauPwrfail_evolves; exact ev
  case interval => apply execInterval_evolves; exact ev
  case sealOpen => apply execSealOpen_evolves; exact ev
  case sealClose => apply execSealClose_evolves; exact ev
  case presenceWindowOpen => apply execPresenceWindowOpen_evolves; exact ev
  case presenceWindowClose => apply execPresenceWindowClose_evolves; exact ev
  case presStuck => apply execPresStuck_evolves; exact ev
  case readId => apply execReadId_evolves; exact ev
  case readRegs => apply execReadRegs_evolves; exact ev
  case readLog => apply execReadLog_evolves; exact ev
  case linkUpTimeout => apply execLinkUpTimeout_evolves; exact ev
  case clockLoss => apply execClockLoss_evolves; exact ev
  case powerOnReset => apply execPowerOnReset_evolves; exact ev
  case blockReset => apply execBlockReset_evolves; exact ev
  case blockInitDone => apply execBlockInitDone_evolves; exact ev
  case partitionReset => apply execPartitionReset_evolves; exact ev
  case functionReset => apply execFunctionReset_evolves; exact ev
  case tapReset => apply execTapReset_evolves; exact ev
  case culvertPortReset => apply execCulvertPortReset_evolves; exact ev
  case pumpChannelReset => apply execPumpChannelReset_evolves; exact ev
  case wakeTimer => apply execWakeTimer_evolves; exact ev
  case wakeDone => apply execWakeDone_evolves; exact ev
  case commit => apply execCommit_evolves; exact ev
  case configRewriteDone => apply execConfigRewriteDone_evolves; exact ev
  case reload => apply execReload_evolves; exact ev
  case registerWrite => apply execRegisterWrite_evolves; exact ev
  case poRstNAssertion => apply execPoRstNAssertion_evolves; exact ev
  case blkRstNRelease => apply execBlkRstNRelease_evolves; exact ev
  case tapRstNRelease => apply execTapRstNRelease_evolves; exact ev
  case tpReadyReturn => apply execTpReadyReturn_evolves; exact ev
  case recordLoadDone => apply execRecordLoadDone_evolves; exact ev
  case clockReturn => apply execClockReturn_evolves; exact ev
  case timeEstimateAged => apply execTimeEstimateAged_evolves; exact ev
  case haltSeenEntryRetire => apply execHaltSeenEntryRetire_evolves; exact ev
  case scoreboardRecordWriteDone => apply execScoreboardRecordWriteDone_evolves; exact ev
  case loReadCapture => apply execLoReadCapture_evolves; exact ev
  case cfgJmpChange => apply execCfgJmpChange_evolves; exact ev

end Sys2Proof.Machine
end

