-- ==== Sys2Proof/Tests/Slice0.lean ====
section
/-! SUPPORT. The model's own tests: an ill-formed command for each check of well-formedness, witnesses that the hypotheses of
each statement are met together, and single steps against what the spec states. -/

open Sys2Proof Sys2Proof.Machine

set_option Elab.async false

namespace Sys2Proof.Tests

/-! ## Checks that give the structures of Safety.lean -/

/-- The stores of `s` are in canonical form and its power state is legal. -/
def invB (s : State) : Bool :=
  regsWf s.regs
    && (twf {} s.cst.ent && twf 0 s.cst.basins && twf {} s.cst.lanes && twf 0 s.cst.rl && twf 0 s.cst.err
      && twf false s.cst.bad && twf false s.cst.badBasin && twf 0 s.cst.tags)
    && (twf freeWell s.wel.w && twf false s.wel.poison) && decide (s.rst.kst ≤ 3)
    && (twf none s.pipe.act && twf none s.pipe.shadow && twf {} s.pipe.taps && twf {} s.pipe.leafs && twf {} s.pipe.grants)
    && twf {} s.cul.ports && twf {} s.pump.chans && (twf {} s.obs.sumps && twf none s.obs.dumps) && twf 0 s.glink.delta
    && twf {} s.parts && twf {} s.fns && twf {} s.holds

/-- Nothing is due in `s` (State.Calm). -/
def calmB (s : State) : Bool :=
  invB s && s.cul.done.isEmpty && s.cst.next.isEmpty && s.cst.hold.isEmpty && s.cst.fills.isEmpty
    && s.parts.all (fun e => !e.2.late) && s.wel.notices.isEmpty && decide (s.pipe.notices.length < 1024)
    && s.parts.all (fun e => e.2.snap.isNone)

/-- Nothing is due but what a snapshot copies (State.Still). -/
def stillB (s : State) : Bool :=
  s.cul.done.isEmpty && s.cst.next.isEmpty && s.cst.hold.isEmpty && s.cst.fills.isEmpty && s.parts.all (fun e => !e.2.late)
    && s.wel.notices.isEmpty

/-- `s` runs and is calm (State.Ready). -/
def readyB (s : State) : Bool :=
  s.up && decide (s.rst.kst = 0) && !s.clk.lostC && !s.clk.lostM && calmB s && !s.held.any isCnp

theorem inv_of {s : State} (h : invB s = true) : s.Inv := by
  simp only [invB, Bool.and_eq_true, decide_eq_true_eq] at h
  constructor <;> simp_all [Cst.Wf, Wel.Wf, Rst.Wf, Pipe.Wf, Cul.Wf, Pump.Wf, Obs.Wf, GLink.Wf]

theorem calm_of {s : State} (h : calmB s = true) : s.Calm := by
  simp only [calmB, Bool.and_eq_true, decide_eq_true_eq, List.isEmpty_iff] at h
  obtain ⟨⟨⟨⟨⟨⟨⟨⟨a, b⟩, c⟩, d⟩, e⟩, f⟩, g⟩, i⟩, j⟩ := h
  exact ⟨inv_of a, b, c, d, e, f, g, i, j⟩

theorem ready_of {s : State} (h : readyB s = true) : s.Ready := by
  simp only [readyB, Bool.and_eq_true, decide_eq_true_eq, Bool.not_eq_true'] at h
  obtain ⟨⟨⟨⟨⟨a, b⟩, c⟩, d⟩, e⟩, f⟩ := h
  exact ⟨a, b, c, d, calm_of e, f⟩

theorem reached_of {s : State} {acc : Acc} {off : Nat} (h : (calmB s && decide (s.regGate acc off true = .answered)) = true) :
    Reached s acc off := by
  simp only [Bool.and_eq_true, decide_eq_true_eq] at h
  exact ⟨calm_of h.1, h.2⟩

/-- The conditions of HoldsEntry. -/
abbrev EntryC (s : State) (p c n : Nat) : Prop :=
  s.proxyOf p c = (none, false) ∧ s.holdsCnum p c = true ∧ s.initBusy 0 (n / 4096) = false
    ∧ s.active p = true ∧ s.slotOf p c = some n ∧ tget false s.cst.bad n = false
    ∧ tget 0 s.cst.err (errKey 0 n) = 0 ∧ (s.entry n).sound p = true

/-- The conditions of HoldsWord. -/
abbrev WordC (s : State) (p i : Nat) : Prop :=
  i % 32 = 0 ∧ s.holdsBasin p (bits i 23 8) = true ∧ bits i 23 8 ≠ 0xFFFF ∧ s.initBusy 1 (bits i 23 8 / 64) = false
    ∧ s.active p = true ∧ tget false s.cst.badBasin (bits i 23 8) = false
    ∧ tget 0 s.cst.err (errKey 1 (4 * bits i 23 8 + bits i 7 5 / 2)) = 0

theorem entry_of {s : State} {p c n : Nat} (h : EntryC s p c n) : HoldsEntry s p c n := by
  obtain ⟨a, b, c, d, e, f, g, i⟩ := h
  exact ⟨a, b, c, d, e, f, g, i⟩

theorem word_of {s : State} {p i : Nat} (h : WordC s p i) : HoldsWord s p i := by
  obtain ⟨a, b, c, d, e, f, g⟩ := h
  exact ⟨a, b, c, d, e, f, g⟩

theorem serves_of {s : State} {q : CnpReq} {p n : Nat}
    (h : EntryC s p q.index.toNat n ∧ readyB s = true ∧ q.code = none ∧ q.rsv = 0 ∧ q.space = 0 ∧ s.reqPart q = some p) :
    Serves s q p n :=
  ⟨entry_of h.1, ready_of h.2.1, h.2.2.1, h.2.2.2.1, h.2.2.2.2.1, h.2.2.2.2.2⟩

theorem servesWord_of {s : State} {q : CnpReq} {p : Nat}
    (h : WordC s p q.index.toNat ∧ readyB s = true ∧ q.code = none ∧ q.rsv = 0 ∧ q.space = 1 ∧ s.reqPart q = some p) :
    ServesWord s q p :=
  ⟨word_of h.1, ready_of h.2.1, h.2.2.1, h.2.2.2.1, h.2.2.2.2.1, h.2.2.2.2.2⟩

theorem servesWell_of {s : State} {q : CnpReq} {p : Nat}
    (h : readyB s = true ∧ q.code = none ∧ q.rsv = 0 ∧ q.space = 2 ∧ (q.index.toNat % 256 = 0 ∧ q.gen = 0)
      ∧ s.reqPart q = some p ∧ s.flag (R.welGcfg (bits q.index.toNat 23 8 / 64)) 31 = false
      ∧ s.freeing s.chip (s.masterId q.master.toNat) = false ∧ s.wellBad (bits q.index.toNat 23 8) = false
      ∧ tget 0 s.cst.err (errKey 3 (wellIdx (bits q.index.toNat 23 8))) = 0) : ServesWell s q p := by
  obtain ⟨a, x, b, c, d, e, f, g, i, j⟩ := h
  exact ⟨ready_of a, x, b, c, d, e, f, g, i, j⟩

theorem tap_of {s : State} {tap : BitVec 12} {c : Cnum} {x : Bind}
    (h : readyB s = true ∧ s.tapReady tap.toNat = true ∧ s.tapWaits tap.toNat = false ∧ s.fenced tap.toNat = false
      ∧ s.leafEntry tap.toNat c.toNat = some x ∧ x.fset.contains (tap.toNat / 4) = false) : TapServes s tap c x := by
  obtain ⟨a, b, c, d, e, f⟩ := h
  exact ⟨ready_of a, b, c, d, e, f⟩

theorem due_of {s : State} {p : BitVec 5} {r : Staged}
    (h : calmB s = true ∧ s.dueRow p.toNat = some r ∧ (s.prt p.toNat).closing = none) : RowDue s p r :=
  ⟨calm_of h.1, h.2.1, h.2.2⟩

theorem row_of {s : State} {p : BitVec 5} {r : Staged} {n : Nat}
    (h : (calmB s = true ∧ s.dueRow p.toNat = some r ∧ (s.prt p.toNat).closing = none) ∧ s.slotOf p.toNat r.row.cnum = some n ∧ tget false s.cst.bad n = false
      ∧ tget 0 s.cst.err (errKey 0 n) = 0 ∧ (s.entry n).sound p.toNat = true ∧ s.tagged p.toNat r.row.cnum = none) :
    RowServes s p r n := by
  obtain ⟨a, b, c, d, e, f⟩ := h
  exact ⟨due_of a, b, c, d, e, f⟩

theorem host_of {s : State} {f : Nat} {c : Cmd} {opc : Nat}
    (h : readyB s = true ∧ s.fnRuns f = true ∧ (s.fn f).cmds.head? = some c ∧ c.order = false ∧ c.opc = opc
      ∧ (s.fn f).findFlight c.cidx = none ∧ (s.fn f).findWait c.cidx = none) : HostServes s f c opc := by
  obtain ⟨a, b, c, d, e, f, g⟩ := h
  exact ⟨ready_of a, b, c, fun x => by simp_all, e, f, g⟩

theorem well_of {s : State} {f : Nat} {c : Cmd}
    (h : s.flag (R.welGcfg (c.well / 64)) 31 = false
      ∧ (f = 0 ∨ (s.reg (R.welGacq (c.well / 64))).testBit (s.cmdPart f c) = true)
      ∧ s.freeing s.chip (0x1000 + f) = false ∧ s.wellBad c.well = false ∧ tget 0 s.cst.err (errKey 3 (wellIdx c.well)) = 0
      ∧ cleanWell (s.well c.well) = s.well c.well) : HostWell s f c := by
  obtain ⟨a, b, c, d, e, f⟩ := h
  exact ⟨a, b, c, d, e, f⟩

/-! ## A small state -/

/-- Function 0 of the debug port, and function 1. -/
def A0 : Acc := { dbg := false, func := 0 }
def A1 : Acc := { dbg := false, func := 1 }

/-- A register window from numerals. -/
def rt (l : List (Nat × Nat)) : Tab W32 := l.map (fun e => (e.1, BitVec.ofNat 32 e.2))

/-- A die that runs: partition 0 is in RUN and holds a unit of cisterns, of basins and of each list store, and 32 taps. -/
def boot : State := { regs := rt [(0x8, 32 * 65536), (0x10, 1), (0x2400, 2 ^ 32 - 1), (0x10004, 2), (0x10014, 2 ^ 31 + 32),
  (0x10080, 65536), (0x10098, 65536), (0x1009c, 65536), (0x100a0, 65536), (0x20040, 2 ^ 31 + 8), (0x60000, 1)] }

/-- A request of master `m` on attach 0. -/
def q (idx gen a b : Nat) (m : Nat := 0) (sp : Nat := 0) : CnpReq :=
  { attach := 0, space := BitVec.ofNat 2 sp, resp := true, tag := 5, master := BitVec.ofNat 13 m, index := BitVec.ofNat 24 idx,
    gen := BitVec.ofNat 16 gen, rsv := 0, a := BitVec.ofNat 64 a, b := BitVec.ofNat 64 b }

/-- `s` with entry `e` in slot `n`. -/
def ent (s : State) (n : Nat) (e : Cistern) : State := { s with cst := { s.cst with ent := tset {} s.cst.ent n e } }

/-- A BARRIER cistern of generation 7, ARMED, with COUNT 2 of 5. -/
def e1 : Cistern := { kind := 1, gen := 7, target := 5, count := 2, status := 1, basin := 0xFFFF, rlist := 3 }

/-- The next state of an outcome. -/
def nx : Host.Outcome State Fault Refusal → State
  | .next s => s
  | _ => {}

def isNext : Host.Outcome State Fault Refusal → Bool
  | .next _ => true
  | _ => false

theorem next_of {o : Host.Outcome State Fault Refusal} (h : isNext o = true) : o = .next (nx o) := by
  cases o <;> simp_all [isNext, nx]

/-! ## Witnesses: the banks -/

/-- One entry in slot 3, which is cistern 3 of partition 0. -/
abbrev se (e : Cistern) : State := ent boot 3 e

/-- A request on cistern 3 that names generation 7. -/
abbrev q3 (a : Nat) : CnpReq := q 3 7 a 0

theorem witness_StepRunsTheFrontCommand : boot.pending = [] := by decide +kernel

theorem witness_ArrivalsCountAndComplete :
    (let s := se { e1 with count := 3 };
      Serves s (q3 0) 0 3 ∧ (s.entry 3).status = stArmed ∧ (s.entry 3).kind = kBarrier ∧ s.tagged 0 3 = none
        ∧ (q3 0).gen = (s.entry 3).gen ∧ (s.entry 3).count.toNat + 1 < (s.entry 3).target.toNat)
    ∧ (let s := se { e1 with kind := 4 };
      Serves s (q3 2) 0 3 ∧ (s.entry 3).status = stArmed ∧ (s.entry 3).kind = kEvent ∧ s.tagged 0 3 = none
        ∧ (q3 2).gen = (s.entry 3).gen ∧ bits (q3 2).a.toNat 19 0 = 2
        ∧ (s.entry 3).count.toNat + 2 < (s.entry 3).target.toNat)
    ∧ (let s := se { e1 with count := 4 };
      Serves s (q3 0) 0 3 ∧ (s.entry 3).status = stArmed ∧ (s.entry 3).kind = kBarrier ∧ s.tagged 0 3 = none
        ∧ (s.entry 3).count.toNat + 1 = (s.entry 3).target.toNat ∧ s.remotes 0 3 = []
        ∧ s.dumpMatch 0 (s.entry 3).layer.toNat (s.entry 3).oper.toNat = none
        ∧ (List.range 64).all (fun c => !s.fchEn c) = true) :=
  ⟨⟨serves_of (by decide +kernel), by decide +kernel⟩, ⟨serves_of (by decide +kernel), by decide +kernel⟩,
    ⟨serves_of (by decide +kernel), by decide +kernel⟩⟩

/-- An ACTIVE grant entry 3 for cistern 3, with a window of one unit for partition 0. -/
abbrev withGrant (s : State) (st : Nat) : State :=
  ((s.setReg (R.hgPcredFirst 0) 0).setReg (R.hgPcredUnits 0) 65536).setGrant 3 { state := st, gen := 7, owed := 2 }

theorem witness_PostAddsAndReturnTakes :
    (let s := se { e1 with kind := 2, basin := 2, target := 1048571 };
      Serves s (q3 4) 0 3 ∧ bits (q3 4).a.toNat 19 0 = 4 ∧ (s.entry 3).status = stArmed ∧ (q3 4).gen = (s.entry 3).gen
        ∧ (s.entry 3).kind = kCount ∧ 1 < (s.entry 3).basin.toNat ∧ (s.entry 3).target.toNat + 4 = 1048575
        ∧ s.tagged 0 3 = none)
    ∧ (let s := se { e1 with kind := 3, count := 4 };
      Serves s (q3 4) 0 3 ∧ (s.entry 3).status = stArmed ∧ (s.entry 3).kind = kCredit ∧ (s.entry 3).count.toNat = 4
        ∧ s.grantIdx 0 3 = none)
    ∧ (let s := withGrant (se { e1 with kind := 3, count := 4 }) 1;
      Serves s (q3 4) 0 3 ∧ (s.entry 3).status = stArmed ∧ (s.entry 3).kind = kCredit ∧ s.grantIdx 0 3 = some 3
        ∧ (s.grant 3).state = 1 ∧ (s.grant 3).owed.toNat + 4 < 2 ^ 20) :=
  ⟨⟨serves_of (by decide +kernel), by decide +kernel⟩, ⟨serves_of (by decide +kernel), by decide +kernel⟩,
    ⟨serves_of (by decide +kernel), by decide +kernel⟩⟩

/-- A REDUCE cistern whose chain basin is basin 3. -/
abbrev e5 : Cistern := { e1 with kind := 5, basin := 3 }

theorem witness_ReduceIntoCombinesLanes :
    let s := se { e5 with count := 3 };
    let q := q3 0xFFFF00;
    Serves s q 0 3 ∧ (s.entry 3).status = stArmed ∧ (s.entry 3).kind = kReduce ∧ q.gen = (s.entry 3).gen ∧ s.tagged 0 3 = none
      ∧ (s.entry 3).basin = 3 ∧ bits q.a.toNat 31 24 = (s.mode 3).rm ∧ bits q.a.toNat 5 0 < (s.mode 3).len
      ∧ s.holdsBasin 0 3 = true ∧ tget false s.cst.badBasin 3 = false ∧ (s.lanes 3).bad = false
      ∧ (∀ j, j < 4 → tget 0 s.cst.err (errKey 1 (4 * 3 + j)) = 0)
      ∧ (s.entry 3).count.toNat + 1 < (s.entry 3).target.toNat :=
  ⟨serves_of (by decide +kernel), by decide +kernel⟩

/-- ARM of cistern 3 as a BARRIER with TARGET 5. -/
abbrev qArm : CnpReq := q 3 7 (2 ^ 60 + 2 ^ 56 + 5 * 2 ^ 32 + 2 * 2 ^ 16 + 0xFFFF) 0x5003

theorem witness_ArmMakesTheCisternArmed : ∀ st ∈ [stIdle, stLate, stFault],
    let s := se { e1 with status := st };
    let e := s.entry 3;
    let d := ArmDef.of qArm.a qArm.b;
    let x := { d.inForce e with gen := e.gen + 1, count := 0, status := stArmed, part := BitVec.ofNat 5 0 };
    Serves s qArm 0 3 ∧ s.armCheck 0 3 d (d.inForce e) = none ∧ x.kind ≠ kCredit ∧ x.met = false := by
  intro st h
  simp only [List.mem_cons, List.not_mem_nil, or_false] at h
  obtain rfl | rfl | rfl := h <;> exact ⟨serves_of (by decide +kernel), by decide +kernel⟩

theorem witness_ClearFenceUnfenceSetStatus :
    (∀ st ∈ [stIdle, stArmed, stLate, stFault], let s := se { e1 with status := st }
      Serves s (q3 0) 0 3 ∧ (s.entry 3).kind ≠ kCredit ∧ (s.entry 3).status ≠ stDone ∧ (s.entry 3).status ≠ stFenced)
    ∧ (let s := se e1;
      let r := { q 3 7 0 0 0x1000 with part := some 0 };
      Serves s r 0 3 ∧ r.master = 0x1000 ∧ (s.entry 3).status ≠ stFenced ∧ s.tagged 0 3 = none)
    ∧ (let s := se { e1 with status := stFenced };
      let r := { q 3 7 0 0 0x1000 with part := some 0 };
      Serves s r 0 3 ∧ r.master = 0x1000 ∧ (s.entry 3).status = stFenced) := by
  refine ⟨fun st h => ?_, ⟨serves_of (by decide +kernel), by decide +kernel⟩, ⟨serves_of (by decide +kernel), by decide +kernel⟩⟩
  simp only [List.mem_cons, List.not_mem_nil, or_false] at h
  obtain rfl | rfl | rfl | rfl := h <;> exact ⟨serves_of (by decide +kernel), by decide +kernel⟩

theorem witness_PollsMergeInAWindow :
    (let s := se e1;
      Serves s (q3 0) 0 3 ∧ s.cst.polls.all (fun v => v.cnum != 3) = true ∧ s.cst.polls.length < 16)
    ∧ (let s := se e1;
      let w : PollWin := ⟨3, [s.reqOp (q3 0) Op.poll 0]⟩;
      let t : State := { s with cst := { s.cst with polls := [w] } };
      Serves t (q3 0) 0 3 ∧ t.cst.polls.find? (fun v => v.cnum == 3) = some w) :=
  ⟨⟨serves_of (by decide +kernel), by decide +kernel⟩, ⟨serves_of (by decide +kernel), by decide +kernel⟩⟩

/-- A request on word 3 of basin 5. -/
abbrev qw (a b : Nat) : CnpReq := q (5 * 256 + 3 * 32) 0 a b 0 1

theorem witness_WordOperationsWriteTheWord : ServesWord boot (qw 5 9) 0 := servesWord_of (by decide +kernel)

/-- `boot` with well `n` holding `v`. -/
abbrev sw (n : Nat) (v : W64) : State := { boot with wel := { boot.wel with w := tset freeWell boot.wel.w n v } }

theorem witness_WellOperationsFollowTransitions :
    (let s := sw 5 (wellWord ownerFree true 3);
      let q := q (5 * 256) 0 3 ((ownerOf s.chip (s.masterId 0)) * 2 ^ 39 + 2 ^ 38) 0 2;
      let w := s.well 5;
      let me := ownerOf s.chip (s.masterId q.master.toNat);
      ServesWell s q 0 ∧ cleanWell w = w ∧ (s.reg (R.welGacq 0)).testBit 0 = true
        ∧ wellOwner w = ownerFree ∧ wellOwner (cleanWell q.b) = me ∧ wellAband (cleanWell q.b) = wellAband w)
    ∧ (let s := sw 5 (wellWord (ownerOf boot.chip 0x1000) true 3);
      let q := { q (5 * 256) 0 (ownerFree * 2 ^ 39) 3 0x1000 2 with part := some 0 };
      let w := s.well 5;
      let me := ownerOf s.chip (s.masterId q.master.toNat);
      ServesWell s q 0 ∧ q.master = 0x1000 ∧ cleanWell w = w ∧ wellOwner w = me ∧ wellOwner (cleanWell q.a) = ownerFree
        ∧ wellAband (cleanWell q.a) = false)
    ∧ (let s := sw 5 (wellWord 77 true 3);
      let v := wellWord 77 true 9;
      let q := q (5 * 256) 0 v.toNat v.toNat 0 2;
      let w := s.well 5;
      ServesWell s q 0 ∧ cleanWell w = w ∧ (s.reg (R.welGacq 0)).testBit 0 = true ∧ wellOwner (cleanWell q.b) = wellOwner w
        ∧ wellAband (cleanWell q.b) = wellAband w ∧ wellOwner (cleanWell q.a) = wellOwner w) :=
  ⟨⟨servesWell_of (by decide +kernel), by decide +kernel⟩, ⟨servesWell_of (by decide +kernel), by decide +kernel⟩,
    ⟨servesWell_of (by decide +kernel), by decide +kernel⟩⟩

theorem witness_WellStaysWithItsOwner :
    let s := sw 5 (wellWord 77 true 3);
    let q := q (5 * 256) 0 77 9 0 2;
    s.Calm ∧ s.cst.err = [] ∧ exec (.swap q) s = .next (nx (exec (.swap q) s)) ∧ wellOwner (s.well 5) ≠ ownerFree
      ∧ wellOwner (s.well 5) ≠ ownerOf s.chip (s.masterId q.master.toNat) :=
  ⟨calm_of (by decide +kernel), by decide +kernel, next_of (by decide +kernel), by decide +kernel⟩

theorem witness_CreditReturnIsAppliedOrExcess :
    (let s := withGrant (se { e1 with kind := 3, count := 4 }) 1;
      Serves s (q3 4) 0 3 ∧ (s.entry 3).status = stArmed ∧ (s.entry 3).kind = kCredit ∧ (q3 4).gen = (s.entry 3).gen
        ∧ bits (q3 4).a.toNat 19 0 = (s.entry 3).count.toNat)
    ∧ (let s := se { e1 with kind := 3, count := 4 };
      Serves s (q3 0) 0 3 ∧ (s.entry 3).status = stArmed ∧ (s.entry 3).kind = kCredit ∧ bits (q3 0).a.toNat 19 0 = 0)
    ∧ (let s := se { e1 with kind := 3, count := 4 };
      Serves s (q3 5) 0 3 ∧ (s.entry 3).status = stArmed ∧ (s.entry 3).kind = kCredit
        ∧ (s.entry 3).count.toNat + 1 = bits (q3 5).a.toNat 19 0) :=
  ⟨⟨serves_of (by decide +kernel), by decide +kernel⟩, ⟨serves_of (by decide +kernel), by decide +kernel⟩,
    ⟨serves_of (by decide +kernel), by decide +kernel⟩⟩

/-! ## Witnesses: the Spillway, the Standpipe and Headgate -/

/-- `boot` with two frames and eight spilled cisterns of partition 0. -/
abbrev sp : State := ((boot.setReg 0x10084 1).setReg 0x10090 0x200000).setReg 0x10094 8

/-- A fill under way in frame 4095. -/
abbrev fill : Fill := { part := 0, cnum := 0x200003, frame := 4095, reading := true }

theorem witness_SpillwayFillsAndWritesBack :
    (let s : State := { sp with cst := { sp.cst with fills := [fill] } };
      s.cst.fills = [fill] ∧ ({ s with cst := { s.cst with fills := [] } } : State).Calm ∧ s.pump.waits = []
        ∧ fill.reading = true ∧ (Cistern.unpack ({ e1 with spilled := true } : Cistern).pack).sound 0 = true ∧ s.cst.miss = [])
    ∧ (let x : Fill := { part := 0, cnum := 0x200003, frame := 4095, evicting := true };
      let c : Cst := { sp.cst with fills := [x], tags := [(4095, 0x200002)], ent := [(4095, e1)] };
      let s : State := { sp with
        cst := c, pump := { writes := [⟨.spill 0x200001, sp.imageAddr 0 0x200001, 16, none, true, 9⟩] } };
      s.cst.fills = [x] ∧ ({ s with cst := { s.cst with fills := [] } } : State).Calm ∧ x.reading = false ∧ x.failed = false
        ∧ s.clk.lostM = false ∧ s.pump.waits = [] ∧ s.pump.reads.length < 32
        ∧ s.pump.writes = [⟨.spill (tget 0 s.cst.tags 4095 - 1), s.imageAddr 0 (tget 0 s.cst.tags 4095 - 1), 16, none, true, 9⟩])
    ∧ (let o := sp.reqOp (q 0x200003 7 0 0) Op.arrive 0;
      let s : State := { sp with cst := { sp.cst with fills := [fill], miss := [.op o] } };
      s.cst.fills = [fill] ∧ ({ s with cst := { s.cst with fills := [] } } : State).Calm ∧ s.pump.waits = [] ∧ o.index = 0x200003
        ∧ o.part = some 0 ∧ o.origin = .cnp 0 5 0 true ∧ s.cst.miss = [.op o] ∧ fill.reading = true ∧ fill.failed = false) :=
  ⟨⟨rfl, calm_of (by decide +kernel), by decide +kernel⟩, ⟨rfl, calm_of (by decide +kernel), by decide +kernel⟩,
    ⟨rfl, calm_of (by decide +kernel), by decide +kernel⟩⟩

/-- A binding of channel 2 to cistern 3 through leaf 0. -/
abbrev bx : Bind := { part := 0, chan := 2, cnum := 3, plist := 1, layer := 5, oper := 6, last := 4, leaves := [(0, 15)],
                      mode := .normal, target := 5, tag := true }

/-- `boot` with binding `b` active. -/
abbrev bound (b : Bind) : State := { boot with pipe := { boot.pipe with act := [(b.chan, some b)] } }

theorem witness_TapArrivalsCountInTheChannel :
    (let x := { bx with static := 3 };
      let s := bound x;
      TapServes s 1 3 x ∧ x.chan < 16 ∧ s.act x.chan = some x ∧ x.mode = .normal ∧ x.static + 1 + x.side < x.target)
    ∧ (let x := { bx with static := 3, target := 11 };
      let s := bound x;
      TapServes s 1 3 x ∧ x.chan < 16 ∧ s.act x.chan = some x ∧ x.mode = .normal ∧ s.pipe.multi = []
        ∧ s.leafSum 0 x.chan + (7 : BitVec 22).toNat = 7 ∧ x.static + (7 : BitVec 22).toNat + x.side < x.target) :=
  ⟨⟨tap_of (by decide +kernel), by decide +kernel⟩, ⟨tap_of (by decide +kernel), by decide +kernel⟩⟩

theorem witness_TapRefusalsHaveNoEffect :
    (let s := bound bx;
      s.Ready ∧ s.tapReady 1 = true ∧ s.tapWaits 1 = false ∧ s.fenced 1 = false ∧ s.leafEntry 1 4 = none
        ∧ s.leafEntry 1 3 = some bx ∧ bx.chan < 16 ∧ 7 < (8 : BitVec 22).toNat ∧ (true && (some (0xB : BitVec 4)).isNone) = false)
    ∧ (let s := bound { bx with chan := 16 };
      s.Ready ∧ s.tapReady 1 = true ∧ s.tapWaits 1 = false ∧ s.fenced 1 = false
        ∧ s.leafEntry 1 3 = some { bx with chan := 16 })
    ∧ (let s := (bound bx).setReg (R.spFence 0) 2;
      s.Ready ∧ s.tapReady 1 = true ∧ s.tapWaits 1 = false ∧ s.fenced 1 = true) :=
  ⟨⟨ready_of (by decide +kernel), by decide +kernel⟩, ⟨ready_of (by decide +kernel), by decide +kernel⟩,
    ⟨ready_of (by decide +kernel), by decide +kernel⟩⟩

/-- A token in the leaf of taps 0 to 3, from child 1. -/
abbrev k0 : Token := { chan := 16, level := 1, router := 0, child := 1, chain := 2, mask := 0xFF, ncont := 1, null := false,
                       data := 0x123 }

theorem witness_PayloadTokensCombineUpward :
    (let x := { bx with chan := 16 };
      TapServes (bound x) 1 3 x ∧ 16 ≤ x.chan)
    ∧ (let b := { bx with chan := 16, leaves := [(0, 6)] };
      let u := bound b;
      let s : State := { u with pipe := { u.pipe with tokens := [k0, { k0 with child := 2, data := 0x777, ncont := 3 }] } };
      let held := s.heldTokens 16 1 0;
      let use := held.filter (fun k => k.chain == minChain held);
      s.Calm ∧ s.act 16 = some b ∧ use ≠ [] ∧ 1 < s.depth
        ∧ (∀ j, j < 4 → (s.effective b 1 0).testBit j = true → ∃ k ∈ use, k.child = j)
        ∧ (∀ k ∈ s.heldTokens 16 2 0, k.child ≠ 0)) :=
  ⟨⟨tap_of (by decide +kernel), by decide +kernel⟩, ⟨calm_of (by decide +kernel), by decide +kernel⟩⟩

theorem witness_RouterFaultsAreRecorded :
    (let s := boot;
      s.pairRouter 3 = some (2, 3) ∧ s.fld (R.spPair 0) 7 6 = 0)
    ∧ (bound bx).boundThrough 1 0 = [0] ∧ 4 * 0 < (bound bx).nTap := by
  decide +kernel

/-- A notice of cistern 3's release, and a release list 3 with tap 1 alone. -/
abbrev n1 : Notice := { cnum := 3, gen := 7, part := 0, rlist := 3, status := 2, basin := 0xFFFF }
abbrev lists : Tab W128 := [(1, BitVec.ofNat 128 ((32768 * 2 ^ 46 + 6 * 2 ^ 35) * 2 ^ 64)), (32768, 0x211111)]

/-- `boot` with cistern 3 DONE and its notice waiting. -/
abbrev sr : State :=
  let s := se { e1 with status := stDone };
  { s with cst := { s.cst with rl := lists }, pipe := { s.pipe with notices := [n1] } }

theorem witness_ReleaseIsSentToItsTarget :
    sr.Ready ∧ sr.pipe.notices = [n1] ∧ sr.pipe.ctxs.all (fun c => !c.waiting) = true ∧ sr.pipe.ctxs.length < 4096
      ∧ sr.findCtx sr.pipe.nextRid = none ∧ sr.ctxHeld n1 = false ∧ (sr.prt n1.part).closing = none ∧ n1.root = none
      ∧ n1.reduce = false ∧ (∀ w ∈ sr.listWords n1.rlist, tget 0 sr.cst.err (errKey 2 w) = 0)
      ∧ sr.listTargets n1.rlist = [(0, 2 ^ 1)] ∧ sr.fenced 1 = false ∧ sr.pbdDelay 1 n1.cnum = none ∧ (sr.tap 1).fifo = []
      ∧ (sr.tap 1).hold = [] :=
  ⟨ready_of (by decide +kernel), by decide +kernel⟩

/-- The state after the release is issued, and after its token is taken. -/
abbrev sr2 : State := nx (exec .releaseIssue sr)
abbrev sr3 : State := nx (exec (.releaseTake 1) sr2)

theorem witness_ReleaseIsTakenAndAcknowledged :
    (let k : Tok := { opc := 6, cnum := 3, status := 2, seq := 7, empty := false, rid := some 0, part := 0 };
      let s := boot.setTap 1 { fifo := List.replicate 15 { k with cnum := 4 }, hold := [k] };
      (s.tap 1).hold = [k] ∧ (s.tap 1).fifo.length + 1 = 16 ∧ ∀ e ∈ (s.tap 1).fifo, e.cnum ≠ k.cnum)
    ∧ (sr2.tapReady 1 = true ∧ ∃ k rid, (sr2.tap 1).fifo = [k] ∧ k.taken = false ∧ k.opc ≤ 7 ∧ k.rid = some rid
        ∧ (sr2.leaf 0).reports = [])
    ∧ (sr3.Calm ∧ (sr3.leaf 0).reports = [⟨0, 2, true⟩] ∧ (sr3.leaf 0).lost = []
        ∧ (∀ e ∈ sr3.pipe.taps, ∀ k ∈ e.2.fifo, k.taken = false)
        ∧ ∃ c, sr3.findCtx 0 = some c ∧ c.left ≤ popcount 4 2 ∧ sr3.slotOf c.note.part c.note.cnum = some 3
          ∧ (sr3.entry 3).status = stDone ∧ (sr3.entry 3).gen.toNat = c.note.gen
          ∧ (sr3.entry 3).sound c.note.part = true ∧ tget false sr3.cst.bad 3 = false
          ∧ tget 0 sr3.cst.err (errKey 0 3) = 0) :=
  ⟨by decide +kernel,
    ⟨by decide +kernel, { opc := 6, cnum := 3, status := 2, seq := 7, rid := some 0 }, 0, by decide +kernel⟩,
    ⟨calm_of (by decide +kernel), by decide +kernel, by decide +kernel, by decide +kernel, { rid := 0, note := n1, left := 1 }, by decide +kernel⟩⟩

theorem witness_GrantsReachSlotAndTap :
    (let s := ((boot.setReg 0x31004 65536).setGrant 3 { state := 1, gen := 7, tap := 1, gslot := 2, owed := 1048575 }).setTap 1
        { slots := [(2, { used := true, cnum := 3 })] };
      s.rst.kst = 0 ∧ s.grantOwner 3 = some (0, 3) ∧ (s.grant 3).state = 1 ∧ 0 < (s.grant 3).owed.toNat ∧ (s.prt 0).halted = false
        ∧ s.stopped = false ∧ s.pstate 0 ≠ 3 ∧ s.fenced 1 = false ∧ s.pbdDelay 1 3 = none
        ∧ (tget {} (s.tap 1).slots 2).n + (s.grant 3).owed.toNat = 1048575)
    ∧ (let s := boot.setTap 1 { slots := [(2, { used := true, cnum := 3, n := 1 })] };
      s.creditTurn 0 = some (1, 2) ∧ s.ownerCnum (tget {} (s.tap 1).slots 2).cnum = some 0) := by
  decide +kernel

/-- A row of action `a` with argument `arg` on cistern 3, due at once. -/
abbrev row (a : Nat) (arg : Nat) : Staged :=
  { tick := 0, row := { action := a, slot := 0, cnum := 3, chan := 31, layer := 5, oper := 3, arg := BitVec.ofNat 64 arg } }

/-- `boot` with that row staged and cistern 3 as `e`. -/
abbrev staged (r : Staged) (e : Cistern) : State := ent (boot.setPrt 0 { staged := [r], begun := true }) 3 e

theorem witness_ScheduleRowsActOnCisterns :
    (∀ v ∈ [0, 2 ^ 56], let r := row 2 (2 ^ 60 + v + 5 * 2 ^ 32 + 2 * 2 ^ 16 + 0xFFFF);
      let s := staged r { e1 with status := stIdle };
      let e := s.entry 3;
      let d := ArmDef.of r.row.arg (BitVec.ofNat 64 (r.row.layer * 2 ^ 12 + r.row.oper));
      let x := { d.inForce e with gen := e.gen + 1, count := 0, status := stArmed, part := 0 };
      RowServes s 0 r 3 ∧ e.status = stIdle ∧ s.armCheck 0 3 d (d.inForce e) = none ∧ d.deadline = (v != 0)
        ∧ x.kind ≠ kCredit ∧ x.met = false)
    ∧ (∀ n ∈ [4, 5], let s := staged (row 3 0) { e1 with count := n };
      RowServes s 0 (row 3 0) 3 ∧ s.Local 0 3 (s.entry 3) ∧ (s.entry 3).status = stArmed
        ∧ ((s.entry 3).count.toNat < (s.entry 3).target.toNat ↔ n = 4) ∧ (s.entry 3).kind ≠ kReduce
        ∧ (s.entry 3).kind ≠ kCredit)
    ∧ (let s := staged (row 3 0) { e1 with status := stLate };
      RowServes s 0 (row 3 0) 3 ∧ (s.entry 3).status ≠ stArmed)
    ∧ (∀ a ∈ [2 ^ 20 + 2 + 2 * 2 ^ 24, 2 ^ 20 + 3 + 4 * 2 ^ 24], let r := row 4 a;
      let s := staged r e1;
      RowServes s 0 r 3 ∧ r.row.arg.toNat.testBit 20 = true
        ∧ ((bits r.row.arg.toNat 29 24).testBit (s.entry 3).status.toNat = true ↔ bits r.row.arg.toNat 19 0 = 2))
    ∧ RowDue (staged (row 1 0) e1) 0 (row 1 0) ∧ RowDue (staged (row 5 0) e1) 0 (row 5 0)
    ∧ (let r : Staged := { row 1 0 with tick := 3, late := true };
      let s := (staged r e1).modPrt 0 (fun x => { x with tick := 4 });
      RowDue s 0 r ∧ r.tick ≠ (s.prt 0).tick.toNat) := by
  refine ⟨fun v h => ?_, fun n h => ?_, ⟨row_of (by decide +kernel), by decide +kernel⟩, fun a h => ?_,
    due_of (by decide +kernel), due_of (by decide +kernel), due_of (by decide +kernel), by decide +kernel⟩ <;>
  · simp only [List.mem_cons, List.not_mem_nil, or_false] at h
    obtain rfl | rfl := h <;> first
      | exact ⟨row_of (by decide +kernel), by decide +kernel⟩
      | exact ⟨row_of (by decide +kernel), ⟨by decide +kernel, by decide +kernel, by decide +kernel⟩, by decide +kernel⟩

/-- An image of one tick with one row in slot 0 and one in slot 1. -/
abbrev image0 : Table := { base := 0x1000, rowOff := 0x40, ntick := 1, index := [(0, 3)], slots := [0, 0, 1] }

/-- A row of slot 2 for cistern 3 as the image holds it. -/
abbrev rowWord : BitVec 256 :=
  BitVec.ofNat 256 (2 * 2 ^ 252 + 2 * 2 ^ 236 + 3 * 2 ^ 212 + 31 * 2 ^ 207 + 2 ^ 60 + 5 * 2 ^ 32 + 2 * 2 ^ 16 + 0xFFFF)

theorem witness_RowsAreReadAndStaged :
    (let s := (boot.setReg (R.hgPstage 0) 4).setPrt 0 { tbl := some (image0, 0), begun := true };
      let x := s.prt 0;
      s.pump.waits = [] ∧ s.pstate 0 = 2 ∧ x.tbl.isSome = true ∧ x.stErr = false ∧ s.stageRoom 0 = true
        ∧ s.nextRow 0 66 x.stTick x.stIdx = some (0, 0, image0, 0)
        ∧ 0 * s.nSlot + image0.slots.getD (image0.place 0 0 0) 0 ≤ x.tick.toNat * s.nSlot + x.slot + s.fld R.raeCtrl 6 0
        ∧ s.clk.lostM = false ∧ s.memBusy ⟨.row 0, 0x1040, 32, none, false, 0⟩ = false ∧ s.pump.reads.length < 32)
    ∧ (∀ h ∈ [false, true],
      let s := (boot.setReg R.hgSlots 7).setPrt 0 { tbl := some (image0, 0), begun := true, halted := h, reads := [(0, 1, 0x1060)] };
      let x := s.prt 0;
      let r := Row.of rowWord.toNat;
      calmB s = true ∧ s.pump.waits = [] ∧ x.reads = [(0, 1, 0x1060)] ∧ (0 : Nat) ≠ noTick
        ∧ (s.rowsNext 0 = false ↔ h = true) ∧ s.comingBinds 0 = [] ∧ r.action ≠ 1 ∧ s.rowOk 0 rowWord.toNat = true
        ∧ x.stSlot ≤ r.slot ∧ r.cnum < 0x200000 ∧ x.due 0 r.slot = false)
    ∧ (let s : State := { boot with pipe := { boot.pipe with shadow := [(2, some bx)] } };
      s.pump.waits = [] ∧ s.rowsNext 0 = true ∧ s.comingBinds 0 = [])
    ∧ (let s := ((boot.setReg (R.hgPsbSize 0) 6).setPrt 0 { begun := true }).sb 0 { type := 1 };
      (∃ w, (s.prt 0).sbQ = [w]) ∧ s.pump.waits = []) := by
  refine ⟨by decide +kernel, by decide +kernel, by decide +kernel, ⟨_, rfl⟩, by decide +kernel⟩

/-! ## Witnesses: Culvert -/

/-- Port 0 enabled, with neighbour 1, in link state `st` with both lanes locked. -/
abbrev lk (st : Nat) : State := (boot.setReg (R.culPstatus 0) (st * 2 ^ 29 + 3 * 2 ^ 27)).setReg (R.culPcfg 0) (2 ^ 31 + 1)

/-- Correct IDENT data of the neighbour. -/
abbrev tf : TrainFlit := { corrected := false, ident := true, chip := 1, port := 3, rs544 := false, epoch := 0 }

theorem witness_LinkTrainsToUp :
    ((lk 1).Inv ∧ (lk 1).up = true ∧ 0 < (lk 1).nPort ∧ (lk 1).linkState 0 = 1)
    ∧ (let s := (lk 2).setPort 0 { train := 62 };
      s.Inv ∧ s.linkState 0 = 2 ∧ (s.port 0).train + 1 = 63 ∧ tf.corrected = false
        ∧ s.flag (R.culPstatus 0) 27 = true ∧ s.flag (R.culPstatus 0) 28 = true)
    ∧ (let s := (lk 2).setPort 0 { train := 63 };
      s.Inv ∧ s.linkState 0 = 2 ∧ (s.port 0).train = 63)
    ∧ (let s := lk 3;
      s.Inv ∧ s.linkState 0 = 3 ∧ tf.corrected = false ∧ tf.ident = true ∧ tf.chip.toNat = s.nbr 0
        ∧ tf.rs544 = s.flag (R.culPcfg 0) 30 ∧ s.Calm)
    ∧ ((lk 6).Inv ∧ (lk 6).up = true ∧ (lk 6).linkState 0 = 6) :=
  ⟨⟨inv_of (by decide +kernel), by decide +kernel⟩, ⟨inv_of (by decide +kernel), by decide +kernel⟩,
    ⟨inv_of (by decide +kernel), by decide +kernel⟩,
    ⟨inv_of (by decide +kernel), by decide +kernel, by decide +kernel, by decide +kernel, by decide +kernel, by decide +kernel,
      calm_of (by decide +kernel)⟩, ⟨inv_of (by decide +kernel), by decide +kernel⟩⟩

/-- The words of a flit in the native code. -/
abbrev wire (w : Flit) : BitVec 680 :=
  let d := toSymbols 64 w.pack.toNat;
  BitVec.ofNat 680 (ofSymbols (d ++ fecCheck 4 d))

/-- A flit in the native code, as a port receives it without an error. -/
abbrev rxf (w : Flit) : RxFlit :=
  .flit (wire w)

/-- A NORMAL flit with number 511, a NAK and an IDLE flit that acknowledge flit 4, and a NORMAL flit with a beat. -/
abbrev fOld : Flit := { fkind := 1, fseq := 511, ack := 100, beat := { btype := 3 } }
abbrev fNak : Flit := { fkind := 2, ack := 4 }
abbrev fIdle : Flit := { fkind := 0, ack := 4 }
abbrev fNew : Flit := { fkind := 1, fseq := 511, ack := 100, beat := { btype := 9, pay := 5, finfo := 33, vc := 1 } }

/-- Port 0 UP with three flits in its replay buffer and 15 NAKs without progress. -/
abbrev lr : State := (lk 4).setPort 0 { replay := [(3, 5), (4, 6), (5, 7)], naks := 15 }

theorem witness_LinkFailureLeadsToDown :
    (lr.Calm ∧ lr.up = true ∧ lr.portParts 0 = [] ∧ lr.linkOpen 0 = true ∧ (lr.port 0).replay ≠ [] ∧ (lr.port 0).naks = 15
      ∧ rxFlits (rxf { fNak with ack := 9 }) = some [(({ fNak with ack := 9 } : Flit).pack, false)]
      ∧ hdr ({ fNak with ack := 9 } : Flit).pack 127 124 = 2
      ∧ ∀ e ∈ (lr.port 0).replay, e.1 ≠ hdr ({ fNak with ack := 9 } : Flit).pack 114 106)
    ∧ (let s := ({ lk 4 with grid := { running := true } } : State).setPort 0 { armed := true, unmarked := 2 };
      s.Calm ∧ s.up = true ∧ s.portParts 0 = [] ∧ s.linkUp 0 = true ∧ s.grid.running = true ∧ (s.port 0).armed = true
        ∧ (s.port 0).unmarked = 2)
    ∧ (let s := lk 6;
      let m : Msg := { src := s.chip, mtype := 0, e := (s.tickno + s.fld R.culMcfg 3 0) % 2 ^ 32,
                       pay := s.chip + 0 * 2 ^ 12 + s.nbr 0 * 2 ^ 16 }
      s.Calm ∧ s.up = true ∧ s.portParts 0 = [] ∧ 0 < s.nPort ∧ s.flag (R.culPcfg 0) 31 = true ∧ (s.port 0).lost = false
        ∧ (∀ j, j < s.nPort → s.linkOpen j = false) ∧ m ∉ s.cul.seen) :=
  ⟨⟨calm_of (by decide +kernel), by decide +kernel⟩, ⟨calm_of (by decide +kernel), by decide +kernel⟩,
    ⟨calm_of (by decide +kernel), by decide +kernel⟩⟩

/-- Each of them is decoded. -/
theorem test_flit_codes : ∀ f ∈ [fOld, fNak, fIdle, fNew, { fNak with ack := 9 }], rxFlits (rxf f) = some [(f.pack, false)] := by
  decide +kernel

theorem decodes_of {s : State} {f : Flit} (h : f ∈ [fOld, fNak, fIdle, fNew, { fNak with ack := 9 }])
    (hp : s.flag (R.culPcfg 0) 30 = false) : s.decodes 0 (rxf f) f.pack :=
  ⟨hp.symm, test_flit_codes f h⟩

theorem witness_FlitsAreTakenAndAcknowledged :
    (isRx (.nak 0 (rxf fNak)) 0 (rxf fNak) ∧ isRx (.idleFlit 0 (wire fIdle) none) 0 (rxf fIdle)
      ∧ isRx (.normalFlit 0 (rxf fNew)) 0 (rxf fNew))
    ∧ (lr.Calm ∧ lr.up = true ∧ lr.linkOpen 0 = true ∧ (lr.port 0).queue = [] ∧ (lr.port 0).counts = []
      ∧ ∀ f ∈ [fIdle, fNak], (lr.port 0).replay = [(3, 5)] ++ (hdr f.pack 114 106, 6) :: [(5, 7)]
        ∧ hdr f.pack 127 124 = f.fkind ∧ hdr f.pack 38 38 = 0)
    ∧ (lr.decodes 0 (rxf fOld) fOld.pack ∧ hdr fOld.pack 127 124 = 1 ∧ hdr fOld.pack 123 115 ≠ (lr.port 0).rxSeq
      ∧ rs544Form (.codeword 0) ≠ lr.flag (R.culPcfg 0) 30 ∧ (lr.port 0).rejecting = false)
    ∧ (let s := (lk 4).setPort 0 { rxSeq := 511 };
      let f := fNew.pack;
      s.Calm ∧ s.decodes 0 (rxf fNew) f ∧ hdr f 127 124 = 1 ∧ hdr f 123 115 = (s.port 0).rxSeq ∧ s.linkUp 0 = true
        ∧ s.matchMode = false ∧ s.rst.kst < 2 ∧ (∀ e ∈ (s.port 0).replay, e.1 ≠ hdr f 114 106) ∧ hdr f 89 74 = 0
        ∧ hdr f 38 38 = 0 ∧ 2 ≤ hdr f 71 68 ∧ hdr f 71 68 = 9 ∧ (∀ e ∈ (s.port 0).rx, e.btype ≠ 15)
        ∧ (s.port 0).rxSeq + 1 = 512) :=
  ⟨⟨.inr (.inr rfl), .inl ⟨_, none, rfl, rfl⟩, .inr (.inl rfl)⟩, ⟨calm_of (by decide +kernel), by decide +kernel⟩,
    ⟨decodes_of (by simp) (by decide +kernel), by decide +kernel⟩,
    ⟨calm_of (by decide +kernel), decodes_of (by simp) (by decide +kernel), by decide +kernel⟩⟩

/-- `s` with the beats `l` received on port 0. -/
abbrev withRx (s : State) (l : List Beat) : State := s.setPort 0 { rx := l }

/-- A CAS of well 5 by master 3 of chip 1, that claims it. -/
abbrev casOp : BankOp :=
  { opc := Op.cas, space := 2, index := 5 * 256, gen := 0, a := wellWord ownerFree false 3, b := wellWord (ownerOf 1 3) false 9,
    pay := 0, part := some 0, master := 3, origin := .cul 1 4 true, func0 := false }

/-- Its frame as chip 1 sends it. -/
abbrev casBeat : Beat :=
  match ctrlReqFrame boot.chip casOp 4 true with
  | x :: _ => { x with src := 1, pay := x.pay - 2 ^ 120 * (x.pay / 2 ^ 120 % 2) }
  | _ => { btype := 0 }

/-- The response to it. -/
abbrev rspBeat : Beat :=
  match ctrlRspFrame 0 3 (({ result := 1, data := 77 } : BankRsp).flit 4) with
  | x :: _ => { x with src := 1 }
  | _ => { btype := 0 }

theorem witness_FramesReachTheirUnits :
    (let s0 := withRx (lk 4) [casBeat];
      let s : State := { s0 with wel := { s0.wel with w := tset freeWell s0.wel.w 5 casOp.a } };
      let b := casBeat;
      let o := reqOf b [];
      s.Ready ∧ b.beat = 0 ∧ b.dst = s.chip ∧ (s.port 0).rx = [b] ∧ b.last = true ∧ b.btype = 2
        ∧ s.oldEpoch (b.finfo % 32) b.epoch = false ∧ reqInBad b o = false ∧ o.space = 2 ∧ o.opc = Op.cas
        ∧ (b.pay % 2 ^ 128).testBit 120 = false
        ∧ s.freeing b.src o.master = false ∧ (s.reg (R.welGacq (o.well / 64))).testBit (b.finfo % 32) = true
        ∧ s.wellBad o.well = false ∧ tget 0 s.cst.err (errKey 3 (wellIdx o.well)) = 0 ∧ s.well o.well = o.a
        ∧ wellOwner o.a = ownerFree ∧ wellOwner (cleanWell o.b) = ownerOf b.src o.master
        ∧ wellAband (cleanWell o.b) = wellAband o.a)
    ∧ (let x : Fwd := { chip := 1, tag := 4, master := 3, op := { casOp with origin := .cnp 2 9 3 true } };
      let s0 := withRx (lk 4) [rspBeat];
      let s : State := { s0 with cul := { s0.cul with fwds := [x] } };
      let b := rspBeat;
      s.Ready ∧ b.beat = 0 ∧ b.dst = s.chip ∧ (s.port 0).rx = [b] ∧ b.last = true ∧ b.btype = 3 ∧ bits b.finfo 35 23 ≠ 0x1FFF
        ∧ s.cul.fwds = [x] ∧ x.chip = b.src ∧ x.master = bits b.finfo 35 23 ∧ x.tag = bits b.pay 127 120
        ∧ x.op.origin = .cnp 2 9 3 true)
    ∧ (let b : Beat := { btype := 5, src := 1, finfo := 3 * 2 ^ 12, vc := 1 };
      let s := ent (withRx (lk 4) [b]) 3 { e1 with count := 3 };
      let c := bits b.finfo 35 12;
      s.Ready ∧ b.beat = 0 ∧ b.dst = s.chip ∧ (s.port 0).rx = [b] ∧ b.last = true ∧ b.btype = 5
        ∧ s.oldEpoch (b.finfo % 32) b.epoch = false ∧ s.holdsCnum 0 c = true ∧ s.initBusy 0 0 = false
        ∧ s.active 0 = true ∧ s.slotOf 0 c = some 3 ∧ tget false s.cst.bad 3 = false ∧ tget 0 s.cst.err (errKey 0 3) = 0
        ∧ (s.entry 3).sound 0 = true ∧ (s.entry 3).status = stArmed ∧ (s.entry 3).kind = kBarrier ∧ s.tagged 0 c = none
        ∧ (s.entry 3).count.toNat + 1 < (s.entry 3).target.toNat)
    ∧ (let b : Beat := { btype := 4, src := 1, finfo := 3 * 2 ^ 12, vc := 1, last := false, pay := 5 };
      let b1 : Beat := { b with beat := 1, last := true, finfo := 0xFFFF * 2 ^ 20, pay := 7 };
      let s := ent (withRx (lk 4) [b, b1]) 3 { e5 with count := 3 };
      let o := fwdOp b [b1];
      let bas := (s.entry 3).basin.toNat + 64 * bits o.a.toNat 5 0;
      s.Ready ∧ b.beat = 0 ∧ b.dst = s.chip ∧ (s.port 0).rx = [b, b1] ∧ b.last = false ∧ b1.last = true ∧ b1.btype = 4
        ∧ s.oldEpoch (b.finfo % 32) b.epoch = false ∧ o.index = 3 ∧ s.holdsCnum 0 3 = true ∧ s.initBusy 0 0 = false
        ∧ s.active 0 = true ∧ s.slotOf 0 3 = some 3 ∧ (s.entry 3).sound 0 = true ∧ (s.entry 3).status = stArmed
        ∧ (s.entry 3).kind = kReduce ∧ s.tagged 0 3 = none ∧ (s.entry 3).count.toNat + 1 < (s.entry 3).target.toNat
        ∧ s.reduceCheck 0 (s.entry 3) o = none ∧ tget false s.cst.badBasin bas = false ∧ (s.lanes bas).bad = false
        ∧ ∀ j, j < 4 → tget 0 s.cst.err (errKey 1 (4 * bas + j)) = 0) :=
  ⟨⟨ready_of (by decide +kernel), by decide +kernel⟩, ⟨ready_of (by decide +kernel), by decide +kernel⟩,
    ⟨ready_of (by decide +kernel), by decide +kernel⟩, ⟨ready_of (by decide +kernel), by decide +kernel⟩⟩

theorem witness_ResetNoticeAddsToPending :
    let b : Beat := { btype := 9, src := 1, pay := 5 + 2 ^ 15, finfo := 0, vc := 0 };
    let s := withRx (lk 4) [b];
    s.Ready ∧ (s.port 0).rx = [b] ∧ b.beat = 0 ∧ b.last = true ∧ b.btype = 9 ∧ b.dst = s.chip
      ∧ noticeMasters b.pay = [(5 : BitVec 13).toNat] ∧ (b.src, (5 : BitVec 13).toNat) ∉ s.wel.pend :=
  ⟨ready_of (by decide +kernel), by decide +kernel⟩

/-- `boot` with a grid of ten slots of 100 MHz ticks set up, and not running. -/
abbrev gb : State := (((boot.setPair R.hgTickLen 256000).setReg R.hgTickFrac 65536).setReg R.hgSlots 9).setReg R.raeCtrl 4

/-- `s` with the grid running in slot `slot` of tick `tick`, far behind the Time Base. -/
abbrev grun (s : State) (tick slot : Nat) : State :=
  { s.setFlag R.hgCtrl 0 true with
    grid := { running := true, begun := true, tick := tick, slot := slot }, clk := { s.clk with h3 := BitVec.ofNat 88 (2 ^ 24 * 100000) } }

theorem witness_HopBeatsActOnTheGrid :
    (let b : Beat := { btype := 1, pay := 0xA + 3 * 2 ^ 16 };
      let s := grun (withRx (lk 4) [b]) 3 2;
      s.Calm ∧ s.up = true ∧ (s.port 0).rx = [b] ∧ b.beat = 0 ∧ b.last = true ∧ b.btype = 1 ∧ b.pay % 16 = 0xA
        ∧ b.pay.testBit 32 = false ∧ s.grid.running = true ∧ s.linkUp 0 = true
        ∧ bits b.pay 31 16 = s.tickno % 65536)
    ∧ (let b : Beat := { btype := 1, pay := 0xA + 2 ^ 32 };
      let s := withRx (lk 4) [b];
      s.Calm ∧ (s.port 0).rx = [b] ∧ b.pay % 16 = 0xA ∧ b.pay.testBit 32 = true)
    ∧ (let b : Beat := { btype := 8, src := 1, finfo := 2 ^ 33 + 9, pay := 4 };
      let s := withRx (lk 4) [b];
      let m : Msg := { src := b.src, mtype := bits b.finfo 35 32, e := b.finfo % 2 ^ 32, pay := b.pay };
      s.Calm ∧ s.up = true ∧ (s.port 0).rx = [b] ∧ m ∉ s.cul.seen ∧ s.cul.seen.length < 64
        ∧ ∀ j, j < s.nPort → j ≠ 0 → s.linkOpen j = false)
    ∧ (let b : Beat := { btype := 6, finfo := 2, pay := 65535 };
      let s := ((withRx (lk 4) [b]).setReg (R.culFchCfg 2) (2 ^ 31 + 2 ^ 29)).setPrt 0 { lateDown := true };
      s.Calm ∧ s.up = true ∧ (s.port 0).rx = [b] ∧ s.fchEn 2 = true ∧ s.fchTclose 2 = true ∧ s.fchFrozen 2 = false
        ∧ s.fchUp 2 = 0 ∧ s.fchDown 2 = 0 ∧ (s.prt (s.fchPart 2)).lateDown = true) :=
  ⟨⟨calm_of (by decide +kernel), by decide +kernel⟩, ⟨calm_of (by decide +kernel), by decide +kernel⟩,
    ⟨calm_of (by decide +kernel), by decide +kernel⟩, ⟨calm_of (by decide +kernel), by decide +kernel⟩⟩

theorem witness_TimeRequestsAndAnswers :
    (let s := (lk 4).setReg R.culTcfg 0;
      s.Calm ∧ s.up = true ∧ s.matchMode = false ∧ s.tport = 0 ∧ s.linkOpen 0 = true ∧ (s.port 0).queue = []
        ∧ (s.port 0).counts = [] ∧ (s.port 0).replay.length < 128)
    ∧ (∀ k, k < 2 → let b : Beat := { btype := 7, finfo := k, pay := 77 + 2 ^ 75 + 2 ^ 150 }
      let s := ((lk 4).setReg R.culTcfg 0).setPort 0 { rx := [b], replay := List.replicate 127 (9, 9) };
      calmB s = true ∧ s.matchMode = false ∧ s.linkOpen 0 = true ∧ (s.port 0).queue = [] ∧ (s.port 0).rx = [b]
        ∧ (s.port 0).replay.length + 1 = 128 ∧ b.beat = 0 ∧ b.last = true ∧ b.btype = 7 ∧ b.finfo % 2 = k ∧ s.tport = 0)
    ∧ (let s0 := ((lk 6).setReg R.culTcfg 0).setFlag R.obsTbStatus 2 true;
      let s : State := { s0 with clk := { s0.clk with estimate := true } };
      s.Calm ∧ s.up = true ∧ s.matchMode = false ∧ s.tport ≠ 7 ∧ s.linkOpen s.tport = false ∧ s.clk.estimate = true
        ∧ s.flag R.obsTbStatus 2 = true) :=
  ⟨⟨calm_of (by decide +kernel), by decide +kernel⟩, by decide +kernel, ⟨calm_of (by decide +kernel), by decide +kernel⟩⟩

/-! ## Witnesses: the grid, allocation, the scrubber and schedules -/

/-- Every partition in STOPPED. -/
abbrev gs : State := gb.setReg 0x10004 0

theorem witness_GridStartsAndStops :
    (Reached gs A0 (R.obsTbSet + 4) ∧ Reached gs A0 R.hgCtrl ∧ gs.gridEn = false ∧ (gs.crossing A0).gridWas = false
      ∧ (1 : W32).getLsbD 0 = true)
    ∧ (let s := grun gs 3 2;
      Reached s A0 R.hgCtrl ∧ (0 : W32).getLsbD 0 = false ∧ s.gridEn = true
        ∧ ∀ p, p < s.nPart → (s.crossing A0).wasLocked p = false) :=
  ⟨⟨reached_of (by decide +kernel), reached_of (by decide +kernel), by decide +kernel⟩,
    ⟨reached_of (by decide +kernel), by decide +kernel⟩⟩

theorem witness_GridBoundariesAdvance :
    (let s := grun gs 3 2;
      s.Calm ∧ s.polledFns = [] ∧ s.fns.all (fun e => e.2.waits.isEmpty) = true ∧ s.gridDue false = true)
    ∧ (let s := grun gs 3 9;
      s.Calm ∧ s.polledFns = [] ∧ s.gridDue true = true
        ∧ (∀ p, p < s.nPart → s.locked p = false ∧ (s.prt p).events = [] ∧ (s.prt p).snapReq = false
          ∧ (s.prt p).snapDefer = false ∧ s.flag (R.culPsnapCtrl p) 29 = false)
        ∧ (∀ k, k < s.nPort → s.linkUp k = false) ∧ s.obs.corr = [] ∧ s.obs.retry = [] ∧ s.obs.resumes = [] ∧ s.cul.seen = []
        ∧ s.stop.pend = [] ∧ s.fld R.obsSample 15 0 = 0) :=
  ⟨⟨calm_of (by decide +kernel), by decide +kernel⟩, ⟨calm_of (by decide +kernel), by decide +kernel⟩⟩

theorem witness_PartitionSlotsAdvance :
    (let s := (grun gb 3 9).setPrt 0 { tick := 3, slot := 8, begun := true };
      let x := s.prt 0;
      s.Calm ∧ s.partReached 0 = true ∧ x.slot + 2 = s.nominal 0 ∧ x.slot + 1 ≠ s.closePoint 0 ∧ x.staged = [] ∧ x.spans = []
        ∧ x.tbl = none ∧ x.haltPend = false ∧ s.pipe.act = [] ∧ s.pipe.strobed = [] ∧ s.pipe.und = []
        ∧ s.pipe.leafs.all (fun e => e.2.store.isEmpty) = true)
    ∧ (∀ d ∈ [0, 1],
      let s := ((grun gb 4 0).setPrt 0 { tick := 3, slot := 9 + d, begun := true, late := true }).setReg (R.hgPovrCfg 0) (2 ^ 31);
      let x := s.prt 0;
      let k := s.nominal 0 + s.capOf 0 - (if (s.tcloseOf 0).isSome then s.closeReg 0 else 0);
      s.active 0 = true ∧ x.begun = true ∧ s.stretchPolicy 0 = true ∧ s.isLate 0 = true ∧ x.stretch = none ∧ s.stopped = false
        ∧ (if d = 1 then k ≤ x.slot else k = x.slot + 1 ∧ s.partReached 0 = true)) :=
  ⟨⟨calm_of (by decide +kernel), by decide +kernel⟩, by decide +kernel⟩

theorem witness_AllocationWritesAreChecked :
    (let r := R.pfmPctrl 0 + 0x80;
      let t := (gs.crossing A0).plain r 65536;
      Reached gs A0 r ∧ 0 < gs.nPart ∧ (gs.crossing A0).wasLocked 0 = false ∧ t.allocShared 0 = false ∧ t.allocOut 0 = false)
    ∧ (let r := R.pfmPctrl 0 + 0x80;
      let t := (gs.crossing A0).plain r (2 ^ 32 - 1);
      Reached gs A0 r ∧ (gs.crossing A0).wasLocked 0 = false ∧ (t.allocShared 0 || t.allocOut 0) = true)
    ∧ (Reached gb A0 (R.pfmPctrl 0 + 0x84) ∧ (gb.crossing A0).wasLocked 0 = true
      ∧ (∀ v ∈ [0, 6, 16], v % 32 = 0 ∨ 6 ≤ v % 32 ∧ v % 32 ≤ 16)) :=
  ⟨⟨reached_of (by decide +kernel), by decide +kernel⟩, ⟨reached_of (by decide +kernel), by decide +kernel⟩,
    ⟨reached_of (by decide +kernel), by decide +kernel⟩⟩

/-- Unit `u` of store `r` of partition 0 under initialisation. -/
abbrev initing (r u : Nat) : State :=
  let c : Cst := { gb.cst with initd := [(1, 1, 9), (0, r, u)], ent := [(3, e1)], basins := [(5, 7)], rl := [(2, 4)],
                               bad := [(9, true)] }
  { gb with cst := c }

theorem witness_AllocationEndsWithFreshUnits : ∀ r, r < 3 →
    invB (initing r 0) = true ∧ (initing r 0).cst.initd.filter (fun e => e.1 == 0) = [(0, r, 0)] := by
  intro r h
  match r, h with
  | 0, _ => decide +kernel
  | 1, _ => decide +kernel
  | 2, _ => decide +kernel

theorem witness_ScrubberReadsDueWords :
    (let s : State := { gb with cst := { gb.cst with scrubDue := [(63, 1)] } };
      s.up = true ∧ s.rst.kst < 2 ∧ 0 < tget 0 s.cst.scrubDue 63 ∧ tget 0 s.cst.scrubPos 63 < s.resPerBank
        ∧ tget 0 s.cst.err (errKey 0 63) = 0
        ∧ (∃ c, c < 64 ∧ tget 0 (tset 0 s.cst.scrubPos 63 1) c < s.scrubWords) ∧ s.scrubDone = false)
    ∧ (let s : State := { gb with cst := { gb.cst with scrubPos := (List.range 64).map (fun b => (b, gb.scrubWords)) } };
      s.up = true ∧ s.scrubDone = true) :=
  ⟨⟨by decide +kernel, by decide +kernel, by decide +kernel, by decide +kernel, by decide +kernel, ⟨0, by decide +kernel⟩,
    by decide +kernel⟩, by decide +kernel⟩

/-- Function 1 of partition 0, ACTIVE, with rings of 32 entries and a quota of two WAITs. -/
abbrev hb : State :=
  (((((((boot.setReg (R.dqCtrl 1) 1).setReg (R.pfmFstate 1) 1).setReg (R.dqRingSize 1) (5 + 5 * 65536)).setReg (R.dqCplBase 1)
    0x4000).setReg (R.dqCmdBase 1) 0x8000).setReg (R.pfmFwait 1) 2).setReg (R.welGacq 0) 1).setReg (R.pfmFcfg 1)
    (boot.reg (R.pfmFcfg 1) + 2 ^ 30)

/-- A command of opcode `opc` with the bytes `l`, given by place and value. -/
abbrev cmdw (opc : Nat) (l : List (Nat × Nat)) : BitVec 512 :=
  BitVec.ofNat 512 (opc + l.foldl (fun a e => a + e.2 * 2 ^ (8 * e.1)) 0)

/-- It waits at the head of function 1, behind one in flight. -/
abbrev hs (w : BitVec 512) : State := hb.setFn 1 { cmdProd := 7, cmdCons := 3, cmds := [⟨w, 2⟩], flight := [⟨⟨0, 1⟩, .bank⟩] }
abbrev hc (w : BitVec 512) : Cmd := ⟨w, 2⟩

/-- The smallest image: one tick, no row. -/
abbrev imgHead : List Byte :=
  ([1, 0, 1, 0, 9, 0, 0, 0, 0, 0, 0, 0, 0, 0, 0, 0, 0x40, 0, 0, 0, 0x40, 0, 0, 0, 0x40, 0, 0, 0, 0x80, 0, 0, 0]
    ++ List.replicate 28 0).map (BitVec.ofNat 8)
abbrev img : List Byte :=
  imgHead ++ toBytes 4 (crc32 (imgHead ++ List.replicate 68 0)) ++ List.replicate 64 0

theorem witness_SchedulesLoadAndBind :
    (let w := cmdw 7 [(0x18, 0x2000), (0x20, 9)];
      let s := (hs w).setReg (R.pfmPdmemLim 0) 0x2040;
      let c := hc w;
      s.Calm ∧ s.nextCmd 1 (fun c => c.opc == 7 && (s.prt (s.cmdPart 1 c)).load.isNone) = some c ∧ s.fnCtl 1 = true
        ∧ c.at 0x18 8 ≠ 0 ∧ s.inWindow (s.cmdPart 1 c) (c.at 0x18 8) 64 = true)
    ∧ (∀ asked ∈ [false, true],
      let s := (gb.setPrt 0 { load := some (1, 2, 0x2000, 9), loadAsked := asked }).setReg (R.pfmPdmemLim 0) 0x2080;
      calmB s = true ∧ (s.prt 0).load = some (1, 2, 0x2000, 9) ∧ (s.prt 0).loadAsked = asked
        ∧ s.inWindow 0 0x2000 (max (ImgHead.of img).len 64) = true ∧ (ImgHead.of (img.take 64)).len = img.length
        ∧ (img.take 64).length < img.length ∧ (ImgHead.of img).len ≤ img.length ∧ s.imageOk 0 img = true)
    ∧ (∀ k ∈ [1, 4], let m : Sample := { ok := true, kind := k, status := 1, target := 5, count := 2, gen := 7, rlist := 3 }
      let b : Bind := { bx with chan := 15, mode := .wait, sample := some m, static := 2 };
      let s := bound b;
      calmB s = true ∧ s.act 15 = some b ∧ b.mode = .wait ∧ b.sample = some m ∧ m.ok = true ∧ m.status = 1
        ∧ (m.kind = 1 ∨ m.kind = 4) ∧ b.chan = 15 ∧ b.static + b.side < m.target - m.count) :=
  ⟨⟨calm_of (by decide +kernel), by decide +kernel⟩, by decide +kernel, by decide +kernel⟩

/-! ## Witnesses: the descriptor queue unit -/

/-- Indices near the wrap of 16 bits. -/
abbrev si : State := hb.setFn 1 { cmdProd := 65530, cmdCons := 65520, cplProd := 65540, cplCons := 65534, dbReads := 2 }

theorem witness_QueueIndicesMoveForward :
    (let v : W32 := 16 + 4 * 65536;
      let x := si.fn 1;
      si.fnRuns 1 = true ∧ invB si = true ∧ si.pump.waits = [] ∧ x.dbReads ≠ 0
        ∧ (v.setWidth 16 - x.cmdCons).toNat = si.cmdCap 1
        ∧ (x.cplProd.setWidth 16 - v.extractLsb' 16 16).toNat ≤ si.cplCap 1)
    ∧ (let v : W32 := 17 + 4 * 65536;
      (v.setWidth 16 - (si.fn 1).cmdCons).toNat = si.cmdCap 1 + 1)
    ∧ (let v : W32 := 16 + 5 * 65536;
      (v.setWidth 16 - (si.fn 1).cmdCons).toNat = si.cmdCap 1
        ∧ si.cplCap 1 < ((si.fn 1).cplProd.setWidth 16 - v.extractLsb' 16 16).toNat)
    ∧ (Reached si A1 (R.dqKick 1) ∧ 1 < si.nFunc) :=
  ⟨by decide +kernel, by decide +kernel, by decide +kernel, reached_of (by decide +kernel), by decide +kernel⟩

/-- Vectors 2 and 3 masked and 3 pending, with a holdoff. -/
abbrev sv : State := ((hb.setReg (R.dqVmask 1) 0xC).setReg (R.dqVpend 1) 0x8).setReg (R.dqHoldoff 1) 5

theorem witness_QueueControlAndVectors :
    (let s := (hb.setReg (R.dqCtrl 1) 0).setFn 1 { cmdProd := 7, cmdCons := 3, stalled := true };
      Reached s A1 (R.dqCtrl 1) ∧ 1 < s.nFunc ∧ (s.fn 1).idle = true)
    ∧ (let s := hs 0;
      Reached s A1 (R.dqCtrl 1) ∧ (s.fn 1).idle = false)
    ∧ (let old := sv.reg (R.dqVmask 1);
      let raised := fun v : W32 =>
        (List.range (sv.fNvec 1)).filter (fun i => old.testBit i && !v.toNat.testBit i && sv.flag (R.dqVpend 1) i)
      Reached sv A1 (R.dqVmask 1) ∧ raised 8 = [] ∧ raised 0 = [3])
    ∧ (let s := sv.setFn 1 { held := [3, 1], waitVec := [1] };
      s.holding 1 1 = true ∧ s.holding 1 3 = true ∧ (s.fn 1).waitVec.contains 1 = true ∧ (s.fn 1).waitVec.contains 3 = false)
    ∧ (let s := hb.setFn 1 { cpls := [⟨true, 2⟩, ⟨false, 1⟩] };
      invB s = true ∧ s.pump.waits = [] ∧ (s.fn 1).cpls = ⟨true, 2⟩ :: [⟨false, 1⟩])
    ∧ (let s := hb.setPrt 0 { faultQ := [(99, true)] };
      invB s = true ∧ s.pump.waits = [] ∧ (s.prt 0).faultQ = [(99, true)]) :=
  ⟨⟨reached_of (by decide +kernel), by decide +kernel⟩, ⟨reached_of (by decide +kernel), by decide +kernel⟩,
    ⟨reached_of (by decide +kernel), by decide +kernel⟩, by decide +kernel, by decide +kernel, by decide +kernel⟩

theorem witness_CommandsAreFetchedAndChecked :
    (si.readsOut < 16 ∧ (rotate si.nFunc si.fetchTurn).find? si.canFetch = some 1 ∧ si.pump.waits = []
      ∧ si.pump.reads.length < 32
      ∧ si.memBusy ⟨.command 1, si.cmdAddr 1 (si.fn 1).fetchIdx, 64 * si.fetchSize 1, some (1, si.fPort 1), false, 0⟩ = false
      ∧ si.clk.lostM = false)
    ∧ (let s := si.modFn 1 (fun x => { x with cmdReads := [(5, 0), (6, 1)] });
      s.Calm ∧ (s.fn 1).cmdReads = (5, 0) :: [(6, 1)])
    ∧ (let s := si.modFn 1 (fun x => { x with cmdReads := [(5, 1), (6, 1)] });
      let c := fun w => (⟨w, (s.fn 1).cmdCons.toNat⟩ : Cmd);
      s.Calm ∧ (s.fn 1).cmdReads = (5, 1) :: [(6, 1)] ∧ s.pstate (s.fPart 1) ≠ 3 ∧ s.stopsAt 1 (cmdw 0 []) = false
        ∧ s.stopsAt 1 (cmdw 77 []) = false ∧ s.cmdOk 1 (c (cmdw 0 [])) = true ∧ s.cmdOk 1 (c (cmdw 77 [])) = false) :=
  ⟨by decide +kernel, ⟨calm_of (by decide +kernel), by decide +kernel⟩, ⟨calm_of (by decide +kernel), by decide +kernel⟩⟩

/-- The command `w` at the head, and cistern 3 as `e`. -/
abbrev hq (w : BitVec 512) (e : Cistern := e1) : State := ent (hs w) 3 e

abbrev wArm : BitVec 512 := cmdw 1 [(0x10, 3), (6, 5), (8, 9), (0x18, 2 ^ 60 + 2 ^ 56 + 9 * 2 ^ 32 + 4 * 65536 + 0xFFFF)]
abbrev wPost (g : Nat) : BitVec 512 := cmdw 2 [(0x10, 3), (0x15, 1), (0x16, g)]
abbrev wSwap (place : Nat) : BitVec 512 := cmdw 2 [(0x10, 5 * 256 + place), (0x14, 1), (0x15, Op.swap), (0x18, 77)]
abbrev wReduce (hostMem : Nat) : BitVec 512 := cmdw 3 [(0x10, 3), (0x16, 7), (0x18, 0xFFFF00), (0x20, 0x1000), (0x28, hostMem)]
abbrev wWait : BitVec 512 := cmdw 4 [(0x10, 3), (0x16, 7), (0x18, 4), (0x1A, 5)]

theorem witness_HostCommandsOnCisterns_cisterns :
    HostServes (hs (cmdw 0 [])) 1 (hc (cmdw 0 [])) 0
    ∧ (let s := hq wArm { e1 with status := stFault };
      let c := hc wArm;
      let d := ArmDef.of c.a (BitVec.ofNat 64 (c.layer * 2 ^ 12 + c.oper));
      let e := s.entry 3;
      let x := { d.inForce e with gen := e.gen + 1, count := 0, status := stArmed, part := 0 };
      HostServes s 1 c 1 ∧ HoldsEntry s 0 c.cnum 3 ∧ s.cmdPart 1 c = 0 ∧ e.status = stFault
        ∧ s.armCheck 0 3 d (d.inForce e) = none ∧ x.kind ≠ kCredit ∧ x.met = false)
    ∧ (∀ g ∈ [7, 8], let s := hq (wPost g) { e1 with count := 3 }
      let c := hc (wPost g);
      HostServes s 1 c 2 ∧ HoldsEntry s 0 c.cnum 3 ∧ c.sub = 0 ∧ c.bop = Op.arrive ∧ (s.entry 3).status = stArmed
        ∧ (s.entry 3).kind = kBarrier ∧ s.tagged 0 c.cnum = none ∧ (s.entry 3).count.toNat + 1 < (s.entry 3).target.toNat
        ∧ c.gen = g ∧ (s.entry 3).gen.toNat = 7) := by
  refine ⟨host_of (by decide +kernel), ⟨host_of (by decide +kernel), entry_of (by decide +kernel), by decide +kernel⟩,
    fun g h => ?_⟩
  simp only [List.mem_cons, List.not_mem_nil, or_false] at h
  obtain rfl | rfl := h <;> exact ⟨host_of (by decide +kernel), entry_of (by decide +kernel), by decide +kernel⟩

theorem witness_HostCommandsOnCisterns_words :
    (let s := hs (wSwap 32);
      let c := hc (wSwap 32);
      HostServes s 1 c 2 ∧ HoldsWord s 0 c.cnum ∧ c.sub = 1 ∧ c.bop = Op.swap ∧ s.cmdPart 1 c = 0
        ∧ basinWord (s.basin (bits c.cnum 23 8)) (bits c.cnum 7 5) ≠ c.a)
    ∧ (HostServes (hs (wSwap 33)) 1 (hc (wSwap 33)) 2 ∧ postBad (hc (wSwap 33)) = true)
    ∧ (let s := hs (wReduce 1);
      let c := hc (wReduce 1);
      HostServes s 1 c 3 ∧ c.hostMem = true ∧ s.memBusy ⟨.payload 1, c.at 0x20 8, 64, some (1, s.fPort 1), false, 0⟩ = false
        ∧ s.pump.waits = [] ∧ s.pump.reads.length < 32 ∧ s.clk.lostM = false)
    ∧ (let s := hs (wReduce 0);
      let c := hc (wReduce 0);
      HostServes s 1 c 3 ∧ c.hostMem = false ∧ s.inWindow (s.fPart 1) (c.at 0x20 8) 64 = false)
    ∧ (let c := hc (wReduce 0);
      let s := (ent hb 3 { e5 with count := 3 }).setFn 1 { flight := [⟨⟨0, 1⟩, .bank⟩, ⟨c, .payload⟩] };
      let b := (s.entry 3).basin.toNat + 64 * bits c.a.toNat 5 0;
      let m := s.mode (s.entry 3).basin.toNat;
      s.Ready ∧ HoldsEntry s 0 c.cnum 3 ∧ (s.fn 1).flight.find? (fun i => i.phase == .payload) = some ⟨c, .payload⟩
        ∧ (s.fn 1).findFlight c.cidx = some ⟨c, .payload⟩ ∧ (s.entry 3).status = stArmed ∧ (s.entry 3).kind = kReduce
        ∧ c.gen = (s.entry 3).gen.toNat ∧ s.tagged 0 c.cnum = none ∧ (s.entry 3).basin ≠ 0xFFFF
        ∧ bits c.a.toNat 31 24 = m.rm ∧ bits c.a.toNat 5 0 < m.len ∧ s.holdsBasin 0 b = true
        ∧ tget false s.cst.badBasin b = false ∧ (s.lanes b).bad = false ∧ s.pump.waits = []
        ∧ (∀ j, j < 4 → tget 0 s.cst.err (errKey 1 (4 * b + j)) = 0)
        ∧ (s.entry 3).count.toNat + 1 < (s.entry 3).target.toNat)
    ∧ (HostServes ((hq wWait).setReg (R.pfmFwait 1) 0) 1 (hc wWait) 4
      ∧ ((hq wWait).setReg (R.pfmFwait 1) 0).fld (R.pfmFwait 1) 10 0 ≤ (((hq wWait).setReg (R.pfmFwait 1) 0).fn 1).waits.length)
    ∧ (let s := hq wWait;
      let c := hc wWait;
      HostServes s 1 c 4 ∧ HoldsEntry s 0 c.cnum 3 ∧ (s.fn 1).waits.length < s.fld (R.pfmFwait 1) 10 0
        ∧ s.cst.polls.all (fun v => v.cnum != c.cnum) = true ∧ s.cst.polls.length < 16) :=
  ⟨⟨host_of (by decide +kernel), word_of (by decide +kernel), by decide +kernel⟩,
    ⟨host_of (by decide +kernel), by decide +kernel⟩, ⟨host_of (by decide +kernel), by decide +kernel⟩,
    ⟨host_of (by decide +kernel), by decide +kernel⟩,
    ⟨ready_of (by decide +kernel), entry_of (by decide +kernel), by decide +kernel⟩,
    ⟨host_of (by decide +kernel), by decide +kernel⟩,
    ⟨host_of (by decide +kernel), entry_of (by decide +kernel), by decide +kernel⟩⟩

/-- Well 9 as `v`, and the command `w` on it at the head of function 1. -/
abbrev wWell (opc : Nat) (l : List (Nat × Nat)) : BitVec 512 := cmdw opc (l ++ [(0x10, 9)])
abbrev hw (w : BitVec 512) (v : W64) : State := { hs w with wel := { hb.wel with w := [(9, v)] } }

/-- The OWNER of function 1, and a well word of it, a free one, and another's. -/
abbrev me : Nat := ownerOf hb.chip 0x1001
abbrev wm : W64 := wellWord me true 5
abbrev wf : W64 := wellWord ownerFree true 5
abbrev wo : W64 := wellWord (me + 1) false (2 ^ 32 - 1)

theorem witness_HostCommandsOnWells_sem :
    (let w := wWell 5 [];
      HostServes (hw w wo) 1 (hc w) 5 ∧ HostWell (hw w wo) 1 (hc w) ∧ (hc w).sub = 0)
    ∧ (∀ k ∈ [2 ^ 32 - 1, 1], let w := wWell 5 [(0x14, 1), (0x18, k)]
      HostServes (hw w wo) 1 (hc w) 5 ∧ HostWell (hw w wo) 1 (hc w) ∧ (hc w).sub = 1
        ∧ (semSum (BitVec.ofNat 64 ((hc w).at 0x18 4)) wo = none ↔ k = 1)) := by
  refine ⟨⟨host_of (by decide +kernel), well_of (by decide +kernel), by decide +kernel⟩, fun k h => ?_⟩
  simp only [List.mem_cons, List.not_mem_nil, or_false] at h
  obtain rfl | rfl := h <;> exact ⟨host_of (by decide +kernel), well_of (by decide +kernel), by decide +kernel⟩

theorem witness_HostCommandsOnWells_lock :
    (∀ v ∈ [wf, wm], let w := wWell 6 [(0x18, wf.toNat), (0x20, (wellWord me true 77).toNat)]
      HostServes (hw w v) 1 (hc w) 6 ∧ HostWell (hw w v) 1 (hc w) ∧ (hc w).sub = 0
        ∧ wellOwner (cleanWell (hc w).b) = me ∧ wellAband (cleanWell (hc w).b) = wellAband v ∧ (v = (hc w).a ↔ v = wf))
    ∧ (let w := wWell 6 [(0x14, 1), (0x18, (wellWord ownerFree false 77).toNat)];
      HostServes (hw w wm) 1 (hc w) 6 ∧ HostWell (hw w wm) 1 (hc w) ∧ (hc w).sub = 1 ∧ wellOwner wm = me
        ∧ wellOwner (cleanWell (hc w).a) = ownerFree ∧ wellAband (cleanWell (hc w).a) = false)
    ∧ (∀ k ∈ [2, 3, 4], ∀ v ∈ [wf, wm, wo], let w := wWell 6 [(0x14, k)]
      HostServes (hw w v) 1 (hc w) 6 ∧ HostWell (hw w v) 1 (hc w) ∧ (hc w).sub = k) := by
  refine ⟨fun v h => ?_, ⟨host_of (by decide +kernel), well_of (by decide +kernel), by decide +kernel⟩, fun k hk v h => ?_⟩
  · simp only [List.mem_cons, List.not_mem_nil, or_false] at h
    obtain rfl | rfl := h <;> exact ⟨host_of (by decide +kernel), well_of (by decide +kernel), by decide +kernel⟩
  · simp only [List.mem_cons, List.not_mem_nil, or_false] at h hk
    obtain rfl | rfl | rfl := hk <;> obtain rfl | rfl | rfl := h <;>
      exact ⟨host_of (by decide +kernel), well_of (by decide +kernel), by decide +kernel⟩

theorem witness_HostCommandsOnWells_force :
    (∀ v ∈ [wm, wo], let w := wWell 6 [(0x14, 5), (0x18, me)]
      let s := (hw w v).setReg (R.welGcfg 0) 1;
      HostServes s 1 (hc w) 6 ∧ HostWell s 1 (hc w) ∧ (hc w).sub = 5 ∧ s.fld (R.welGcfg ((hc w).well / 64)) 7 0 = 1
        ∧ (wellOwner v = (hc w).a.toNat % 2 ^ 25 ↔ v = wm) ∧ wellOwner v ≠ ownerFree)
    ∧ (let w := wWell 6 [(0x14, 5), (0x18, ownerFree)];
      let s := (hw w wf).setReg (R.welGcfg 0) 1;
      HostServes s 1 (hc w) 6 ∧ HostWell s 1 (hc w) ∧ (hc w).sub = 5 ∧ s.fld (R.welGcfg ((hc w).well / 64)) 7 0 = 1
        ∧ wellOwner wf = (hc w).a.toNat % 2 ^ 25 ∧ wellOwner wf = ownerFree)
    ∧ (∀ e ∈ [(0, 2), (2 ^ 30, 0), (2 ^ 30, 2)],
      let s := ((hs (cmdw 9 [])).setReg (R.pfmFcfg 1) (2 ^ 31 + 8 + e.1)).setReg 0x10004 e.2;
      HostServes s 1 (hc (cmdw 9 [])) 9 ∧ (s.fnCtl 1 = true ↔ e.1 ≠ 0) ∧ s.pstate (s.cmdPart 1 (hc (cmdw 9 []))) = e.2) := by
  refine ⟨fun v h => ?_, ⟨host_of (by decide +kernel), well_of (by decide +kernel), by decide +kernel⟩, fun e h => ?_⟩
  · simp only [List.mem_cons, List.not_mem_nil, or_false] at h
    obtain rfl | rfl := h <;> exact ⟨host_of (by decide +kernel), well_of (by decide +kernel), by decide +kernel⟩
  · simp only [List.mem_cons, List.not_mem_nil, or_false] at h
    obtain rfl | rfl | rfl := h <;> exact ⟨host_of (by decide +kernel), by decide +kernel⟩

/-! ## Witnesses: partitions, functions, units, wells, registers and snapshots -/

/-- Partition 0 in STOPPED. -/
abbrev st0 : State := hb.setReg 0x10004 0

theorem witness_PartitionSettingsAreLocked :
    (∀ units ∈ [false, true], Reached st0 A0 (if units then R.hgPcredUnits 0 else R.hgPcredFirst 0))
    ∧ Reached st0 A0 (R.hgPchan 0) ∧ Reached st0 A0 (R.hgPstage 0) ∧ Reached hb A0 (R.hgPchan 0)
    ∧ (∀ off ∈ [0x14, 0x30, 0x34, 0x38, 0x3C, 0x40, 0x44, 0x48], Reached st0 A0 (R.pfmPctrl 0 + off))
    ∧ (let s := (st0.setReg (R.pfmFcfg 2) (2 ^ 31 + 8)).setReg (R.pfmFwait 2) 1;
      let t := fun n => (s.crossing A0).setReg (R.pfmFwait 1) n;
      Reached s A0 (R.pfmFwait 1) ∧ 1 < s.nFunc ∧ bits 1025 10 0 = 1025 ∧ ((t 1024).fEn 1 && (t 1024).poolOut) = true
        ∧ ((t 1023).fEn 1 && (t 1023).poolOut) = false ∧ s.fEn 1 = true ∧ (t 1023).fEn 1 = true)
    ∧ (let t := (st0.crossing A0).setReg (R.pfmFcfg 1) ((st0.crossing A0).fcfgWord 1 0);
      Reached st0 A0 (R.pfmFcfg 1) ∧ st0.fEn 1 = true ∧ (t.fEn 1 && t.poolOut) = false ∧ t.fEn 1 = false) := by
  refine ⟨fun u h => ?_, reached_of (by decide +kernel), reached_of (by decide +kernel), reached_of (by decide +kernel),
    fun o h => ?_, ⟨reached_of (by decide +kernel), by decide +kernel⟩, ⟨reached_of (by decide +kernel), by decide +kernel⟩⟩
  · simp only [List.mem_cons, List.not_mem_nil, or_false] at h
    obtain rfl | rfl := h <;> exact reached_of (by decide +kernel)
  · simp only [List.mem_cons, List.not_mem_nil, or_false] at h
    obtain rfl | rfl | rfl | rfl | rfl | rfl | rfl | rfl := h <;> exact reached_of (by decide +kernel)

theorem witness_UnitSettingsAreChecked_entries :
    (∀ w ∈ [0, 1, 2], Reached st0 A0 (R.culFchCfg 63 + 4 * w) ∧ Reached st0 A0 (R.culRrtSrc 1023 + 4 * w))
    ∧ (∀ i ∈ [0, 15], Reached st0 A0 (R.obsScfg i))
    ∧ (let v : W32 := 0xA0038000 + 31 * 2 ^ 23;
      bits v.toNat 30 29 ≠ 3 ∧ bits v.toNat 17 12 = 56 ∧ bits v.toNat 27 23 + 1 = st0.nPart)
    ∧ Reached st0 A0 (R.obsGsel 9) ∧ Reached st0 A0 (R.obsPsel 1 (9 % 64)) ∧ (0x80000003 : W32).getLsbD 31 = true := by
  refine ⟨fun w h => ?_, fun i h => ?_, by decide +kernel, reached_of (by decide +kernel), reached_of (by decide +kernel),
    by decide +kernel⟩
  · simp only [List.mem_cons, List.not_mem_nil, or_false] at h
    obtain rfl | rfl | rfl := h <;> exact ⟨reached_of (by decide +kernel), reached_of (by decide +kernel)⟩
  · simp only [List.mem_cons, List.not_mem_nil, or_false] at h
    obtain rfl | rfl := h <;> exact reached_of (by decide +kernel)

/-- The fences of taps 0 to 31 that a write of `v` adds. -/
abbrev newFences (s : State) (v : W32) : List Nat :=
  let keep := (List.range 32).foldl (fun a b => if 32 * 0 + b < s.nGood ∧ v.toNat.testBit b then a + 2 ^ b else a) 0;
  (List.range 32).filter (fun b => keep.testBit b && !(s.reg (R.spFence 0)).testBit b)

theorem witness_UnitSettingsAreChecked_units :
    (Reached st0 A0 (R.spFence 0) ∧ 32 * 0 < st0.nTap ∧ newFences st0 0 = [] ∧ newFences st0 4 = [2] ∧ st0.physical 2 = some 2
      ∧ Reached { st0 with build := .c } A0 (R.spFence 127) ∧ ({ st0 with build := .c } : State).nTap ≤ 32 * 127)
    ∧ (let s := (st0.setReg 0x10080 (65536 * 2)).setReg 0x10098 (65536 * 2);
      Reached s A0 (R.spBmode 0) ∧ s.ownerBasin 0 = some 0 ∧ s.ownerBasin 64 = some 0 ∧ (s.crossing A0).wasLocked 0 = false
        ∧ rmReserved (0xBFFF4004 % 256) = false ∧ rmReserved (bits 0x00018003 23 16) = false)
    ∧ (Reached hb A0 (R.spBmode 0) ∧ (hb.crossing A0).wasLocked 0 = true
      ∧ ∀ h, h < 2 → hb.ownerBasin (64 * (2 * 0 + h)) = none ∨ hb.ownerBasin (64 * (2 * 0 + h)) = some 0)
    ∧ (Reached st0 A0 R.culJoin ∧ (0x80000003 : W32).getLsbD 31 = true) :=
  ⟨⟨reached_of (by decide +kernel), by decide +kernel, by decide +kernel, by decide +kernel, by decide +kernel,
      reached_of (by decide +kernel), by decide +kernel⟩,
    ⟨reached_of (by decide +kernel), by decide +kernel⟩, ⟨reached_of (by decide +kernel), by decide +kernel⟩,
    ⟨reached_of (by decide +kernel), by decide +kernel⟩⟩

/-- Wells of function 1 and of others, one of them poisoned, with function 1 pending to be freed. -/
abbrev sPass : State :=
  let w : Wel := { w := [(70, wellWord 0x1001 false 9), (71, wellWord 0x1001 true 9), (130, wellWord 77 false 3)],
                   poison := [(71, true)], pend := [(0, 0x1001)] }
  { st0 with wel := w }

theorem witness_WellServiceFreesAndInitialises_groups :
    (∀ w ∈ [0, 1, 2], let off := R.welGacq 1 + 4 * w
      let b := st0.built off 5;
      Reached st0 A0 off
        ∧ (st0.crossing A0).groupLocks 1 (if w = 0 then b else st0.reg (R.welGacq 1)) (if w = 1 then b else st0.reg (R.welGrd 1))
          = [])
    ∧ (∀ w ∈ [0, 1, 2], Reached hb A0 (R.welGacq 0 + 4 * w))
    ∧ (0 < hb.nPart ∧ (hb.crossing A0).wasLocked 0 = true ∧ (hb.reg (R.welGacq 0)).testBit 0 = true)
    ∧ (Reached st0 A0 (R.welGstat 1) ∧ (st0.crossing A0).groupLocks 1 0 0 = [] ∧ st0.flag (R.welGcfg 1) 31 = false)
    ∧ (let s := st0.setFlag (R.welGcfg 1) 31 true;
      Reached s A0 (R.welGstat 1) ∧ (s.crossing A0).groupLocks 1 0 0 = [] ∧ s.flag (R.welGcfg 1) 31 = true)
    ∧ (Reached hb A0 (R.welGstat 0) ∧ (hb.crossing A0).groupLocks 0 0 0 ≠ [])
    ∧ (let s := sPass.setReg (R.welGstat 1) 3;
      s.Inv ∧ s.flag (R.welGstat 1) 0 = true) := by
  refine ⟨fun w h => ?_, fun w h => ?_, by decide +kernel, ⟨reached_of (by decide +kernel), by decide +kernel⟩,
    ⟨reached_of (by decide +kernel), by decide +kernel⟩, ⟨reached_of (by decide +kernel), by decide +kernel⟩,
    ⟨inv_of (by decide +kernel), by decide +kernel⟩⟩
  · simp only [List.mem_cons, List.not_mem_nil, or_false] at h
    obtain rfl | rfl | rfl := h <;> exact ⟨reached_of (by decide +kernel), by decide +kernel⟩
  · simp only [List.mem_cons, List.not_mem_nil, or_false] at h
    obtain rfl | rfl | rfl := h <;> exact reached_of (by decide +kernel)

theorem witness_WellServiceFreesAndInitialises_passes :
    (sPass.wel.pass = none ∧ sPass.wel.pend ≠ [])
    ∧ (let s : State := { sPass with wel := { sPass.wel with pass := some [(0, 0x1001)], pend := [] } };
      s.Inv ∧ s.wel.pass = some [(0, 0x1001)] ∧ s.cst.err = [] ∧ s.wel.passPos ≤ 70 / 128
        ∧ inSet [(0, 0x1001)] (wellOwner (s.well 70) / 2 ^ 13) (wellOwner (s.well 70) % 2 ^ 13) = true)
    ∧ (let s := (((hb.setReg (R.hgPcredUnits 0) 65536).setGrant 3 { state := 2, gen := 7 }).setHeldWrite
        (holdKey A0 (R.hgCredClr + 4)) (some (R.hgCredClr, 3)))
      let s := ent s 3 { e1 with kind := 3 };
      Reached s A0 (R.hgCredClr + 4) ∧ HoldsEntry s 0 3 3 ∧ s.grantOwner 3 = some (0, 3) ∧ (s.grant 3).state = 2
        ∧ (s.entry 3).status = stArmed
        ∧ (s.entry 3).count.toNat + s.loHalf (holdKey A0 (R.hgCredClr + 4)) R.hgCredClr % 2 ^ 20 = (s.entry 3).target.toNat)
    ∧ (∀ sp ∈ [0, 2], let x : Fwd := { chip := 3, tag := 5, master := 0x1001, op := st0.reqOp (q 256 0 0 0 0 sp) Op.read 0 }
      ([{ x with tag := 4 }, x] : List Fwd).find? (fun y => y.op.space == sp && y.tag == (5 : BitVec 8).toNat) = some x) :=
  ⟨by decide +kernel, ⟨inv_of (by decide +kernel), by decide +kernel⟩,
    ⟨reached_of (by decide +kernel), entry_of (by decide +kernel), by decide +kernel⟩, by decide +kernel⟩

/-- How a word stands in its pair, and the offset of a descriptor. -/
abbrev pairOf (off : Nat) : Option PairWord := (descOf false off).map (·.pair)

theorem witness_RegisterPairsAreHeld :
    (Reached st0 A0 0x30001 ∧ Reached st0 A0 0x30000 ∧ (1 : BitVec 2) ≠ 2 ∧ 0x30001 % 4 ≠ 0 ∧ st0.rst.por = false
      ∧ (A0.dbg && st0.dbgClosed) = false)
    ∧ (Reached st0 A0 0x3ff4 ∧ descOf st0.isC 0x3ff4 = none ∧ st0.regGate A0 0x3ff4 false = .answered)
    ∧ (st0.regGate A0 0x8 false = .answered ∧ pairOf 0x8 = some .single)
    ∧ (Reached st0 A0 R.hgEpoch ∧ pairOf R.hgEpoch = some .lo ∧ R.hgEpoch % 4 = 0 ∧ R.hgEpoch < 2 ^ 21
      ∧ st0.regGate A0 R.hgEpoch false = .answered)
    ∧ (let s := st0.setCapture (holdKey A0 (R.hgEpoch + 4)) (some (R.hgEpoch, 99));
      s.regGate A0 (R.hgEpoch + 4) false = .answered ∧ pairOf (R.hgEpoch + 4) = some .hi
        ∧ (tget {} s.holds (holdKey A0 (R.hgEpoch + 4))).cap = some (R.hgEpoch, 99))
    ∧ (st0.regGate A0 (R.hgEpoch + 4) false = .answered
      ∧ ∀ e, (tget {} st0.holds (holdKey A0 (R.hgEpoch + 4))).cap = some e → e.1 + 4 ≠ R.hgEpoch + 4) :=
  ⟨⟨reached_of (by decide +kernel), reached_of (by decide +kernel), by decide +kernel⟩,
    ⟨reached_of (by decide +kernel), by decide +kernel⟩, by decide +kernel,
    ⟨reached_of (by decide +kernel), by decide +kernel⟩, by decide +kernel, by decide +kernel, fun e h => by
      have : (tget {} st0.holds (holdKey A0 (R.hgEpoch + 4))).cap = none := by decide +kernel
      rw [this] at h
      cases h⟩

theorem witness_PartitionCommandsChangeState :
    (∀ v ∈ [0, 1, 2, 3], Reached (hb.setReg 0x10004 v) A0 (R.pfmPctrl 0) ∧ (hb.setReg 0x10004 v).pstate 0 = v)
    ∧ (let s := (hb.setReg 0x10004 3).setPrt 0 { begun := true, qTick := 5 };
      s.Inv ∧ s.pstate 0 = 3 ∧ s.drained 0 = true)
    ∧ (∀ k ∈ [(0, 9), (3, 7), (3, 8)],
      let s0 := (hb.setReg 0x10004 3).setPrt 0 { begun := true, qTick := 5 };
      let s : State := { s0.setReg (R.pfmPqto 0) k.1 with grid := { running := true, begun := true, tick := k.2, slot := 0 } };
      invB s = true ∧ s.pstate 0 = 3 ∧ s.fld (R.pfmPqto 0) 15 0 = k.1
        ∧ (k.1 ≠ 0 ∧ (s.prt 0).qTick + k.1 ≤ s.grid.tick ↔ k = (3, 8))) := by
  refine ⟨fun v h => ?_, ⟨inv_of (by decide +kernel), by decide +kernel⟩, by decide +kernel⟩
  simp only [List.mem_cons, List.not_mem_nil, or_false] at h
  obtain rfl | rfl | rfl | rfl := h <;> exact ⟨reached_of (by decide +kernel), by decide +kernel⟩

/-- 300 spilled cisterns of partition 0, and a copier with credit. -/
abbrev sn : State :=
  let s := ((st0.setReg (R.pfmPcstFrame 0) 6).setReg (R.pfmPspillNum 0) 300).setReg (R.pfmPspillFirst 0) 0x200000;
  s.setChan s.snapChan { credit := 5000 }
abbrev sn0 : Snap := { tick := 5, area := 1, todo := [(2 * 2 ^ 20, 2 * 2 ^ 20 + 64)], cmds := [] }

/-- An area that the RESTORE of partition 0 takes. -/
abbrev area0 (s : State) : List Byte :=
  [1, 0] ++ List.replicate 14 0 ++ toBytes 4 (s.reg (R.pfmPcstRes 0)) ++ toBytes 4 (s.reg (R.pfmPbasin 0))
    ++ toBytes 4 (s.reg (R.pfmPrldir 0)) ++ toBytes 4 (s.reg (R.pfmPrlbody 0)) ++ toBytes 4 (s.reg (R.pfmPcstFrame 0))
    ++ toBytes 4 (s.spillNum 0) ++ List.replicate 20 0 ++ toBytes 4 1 ++ List.replicate 300 7

theorem witness_SnapshotsCopyAndRestore :
    (∀ n ∈ [{ sn0 with buf := [(5, 2, [(0x1000, 8, 7)])] }, { sn0 with images := 299 }, { sn0 with images := 300, head := [(0, 64, 9)] },
        { sn0 with images := 300 }, { sn0 with images := 300, todo := [], sent := 4, answered := 4 }],
      let s := sn.setPrt 0 { snap := some n };
      stillB s = true ∧ (s.prt 0).snap = some n ∧ s.chosen = some s.snapChan ∧ s.snapDue 0 n = true
        ∧ (s.snapWritten 0 n = true ↔ n.todo = []) ∧ s.clk.lostM = false ∧ s.spillNum 0 = 300
        ∧ (n.next.isSome = true ↔ n.todo ≠ []))
    ∧ (Reached st0 A0 (R.culPsnapCtrl 0) ∧ 0 < st0.nPart ∧ st0.pstate 0 = 0 ∧ (st0.prt 0).restoring = false
      ∧ (st0.crossing A0).wasLocked 0 = false ∧ st0.areaOk 0 [] = false ∧ st0.areaOk 0 (area0 st0) = true
      ∧ st0.resBase 0 + 4095 < st0.resEnd 0 ∧ st0.isFrame (st0.resBase 0 + 4095) = false
      ∧ st0.basinBase 0 + 63 < st0.basinEnd 0 ∧ st0.bodyBase 0 < st0.bodyEnd 0)
    ∧ (let s : State := { st0.setPrt 0 { restoring := true } with
        pump := { writes := [⟨.restore 0, 4, 8, none, true, 0⟩, ⟨.snapshot 0, 4, 8, none, true, 0⟩] } };
      (s.prt 0).restoring = true ∧ s.pump.waits = []) :=
  ⟨by decide +kernel, ⟨reached_of (by decide +kernel), by decide +kernel⟩, by decide +kernel⟩

/-! ## Witnesses: the Pump -/

/-- Channel 3 of function 1 and partition 0 in state `st`. -/
abbrev pb (st : Nat) : State :=
  let s := ((((hb.setReg (R.pmpCcfg 3) (65536 + 2)).setReg (R.pmpChead 3) 0x4041).setReg (R.pmpCcur 3) 0x5000).setReg
    (R.pfmPpump 0) 8).setReg (R.pfmPdmemLim 0) 0x100000
  ((s.setReg (R.pmpFsel 1) 3).setReg (R.pmpCshare 3) 100).setCstate 3 st

theorem witness_PumpCommandsChangeState :
    (∀ st ∈ [0, 1, 2, 3, 4, 5, 6], Reached (pb st) A0 (R.pmpCcfg 3) ∧ 3 < (pb st).snapChan ∧ (pb st).cstate 3 = st
      ∧ (pb st).pumpStopped = false ∧ Reached (pb st) A0 (R.pmpChead 3 + 4) ∧ Reached (pb st) A0 (R.pmpCcmd 3)
      ∧ Reached (pb st) A1 (R.pmpFhead 1 + 4) ∧ Reached (pb st) A1 (R.pmpFcmd 1) ∧ (pb st).viewChan (accFn A1) = some 3)
    ∧ ((0x80000000 : W32).getLsbD 31 = true ∧ (0x7FFFFFFF : W32).getLsbD 31 = false)
    ∧ (let s := pb 0;
      Reached s A0 (R.pmpCcfg 63) ∧ Reached s A0 (R.pmpChead 63 + 4) ∧ Reached s A0 (R.pmpCcmd 63) ∧ s.snapChan ≤ 63 ∧ 63 < s.nChan)
    ∧ (let s : State := { pb 2 with build := .c };
      Reached s A0 (R.pmpCcfg 3) ∧ s.isC = true ∧ 3 < s.snapChan ∧ s.cstate 3 = 2)
    ∧ (let s := (pb 1).setReg (R.pmpCcnt 3) 3;
      s.chanFuncOk 3 = true ∧ s.ccnt 3 + (65532 : BitVec 16).toNat = 65535 ∧ 65535 < s.ccnt 3 + (65533 : BitVec 16).toNat)
    ∧ Reached (pb 4) A0 R.pmpCtrl
    ∧ (let s := ((pb 4).setFlag R.pmpStatus 1 true).setFlag R.pmpCtrl 0 true;
      s.Inv ∧ s.flag R.pmpCtrl 0 = true ∧ s.pumpQuiet = true ∧ s.cstate 3 = 4) := by
  refine ⟨fun st h => ?_, by decide +kernel,
    ⟨reached_of (by decide +kernel), reached_of (by decide +kernel), reached_of (by decide +kernel), by decide +kernel⟩,
    ⟨reached_of (by decide +kernel), by decide +kernel⟩, by decide +kernel, reached_of (by decide +kernel),
    ⟨inv_of (by decide +kernel), by decide +kernel⟩⟩
  simp only [List.mem_cons, List.not_mem_nil, or_false] at h
  obtain rfl | rfl | rfl | rfl | rfl | rfl | rfl := h <;>
    exact ⟨reached_of (by decide +kernel), by decide +kernel, by decide +kernel, by decide +kernel,
      reached_of (by decide +kernel), reached_of (by decide +kernel), reached_of (by decide +kernel),
      reached_of (by decide +kernel), by decide +kernel⟩

/-- Channel 3 ACTIVE with two descriptors to do, the next at 0x4040. -/
abbrev pa : State := ((pb 2).setReg (R.pmpCcnt 3) 2).setChan 3 { nextAddr := 0x4040, credit := 10000 }

/-- A descriptor word. -/
abbrev dw (src dst next flags len : Nat) : BitVec 256 :=
  BitVec.ofNat 256 (src + dst * 2 ^ 64 + next * 2 ^ 128 + flags * 2 ^ 176 + len * 2 ^ 192)

/-- A copy of 5000 bytes, and an ARRIVE on cistern 3. -/
abbrev dd : PDesc := { addr := 0x4040, host := false, data := dw 0x100 0x2000 0x60 2 5000 }
abbrev od : PDesc := { addr := 0x4040, host := false, data := dw (Op.arrive + 3 * 65536 + 7 * 2 ^ 48) 0 0x60 8 0 }

theorem witness_PumpMovesBytes_reads :
    (pa.chosen = some 3 ∧ pa.canReadDesc 3 = true ∧ pa.clk.lostM = false ∧ pa.lineFetched 3 = false
      ∧ (∀ p, p < pa.nPart → pa.chanPart 3 = some p → pa.inWindow p 0x4040 32 = true))
    ∧ (let s := pa.setChan 3 { nextAddr := 0x100FF0, credit := 10000 };
      s.chosen = some 3 ∧ s.canReadDesc 3 = true ∧ invB s = true ∧ s.chanPart 3 = some 0 ∧ (s.chan 3).nextHost = false
        ∧ s.inWindow 0 (s.chan 3).nextAddr 32 = false ∧ (s.chan 3).descs = [] ∧ (s.chan 3).wb = none)
    ∧ (let s := pa.modChan 3 (fun x => { x with reading := true });
      let d := fun w => ({ addr := 0x4040, host := false, data := w } : PDesc);
      invB s = true ∧ (s.chan 3).reading = true ∧ s.cstate 3 = 2 ∧ (s.chan 3).descs = [] ∧ (s.chan 3).wb = none
        ∧ (s.chan 3).noProg = false ∧ s.descBad 3 (d (dw 0x100 0x2000 0x60 0 64)) = 0 ∧ 0 < (d (dw 0x100 0x2000 0x60 0 64)).len
        ∧ s.descBad 3 (d (dw 0x100 0x2000 0x61 0 64)) ≠ 0 ∧ s.descBad 3 (d od.data) = 0 ∧ (d od.data).isOp = true)
    ∧ (let s := pa.setChan 3 { descs := [{ dd with cut := 16 }, od, od], base := 7, credit := 10000 };
      s.chosen = some 3 ∧ 3 ≠ s.sumpChan ∧ s.canBurst 3 = true ∧ s.clk.lostM = false
        ∧ nextCut (s.chan 3).descs 0 = some (0, { dd with cut := 16 })) := by
  decide +kernel

/-- A burst of 16 bytes, its bytes `written` or not. -/
abbrev burst (w : Bool) : Burst := { desc := 7, off := 0, len := 16, written := w }

theorem witness_PumpMovesBytes_writes :
    (∀ w ∈ [false, true],
      let s := pa.setChan 3 { descs := [{ dd with cut := 16 }], base := 7, credit := 10000, bursts := [burst w] };
      3 < s.snapChan ∧ s.cstate 3 ≠ 6
        ∧ (s.chan 3).bursts.find? (fun b => b.written == w && !b.okay && !b.failed) = some (burst w)
        ∧ (s.chan 3).descOf (burst w) = some { dd with cut := 16 })
    ∧ (let s := pa.setChan 3 { descs := [dd], wb := some 1 };
      s.Inv ∧ s.pump.waits = [] ∧ (s.chan 3).wb = some 1 ∧ (s.chan 3).descs = [dd] ∧ s.cstate 3 ≠ 6)
    ∧ (let s := (pb 6).setChan 3 { endDis := true };
      s.Inv ∧ (s.chan 3).quiet = true ∧ (s.chan 3).opRsp = none ∧ s.cstate 3 = 6 ∧ (s.chan 3).reset = false)
    ∧ (let s := (pb 3).setChan 3 { endDis := true };
      s.Inv ∧ (s.chan 3).quiet = true ∧ s.cstate 3 = 3 ∧ (s.chan 3).descs = [])
    ∧ (let s := (pb 3).setChan 3 { descs := [dd], endDis := true };
      s.Inv ∧ (s.chan 3).quiet = true ∧ s.cstate 3 = 3 ∧ (s.chan 3).descs = [dd] ∧ dd.bad = 0 ∧ dd.cut < dd.len) :=
  ⟨by decide +kernel, ⟨inv_of (by decide +kernel), by decide +kernel⟩, ⟨inv_of (by decide +kernel), by decide +kernel⟩,
    ⟨inv_of (by decide +kernel), by decide +kernel⟩, ⟨inv_of (by decide +kernel), by decide +kernel⟩⟩

theorem witness_PumpMovesBytes_operations :
    (let s := ent (pa.setChan 3 { descs := [od] }) 3 { e1 with count := 3 };
      let q := pumpReq 3 od;
      Serves s q 0 3 ∧ (s.chan 3).descs = od :: [] ∧ od.isOp = true ∧ od.bad = 0 ∧ s.cstate 3 = 2 ∧ s.pumpStopped = false
        ∧ s.chanHeld 3 = false ∧ (s.chan 3).opOut = false ∧ (s.chan 3).opRsp = none ∧ (s.chan 3).wb = none ∧ 3 < s.snapChan
        ∧ od.opc = Op.arrive ∧ (s.entry 3).status = stArmed ∧ (s.entry 3).kind = kBarrier ∧ q.gen = (s.entry 3).gen
        ∧ s.tagged 0 3 = none ∧ (s.entry 3).count.toNat + 1 < (s.entry 3).target.toNat)
    ∧ (let r : BankRsp := { result := Res.completed };
      let s := pa.setChan 3 { descs := [od], opRsp := some r };
      s.Inv ∧ (s.chan 3).opRsp = some r ∧ (s.chan 3).descs = [od] ∧ s.cstate 3 = 2 ∧ s.pumpStopped = false) :=
  ⟨⟨serves_of (by decide +kernel), by decide +kernel⟩, ⟨inv_of (by decide +kernel), by decide +kernel⟩⟩

/-! ## Witnesses: observation -/

/-- A halt mask of three partitions, a halted partition 1, and a break mask for partition 0. -/
abbrev hl : State := ((hb.setReg R.obsHmask 7).setPrt 1 { halted := true }).setReg (R.obsPbrk 0) 3

/-- A halt or resume beat on port 1. -/
abbrev hbeat (pay : Nat) : Beat := { btype := 1, dst := 0, src := 3, beat := 0, last := true, pay := pay }
abbrev rxp (s : State) (b : Beat) : State := s.modPort 1 (fun x => { x with rx := [b] })

theorem witness_HaltsReachPartitions :
    (hl.Calm ∧ Reached hl A0 R.obsHcmd ∧ hl.tapPart 31 = some 0 ∧ hl.up = true ∧ hl.reg (R.obsPbrk 0) ≠ 0 ∧ hl.rst.kst ≠ 3)
    ∧ (hb.Calm ∧ hb.tapPart 31 = some 0 ∧ hb.reg (R.obsPbrk 0) = 0)
    ∧ (let s : State := { hl with rst := { hl.rst with kst := 3 } };
      s.Calm ∧ s.tapPart 31 = some 0 ∧ s.up = true ∧ s.rst.kst = 3)
    ∧ (∀ k ∈ [2, 1], let s := (grun hl 5 0).setReg R.culMcfg k
      Reached s A0 R.obsHcmd ∧ (s.tickno + 1 < s.leadTick ↔ k = 2))
    ∧ (∀ k ∈ [8, 9], ∀ e ∈ [6, 7], let b := hbeat (haltPay k false 3 99 7 e)
      let s := rxp (grun hl 5 0) b;
      calmB s = true ∧ s.up = true ∧ (s.port 1).rx = [b] ∧ b.beat = 0 ∧ b.last = true ∧ b.btype = 1
        ∧ b.pay.testBit 4 = false ∧ b.pay % 16 = k ∧ (bits b.pay 123 76 ≤ s.tickno + 1 ↔ e = 6)) := by
  refine ⟨⟨calm_of (by decide +kernel), reached_of (by decide +kernel), by decide +kernel⟩,
    ⟨calm_of (by decide +kernel), by decide +kernel⟩, ⟨calm_of (by decide +kernel), by decide +kernel⟩, fun k h => ?_,
    by decide +kernel⟩
  simp only [List.mem_cons, List.not_mem_nil, or_false] at h
  obtain rfl | rfl := h <;> exact ⟨reached_of (by decide +kernel), by decide +kernel⟩

theorem witness_StopAndStartFixTheirTick :
    Reached hl A0 R.obsHcmd
    ∧ (∀ k ∈ [8, 9], let b := hbeat (haltPay k true 3 99 7 6)
      let s := rxp (grun hl 5 0) b;
      calmB s = true ∧ s.up = true ∧ (s.port 1).rx = [b] ∧ b.beat = 0 ∧ b.last = true ∧ b.btype = 1
        ∧ b.pay.testBit 4 = true ∧ b.pay % 16 = k)
    ∧ (let s : State := { lk 4 with stop := { inForce := true, e := 65538 } };
      let u := s.setPort 0 { mark := some 3, replay := [(7, (flitBeat (Flit.pack { fkind := 1, beat := { btype := 2 } })).pay)] };
      u.stop.inForce = true ∧ u.stop.cut = false ∧ u.upPorts = [0]
        ∧ u.upPorts.all (fun k => u.markCame k && u.markAcked k) = true ∧ u.reportsIn = true)
    ∧ (let s := hl.setFld (R.obsTclk 7) 15 0 16;
      s.up = true ∧ s.fld (R.obsTclk 7) 31 30 ≠ 2 ∧ s.fld (R.obsTclk 7) 15 0 ≠ 0 ∧ 15 * 16 ≤ 16 * 15 ∧ ¬ 15 * 16 ≤ 16 * 14)
    ∧ (let s := (hl.setFld (R.obsTclk 7) 15 0 16).setFld (R.obsTclk 7) 31 30 2;
      s.up = true ∧ s.fld (R.obsTclk 7) 31 30 = 2) :=
  ⟨reached_of (by decide +kernel), by decide +kernel, by decide +kernel, by decide +kernel, by decide +kernel⟩

/-- A DUMP_TENSOR of 64 bytes from the first byte of memory unit `munit`. -/
abbrev dcmd (munit row : Nat) : BitVec 512 :=
  cmdw 8 [(0x10, 0x1000), (0x18, 0x2000), (0x20, row), (0x24, 1), (0x26, 1), (0x28, 0), (0x2C, 0), (0x36, munit),
    (0x30, 2 ^ 48 - 1)]

/-- It at the head, with a window up to page `lim`, and the first `n` dump entries used. -/
abbrev sd (w : BitVec 512) (lim n : Nat) : State :=
  let s := (hs w).setReg (R.pfmPdmemLim 0) lim;
  { s with obs := { s.obs with dumps := (List.range n).map (fun i =>
      (i, some ({ func := 1, cidx := 1, part := 0, cmd := 0, order := 0 } : Dump))) } }

theorem witness_DumpsTakeAndFreeEntries :
    (let w := dcmd 0 64;
      let x : Dump := { func := 1, cidx := 2, part := 0, cmd := w, order := 0 };
      (∀ n ∈ [0, 15, 16], HostServes (sd w 0x100000 n) 1 (hc w) 8)
        ∧ (sd w 0x100000 0).fnCtl 1 = true ∧ (sd w 0x100000 0).dumpFormat x = false ∧ (sd w 0x100000 0).dumpInside x = true
        ∧ (∀ d, d < 16 → tget none (sd w 0x100000 16).obs.dumps d ≠ none)
        ∧ tget none (sd w 0x100000 15).obs.dumps 15 = none ∧ (∀ d, d < 15 → tget none (sd w 0x100000 15).obs.dumps d ≠ none)
        ∧ (sd w 0 0).dumpFormat x = false ∧ (sd w 0 0).dumpInside x = false ∧ HostServes (sd w 0 0) 1 (hc w) 8)
    ∧ (let w := dcmd 0 0;
      HostServes (sd w 0x100000 0) 1 (hc w) 8
        ∧ (sd w 0x100000 0).dumpFormat { func := 1, cidx := 2, part := 0, cmd := w, order := 0 } = true)
    ∧ (let w := dcmd 0 64;
      let s := (sd w 0x100000 0).setReg (R.pfmFcfg 1) (2 ^ 31 + 8);
      HostServes s 1 (hc w) 8 ∧ s.fnCtl 1 = false)
    ∧ (∀ a ∈ [127, 128], let w := dcmd 0 64
      let x : Dump := { func := 1, cidx := 2, part := 0, cmd := w, order := 0, armed := false, read := 64, answered := a };
      let s0 := hb.setFn 1 { flight := [⟨hc w, .dump 3⟩] };
      let s : State := { s0 with obs := { s0.obs with dumps := [(3, some x)] } };
      calmB s = true ∧ tget none s.obs.dumps 3 = some x ∧ x.read = x.total ∧ (x.answered = x.total + 64 ↔ a = 128)
        ∧ (s.fn 1).findFlight 2 = some ⟨hc w, .dump 3⟩) := by
  refine ⟨⟨fun n h => ?_, by decide +kernel, by decide +kernel, by decide +kernel, by decide +kernel, by decide +kernel,
    by decide +kernel, by decide +kernel, by decide +kernel, host_of (by decide +kernel)⟩,
    ⟨host_of (by decide +kernel), by decide +kernel⟩, ⟨host_of (by decide +kernel), by decide +kernel⟩, by decide +kernel⟩
  simp only [List.mem_cons, List.not_mem_nil, or_false] at h
  obtain rfl | rfl | rfl := h <;> exact host_of (by decide +kernel)

/-! ## Witnesses: the Gauge -/

/-- `ws` with the right CRC. -/
abbrev crcd (ws : List (BitVec 16)) : List (BitVec 16) := ws ++ [BitVec.ofNat 16 (crc16 ws)]
abbrev frA : GFrame := ⟨0x1000, [5, 6]⟩
abbrev frB : GFrame := ⟨0x2000, [7, 8]⟩

theorem witness_MeterLinkSendsFrames :
    (st0.glink.flight = none ∧ ∀ l ∈ [[], [frB]], let s : State := { st0 with glink := { flight := some frA, queue := l } }
      s.glink.flight = some frA ∧ s.glink.queue = l)
    ∧ ((grun gb 3 2).flag R.hgCtrl 0 = true ∧ st0.flag R.hgCtrl 0 = false ∧ st0.up = true ∧ st0.rst.kst ≠ 3
      ∧ st0.glink.flight = none ∧ st0.glink.queue = [])
    ∧ (∀ n ∈ [3, 4], let s : State := { st0 with glink := { queue := List.replicate n frB } }
      Reached s A0 R.pfmGauMark ∧ Reached s A0 (R.pfmGauCfgw + 4) ∧ bits (0x8000001F : W32).toNat 4 0 + 1 = s.nPart
        ∧ (4 ≤ s.glink.marks ↔ n = 4))
    ∧ (let ws := crcd [0x8000, 0xC, 2, 0x1234, 0x5678];
      crcOk [1, 2, 3] = false ∧ (∃ c, ws = [0x8000, 0xC, 2, 0x1234, 0x5678, c]) ∧ crcOk ws = true ∧ 0xC % 4 = 0
        ∧ (descOf st0.isC (0xC0000 + 0xC)).isSome = true ∧ invB st0 = true)
    ∧ (Reached st0 A0 R.pfmPriv ∧ st0.flag R.pfmCfgId 13 = false
      ∧ (∀ v ∈ [0, 64], let s := (st0.setReg R.pfmCfgId (2 ^ 13)).setReg R.gauStatus v
        Reached s A0 R.pfmPriv ∧ s.flag R.pfmCfgId 13 = true ∧ (s.flag R.gauStatus 6 = true ↔ v = 64))) := by
  refine ⟨by decide +kernel, by decide +kernel, fun n h => ?_, ⟨by decide +kernel, ⟨_, rfl⟩, by decide +kernel⟩,
    reached_of (by decide +kernel), by decide +kernel, fun v h => ?_⟩ <;>
  · simp only [List.mem_cons, List.not_mem_nil, or_false] at h
    obtain rfl | rfl := h <;> first
      | exact ⟨reached_of (by decide +kernel), reached_of (by decide +kernel), by decide +kernel⟩
      | exact ⟨reached_of (by decide +kernel), by decide +kernel⟩

/-- An island that is powered, took frame 6 last, and has a log to write. -/
abbrev gi : State :=
  { st0 with island := { up := true, lastFseq := 6, period := 900, logBase := 16, logNsect := 64, areaBase := 16,
                         areaNsect := 64, gtime := 44, changed := [2], tot := [(10, 5)] } }

/-- A DELTA frame of partitions 1 and 2, with number `fseq`. -/
abbrev dfr (fseq : Nat) : List (BitVec 16) :=
  crcd ([0x1402, BitVec.ofNat 16 fseq, 1, 0, 0, 5, 0, 0] ++ [1] ++ (List.range 15).map (BitVec.ofNat 16) ++ [2]
    ++ (List.range 15).map (BitVec.ofNat 16))
abbrev mfr (fseq : Nat) : List (BitVec 16) := crcd [0x2000, BitVec.ofNat 16 fseq, 2, 0x1111, 0x2222]
abbrev cfr (fseq : Nat) : List (BitVec 16) := crcd [0x3000, BitVec.ofNat 16 fseq, 2, 60, 0]

/-- A request of the reader port with its CRC. -/
abbrev rdReq (l : List Nat) : BitVec 96 :=
  let bs := l.map (BitVec.ofNat 8) ++ List.replicate (10 - l.length) 0;
  BitVec.ofNat 96 (ofBytes (bs ++ toBytes 2 (crc16Bytes bs)))

theorem witness_GaugeAppliesFramesAndLogs :
    (gi.island.live = true ∧ crcOk [1, 2] = false)
    ∧ (∀ f ∈ [6, 7], crcOk (dfr f) = true ∧ (dfr f).length = 9 + 16 * 2 ∧ bits ((dfr f).getD 0 0).toNat 15 12 = 1
      ∧ bits ((dfr f).getD 0 0).toNat 5 0 = 2 ∧ ((dfr f).getD 0 0).toNat.testBit 11 = false
      ∧ crcOk (mfr f) = true ∧ (mfr f).length = 6 ∧ bits ((mfr f).getD 0 0).toNat 15 12 = 2
      ∧ crcOk (cfr f) = true ∧ (cfr f).length = 6 ∧ bits ((cfr f).getD 0 0).toNat 15 12 = 3
      ∧ (BitVec.ofNat 16 f = gi.island.lastFseq + 1 ↔ f = 7) ∧ (BitVec.ofNat 16 f = gi.island.lastFseq ↔ f = 6))
    ∧ (gi.island.sealOpen = false ∧ gi.island.presOpen = false ∧ ({ gi.island with sealOpen := true } : Island).live = true)
    ∧ (∀ l ∈ [[1], [2, 8, 0, 64], [3, 5]], let bs := toBytes 12 (rdReq l).toNat
      gi.island.up = true ∧ bytesAt bs 10 2 = crc16Bytes (bs.take 10) ∧ bytesAt bs 0 1 = l.headD 0
        ∧ (bytesAt bs 0 1 = 2 → 1 ≤ bytesAt bs 3 1 ∧ bytesAt bs 3 1 = 64))
    ∧ findRec [(9, 5)] 5 = some 5 := by
  refine ⟨by decide +kernel, by decide +kernel, by decide +kernel, by decide +kernel, by decide +kernel⟩

/-! ## Witnesses: resets, power and the configuration record -/

theorem witness_BlockResetsRestoreState :
    (let s := hs 0;
      s.Inv ∧ s.rst.por = false ∧ s.rst.job ≠ .load ∧ Reached s A0 R.pfmRst)
    ∧ (State.reset.Inv ∧ State.reset.rst.job = .load)
    ∧ ({ st0 with rst := { st0.rst with por := true } } : State).rst.por = true
    ∧ (let s : State := { st0 with rst := { st0.rst with blk := true } };
      s.rst.blk = true ∧ s.rst.por = false ∧ s.rst.blkPin = false ∧ s.fld R.pfmState 1 0 = 1) :=
  ⟨⟨inv_of (by decide +kernel), by decide +kernel, by decide +kernel, reached_of (by decide +kernel)⟩,
    ⟨inv_of (by decide +kernel), by decide +kernel⟩, by decide +kernel, by decide +kernel⟩

theorem tget_unlisted {α : Type} (d : α) (t : Tab α) (k : Nat) (h : ∀ e ∈ t, e.1 ≠ k) : tget d t k = d := by
  induction t with
  | nil => rfl
  | cons e t ih =>
    obtain ⟨j, v⟩ := e
    have hj : j ≠ k := h (j, v) List.mem_cons_self
    simp only [tget, hj, if_false]
    split
    · rfl
    · exact ih fun e he => h e (List.mem_cons_of_mem _ he)

theorem gcfg_reset : ∀ g, g < 1024 → (regReset (R.welGcfg g)).toNat.testBit 31 = false := by decide +kernel

/-- Where no word of WEL_GCFG is listed, no group is a proxy. -/
theorem homeChips_of {s : State} (h : s.regs.all (fun e => decide (e.1 % 16 ≠ 8 ∨ e.1 < 0x60000 ∨ 0x64000 ≤ e.1)) = true) : s.homeChips = [] := by
  have hz : (List.range 1024).filterMap (fun g =>
      if (s.reg (R.welGcfg g)).testBit 31 && bits (s.reg (R.welGcfg g)) 29 18 != s.chip
      then some (bits (s.reg (R.welGcfg g)) 29 18) else none) = [] := by
    rw [List.filterMap_eq_nil_iff]
    intro g hg
    have hr : s.reg (R.welGcfg g) = (regReset (R.welGcfg g)).toNat := by
      unfold State.reg
      rw [tget_unlisted]
      intro e he
      have := List.all_eq_true.mp h e he
      simp only [decide_eq_true_eq] at this
      have := List.mem_range.mp hg
      unfold R.welGcfg
      omega
    simp only [hr, gcfg_reset g (List.mem_range.mp hg), Bool.false_and, Bool.false_eq_true, if_false]
  simp only [State.homeChips, hz]
  rfl

theorem witness_UnitResetsRestoreUnits :
    (let s := hs 0;
      Reached s A0 R.pfmRst ∧ s.homeChips = [] ∧ s.rst.kst = 0 ∧ 31 < s.nPart ∧ 1 < s.nFunc ∧ s.up = true
        ∧ s.absorbed (some (s.fPart 1)) = false)
    ∧ (∀ st ∈ [0, 1, 2, 4, 5], Reached (pb st) A0 R.pfmRst ∧ (pb st).homeChips = [] ∧ (pb st).rst.kst = 0
      ∧ 3 < (pb st).snapChan ∧ (pb st).absorbed ((pb st).chanPart 3) = false ∧ (pb st).cstate 3 = st
      ∧ (pb st).pumpStopped = false)
    ∧ (Reached (lk 4) A0 R.pfmRst ∧ (lk 4).homeChips = [] ∧ (5 : BitVec 3).toNat < (lk 4).nPort)
    ∧ (st0.Ready ∧ Reached st0 A0 R.pfmRst ∧ st0.homeChips = [] ∧ st0.tapGood 5 = true ∧ st0.logical 5 = some 5
      ∧ st0.physical 5 = some 5 ∧ st0.tapOwner 5 = st0.tapPart 5 ∧ st0.absorbed (st0.tapPart 5) = false
      ∧ (st0.tap 5).fifo = [] ∧ (st0.tap 5).hold = [] ∧ (st0.leaf 1).store = [] ∧ st0.pipe.tokens = [] ∧ st0.act 16 = none
      ∧ st0.act 17 = none)
    ∧ (∀ b ∈ [false, true], let s := st0.setTap 5 { reset := true, resetPin := b };
      calmB s = true ∧ s.rst.kst = 0 ∧ (s.tap 5).resetPin = b ∧ (s.tap 5).reset = true ∧ s.up = true ∧ s.held = []
        ∧ s.logical 5 = some 5 ∧ (s.chip, 5) ∉ s.wel.pend ∧ s.freeing s.chip 5 = false)
    ∧ (let s := st0.setTap 5 { reset := true, resetPin := true };
      let down : State := { s with rst := { s.rst with blk := true } };
      s.homeChips = [] ∧ calmB down = true ∧ (down.tap 5).resetPin = true ∧ down.up = false)
    ∧ (let s : State := { st0 with wel := { st0.wel with pend := [(st0.chip, 5)] } };
      calmB s = true ∧ s.logical 5 = some 5 ∧ s.freeing s.chip 5 = true) := by
  refine ⟨⟨reached_of (by decide +kernel), homeChips_of (by decide +kernel), by decide +kernel⟩, fun st h => ?_,
    ⟨reached_of (by decide +kernel), homeChips_of (by decide +kernel), by decide +kernel⟩,
    ⟨ready_of (by decide +kernel), reached_of (by decide +kernel), homeChips_of (by decide +kernel), by decide +kernel⟩,
    by decide +kernel, ⟨homeChips_of (by decide +kernel), by decide +kernel⟩, by decide +kernel⟩
  simp only [List.mem_cons, List.not_mem_nil, or_false] at h
  obtain rfl | rfl | rfl | rfl | rfl := h <;>
    exact ⟨reached_of (by decide +kernel), homeChips_of (by decide +kernel), by decide +kernel⟩

/-- A configuration record of build `b`, with the CRC `crc`. -/
abbrev recd (b crc : Nat) : List Byte :=
  toBytes 2 1 ++ toBytes 2 b ++ toBytes 2 0 ++ toBytes 2 5 ++ toBytes 4 0 ++ toBytes 2 3 ++ toBytes 2 0
    ++ List.replicate 16 0 ++ [7] ++ List.replicate 511 0 ++ List.replicate 28 0 ++ toBytes 4 crc

/-- The record of build `b` and CRC `crc` in the staging registers, with a presence window and the seal open. -/
abbrev stg (b crc : Nat) : State :=
  { regs := rt [(0x8, 32 * 65536), (0x10, 1), (0x110, 32), (0x2100, b * 65536 + 1), (0x2104, 5 * 65536), (0x210C, 3), (0x2120, 7),
      (0x233C, crc), (0xC0008, 96)] }

/-- A call that evaluates its argument first. -/
def strict (f : Nat → Nat) : Nat → Nat
  | 0 => f 0
  | k + 1 => f (k + 1)

/-- The CRC-32 of a long list, one byte after another. -/
def crcRun : List Byte → Nat → Nat
  | [], c => c
  | b :: t, c => strict (crcRun t) (crc32Byte c b)

theorem crcRun_eq (l : List Byte) (c : Nat) : l.foldl crc32Byte c = crcRun l c := by
  induction l generalizing c with
  | nil => rfl
  | cons b t ih =>
    have h : ∀ f n, strict f n = f n := fun f n => by cases n <;> rfl
    rw [crcRun, h, List.foldl_cons, ih]

/-- A record that passes. -/
abbrev rec1 : List Byte := recd 1 542527191

theorem rec1_ok : recordCause false rec1 = 0 := by
  have h : crc32 (rec1.take 0x23C) = 542527191 := by rw [crc32, crcRun_eq]; decide +kernel
  simp only [recordCause, h]
  decide +kernel

/-- A record of the other build. -/
abbrev rec2 : List Byte := recd 2 2448466565

theorem test_recordCause_build : recordCause false rec2 = 3 := by
  have h : crc32 (rec2.take 0x23C) = 2448466565 := by rw [crc32, crcRun_eq]; decide +kernel
  simp only [recordCause, h]
  decide +kernel

theorem witness_PowerStatesAndRecord :
    (∀ n ∈ [0, 1], let s : State := { st0 with clk := { st0.clk with waitC := [.cnp 0 1 2], cred := [(0, n)] } }
      s.clk.waitC = [.cnp 0 1 2] ∧ tget 0 s.clk.cred 0 = n ∧ st0.clk.waitC = [])
    ∧ (let s : State := { st0 with rst := { st0.rst with kst := 2, timer := some 0 } };
      s.rst.kst ≠ 0 ∧ s.rst.timer = some 0 ∧ 0 ≤ s.view)
    ∧ (let s : State := { st0 with rst := { st0.rst with kst := 2, timer := some 2000 } };
      s.rst.kst ≠ 0 ∧ s.view < 2000)
    ∧ (let s : State := { st0 with rst := { st0.rst with kst := 2, timer := some 5, waking := true } };
      calmB s = true ∧ s.rst.kst ≠ 0 ∧ s.rst.waking = true ∧ s.glink.due = false
        ∧ ∀ k, k < 8 → ∀ b ∈ (s.port k).rx, b.btype ≠ 15)
    ∧ (Reached st0 A0 R.pfmCfgCtrl ∧ st0.rst.job = .none ∧ st0.rewriteOk = false ∧ st0.fld R.pfmState 1 0 ≠ 2)
    ∧ (let s := st0.setReg R.pfmState 0x12;
      Reached s A0 R.pfmCfgCtrl ∧ s.rst.job = .none ∧ s.fld R.pfmState 1 0 = 2)
    ∧ (let s := stg 1 542527191;
      Reached s A0 R.pfmCfgCtrl ∧ s.rst.job = .none ∧ s.rewriteOk = true ∧ s.staged = rec1)
    ∧ recordCause false rec1 = 0
    ∧ (let s := stg 2 2448466565;
      Reached s A0 R.pfmCfgCtrl ∧ s.rewriteOk = true ∧ s.staged = rec2)
    ∧ recordCause false rec2 ≠ 0
    ∧ (let s : State := { st0 with rst := { st0.rst with job := .rewrite [1] } };
      s.rst.job = .rewrite [1])
    ∧ (State.reset.Inv ∧ State.reset.rst.job = .load) := by
  exact ⟨by decide +kernel, by decide +kernel, by decide +kernel, by decide +kernel, ⟨reached_of (by decide +kernel), by decide +kernel⟩,
    ⟨reached_of (by decide +kernel), by decide +kernel⟩,
    ⟨reached_of (by decide +kernel), by decide +kernel⟩, rec1_ok, ⟨reached_of (by decide +kernel), by decide +kernel⟩,
    by rw [test_recordCause_build]; decide, rfl, inv_of (by decide +kernel), rfl⟩

/-! ## Witnesses: the headlines -/

/-- A grid of ticks of `len` units and a fraction `num` of `den`, in `slots` slots. -/
abbrev gf (len num den slots : Nat) : State :=
  (((st0.setPair R.hgTickLen len).setReg R.hgTickFrac (num + den * 65536)).setReg R.hgSlots (slots - 1)).setPair R.hgEpoch 77

theorem witness_GridBoundariesFollowTheFormula :
    (gf 17 5 6 9).reg R.hgTickFrac % 2 ^ 16 < (gf 17 5 6 9).reg R.hgTickFrac / 2 ^ 16
      ∧ 8 < (gf 17 5 6 9).reg R.hgSlots % 2 ^ 16 + 1 := by
  decide +kernel

theorem witness_ResetStateAndBringUp : recordCause false rec1 = 0 := rec1_ok

theorem witness_StepsKeepTheInvariant :
    (se e1).Inv ∧ step { se e1 with pending := [.arrive (q3 0)] } = .next (nx (step { se e1 with pending := [.arrive (q3 0)] })) :=
  ⟨inv_of (by decide +kernel), next_of (by decide +kernel)⟩

/-! ## Well-formedness: each check refuses something -/

/-- A debug port that claims another function. -/
abbrev badAcc : Acc := { dbg := true, func := 3 }

theorem test_wf_acc : (Instr.tbLoad badAcc 0).wf = false ∧ (Instr.blockReset (.write badAcc)).wf = false
    ∧ (Instr.gridStart A0 1).wf = true ∧ (Instr.blockReset .pin).wf = true := by decide

theorem test_wf_enable_bit : (Instr.gridStart A0 2).wf = false ∧ (Instr.gridStop A0 1).wf = false
    ∧ (Instr.channelEnable A0 3 1).wf = false ∧ (Instr.channelDisable A0 3 0x80000000).wf = false
    ∧ (Instr.culJoin A0 1).wf = false ∧ (Instr.counterClear A0 true 0 255 0).wf = false := by decide

theorem test_wf_code : (q3 0).wf = true ∧ ({ q3 0 with code := some 1 } : CnpReq).wf = false
    ∧ ({ q3 0 with code := some 0x0B } : CnpReq).wf = true ∧ ({ q3 0 with master := 5, part := some 3 } : CnpReq).wf = false
    ∧ (Instr.tapArrive 5 3 ⟨true, some 1⟩).wf = false ∧ (Instr.tapArrive 5 3 ⟨true, some 0xB⟩).wf = true := by decide

theorem test_wf_port : (Instr.tickMark 6).wf = false ∧ (Instr.tickMark 5).wf = true := by decide

theorem test_wf_allocation_offset : (Instr.cstAllocationWrite A0 0 0x82 0).wf = false
    ∧ (Instr.cstAllocationWrite A0 0 0xA8 0).wf = false ∧ (Instr.cstAllocationWrite A0 0 0xA4 0).wf = true := by decide

theorem test_wf_resource_offset : (Instr.partitionResourceWrite A0 0 0x10 0).wf = false
    ∧ (Instr.partitionResourceWrite A0 0 0x4C 0).wf = false ∧ (Instr.partitionResourceWrite A0 0 0x14 0).wf = true := by decide

theorem test_wf_word : (Instr.wellRightsWrite A0 0 3 0).wf = false ∧ (Instr.fabricChannelWrite A0 0 2 0).wf = true := by decide

theorem test_wf_router : (Instr.payloadCombine 16 7 0).wf = false ∧ (Instr.payloadCombine 16 0 0).wf = false
    ∧ (Instr.payloadCombine 16 6 1).wf = false ∧ (Instr.payloadCombine 16 1 1023).wf = true := by decide

theorem test_wf_pair : (Instr.pairMiscompare 341 true false).wf = false ∧ (Instr.pairMiscompare 340 true false).wf = true := by
  decide

theorem test_wf_lengths : (Instr.commandReadDone 1 (List.replicate 9 0) 0).wf = false
    ∧ (Instr.recordLoadDone []).wf = false ∧ (Instr.configRewriteDone false []).wf = false
    ∧ (Instr.configRewriteDone true []).wf = true := by decide

theorem test_wf_burst (data : List Byte) (h : data.length = 4097) : (Instr.burstReadDone 3 data 0).wf = false := by
  simp only [Instr.wf, h]
  decide

theorem test_wf_image (image : List Byte) (h : image.length = 2 ^ 32) : (Instr.imageLoadDone 0 image ⟨0, 0⟩).wf = false := by
  simp only [Instr.wf, h]
  decide

theorem test_wf_counter : (Instr.counterClear A0 false 0 64 0x80000000).wf = false
    ∧ (Instr.counterClear A0 false 0 63 0x80000000).wf = true := by decide

theorem test_wf_clock : (Instr.clockLoss 3).wf = false ∧ (Instr.clockReturn 2).wf = true := by decide

theorem test_wf_lo : (Instr.loReadCapture A0 ⟨0x3ff4, 2⟩).wf = false
    ∧ (Instr.loReadCapture A0 ⟨BitVec.ofNat 21 R.hgEpoch, 2⟩).wf = true := by
  decide +kernel

/-! ## Single steps and values that the spec works out -/

/-- R451: the check value of the CRC-32. -/
theorem test_crc32_check : crc32 ([0x31, 0x32, 0x33, 0x34, 0x35, 0x36, 0x37, 0x38, 0x39].map (BitVec.ofNat 8)) = 0xCBF43926 := by
  decide +kernel

/-- The 120 Hz frame (R54): frame 43,200 begins 360 s after the epoch, and its third tick has the extra unit. -/
theorem test_grid_frame :
    let s := ((boot.setPair R.hgTickLen 533333333).setReg R.hgTickFrac 0x00030001).setReg R.hgSlots 0xFFF
    s.gridT 172800 = 92160000000000 ∧ s.gridT 172801 - s.gridT 172800 = 533333333
      ∧ s.gridT 172803 - s.gridT 172802 = 533333334 ∧ s.gridT 12 = 6400000000 := by
  decide +kernel

/-- A cistern of the embedding exchange as it stands before a step. -/
abbrev ex (target count basin : Nat) : State :=
  se { kind := 2, gen := 0x413, target := BitVec.ofNat 20 target, count := BitVec.ofNat 20 count, status := stArmed,
       basin := BitVec.ofNat 16 basin, rlist := 3 }
abbrev exq (n : Nat) : CnpReq := q 3 0x413 n 0

/-- Cistern 3 of a state: TARGET, COUNT, BASIN and STATUS. -/
abbrev seen (s : State) : Nat × Nat × Nat × Nat :=
  ((s.entry 3).target.toNat, (s.entry 3).count.toNat, (s.entry 3).basin.toNat, (s.entry 3).status.toNat)

/-- Steps 2 and 7: arrivals run ahead of TARGET, and behind it. -/
theorem test_exchange_arrivals :
    seen (nx (exec (.arriveN (exq 4)) (ex 0 0 300))) = (0, 4, 300, stArmed.toNat)
      ∧ seen (nx (exec (.arriveN (exq 11)) (ex 148 130 0))) = (148, 141, 0, stArmed.toNat) := by
  decide +kernel

/-- Steps 4, 5 and 6: posts. -/
theorem test_exchange_posts :
    seen (nx (exec (.postCount (exq 0)) (ex 137 130 3))) = (137, 130, 2, stArmed.toNat)
      ∧ seen (nx (exec (.postCount (exq 4)) (ex 137 130 2))) = (141, 130, 1, stArmed.toNat)
      ∧ seen (nx (exec (.postCount (exq 7)) (ex 141 130 1))) = (148, 130, 0, stArmed.toNat) := by
  decide +kernel

/-- Step 8 completes the cistern; one bundle more takes it to FAULT. -/
theorem test_exchange_end :
    seen (nx (exec (.arriveN (exq 7)) (ex 148 141 0))) = (148, 148, 0, stDone.toNat)
      ∧ (seen (nx (exec (.arriveN (exq 8)) (ex 148 141 0)))).2.2.2 = stFault.toNat := by
  decide +kernel

/-- The lanes of the blend example in mode 0x62, the lanes after 4 being 0. -/
abbrev blend (l : List Nat) (m : Nat) : Nat × Payload := (m, widen 0x62 m (ofLanes (fun i => l.getD i 0)))
abbrev tap88 : Nat × Payload := blend [0x38, 0x7E, 0, 0x7F, 0x26] 0xFFFB
abbrev tap89 : Nat × Payload := blend [0x3C, 0x7E, 0, 0x38, 0x01] 0xFFFB
abbrev tap301 : Nat × Payload := blend [0x40, 0, 0, 0xB0, 0x38] 0xFFF9
abbrev core3 : Nat × Payload := blend [0x44, 0x7E, 0, 0x40, 0] 0xFFEB
abbrev root3 : Nat × Payload :=
  let l := combine 0x62 tap88.1 tap88.2 tap89.1 tap89.2
  combine 0x62 l.1 l.2 tap301.1 tap301.2

/-- The delivered lanes 0 to 4, and one that only carries +0. -/
theorem test_blend_delivered :
    let b := accumulate 0x62 core3.1 core3.2 root3.1 root3.2
    let d := deliver 0x62 false false false b.1 b.2
    [0, 1, 2, 3, 4, 15].map (lane d) = [0x40F0, 0x44A8, 0, 0x7FC0, 0x3F9C, 0] := by
  decide +kernel

/-- The identities of an empty generation: +0, −∞ in BF16 under MAX, and 0xFF in E4M3 under MAX. -/
theorem test_blend_empty :
    lane (deliver 0x62 false false true 0 0) 7 = 0 ∧ lane (deliver 0x66 false false true 0 0) 7 = 0xFF80
      ∧ lane (deliver 0x64 false false true 0 0) 7 = 0xFF := by
  decide +kernel

/-- The shared lock (R224): on die 0x01A, tap 2,050 claims, and tap 301 of die 0x01B fails while the lock is held; words. -/
theorem test_lock_words :
    (freeWell : W64) = 0xFFFFFF8000000000 ∧ wellOwner (0x01A4010000000000 : W64) = ownerOf 0x1A 0x802
      ∧ wellWord ownerFree true 0 = 0xFFFFFFC000000000 ∧ wellOwner (0x01B0968000000000 : W64) = ownerOf 0x1B 301
      ∧ cleanWell (0x01B096C000000000 : W64) = 0x01B096C000000000 := by
  decide +kernel

/-- Step 6 and 7 as local operations of master 0: a claim that keeps ABANDONED, and the owner clears it. -/
theorem test_lock_steps :
    let me := ownerOf boot.chip (boot.masterId 0)
    let claim := q (5 * 256) 0 (wellWord ownerFree true 0).toNat (wellWord me true 0).toNat 0 2
    let clear := q (5 * 256) 0 (wellWord me true 0).toNat (wellWord me false 0).toNat 0 2
    (nx (exec (.cas claim) (sw 5 (wellWord ownerFree true 0)))).well 5 = wellWord me true 0
      ∧ (nx (exec (.cas clear) (sw 5 (wellWord me true 0)))).well 5 = wellWord me false 0
      ∧ (nx (exec (.cas (q (5 * 256) 0 freeWell.toNat (wellWord me false 0).toNat 0 2)) (sw 5 (wellWord ownerFree true 0)))).well 5
        = wellWord ownerFree true 0 := by
  decide +kernel

/-- The bursts of the abort example (R336). -/
theorem test_burst_cuts :
    let d : PDesc := { addr := 0x4000100000, host := false,
                       data := dw 0x00000040_12340F00 0x00000001_80000300 0 0x50 0x3000 }
    [0, 256, 3328, 4352, 7424, 8448, 11520].map (fun c => ({ d with cut := c } : PDesc).burst)
      = [256, 3072, 1024, 3072, 1024, 3072, 768] := by
  decide +kernel

/-- The ARM of the kick example (R63, R76). -/
theorem test_arm_word :
    let d := ArmDef.of 0x11000030_0300FFFF 0
    d.kind = kBarrier ∧ d.target = 48 ∧ d.rlist = 0x300 ∧ d.basin = 0xFFFF ∧ d.deadline = true := by
  decide +kernel

/-- One tenant's registers. -/
theorem test_register_offsets :
    R.pfmPstate 14 = 0x10E04 ∧ R.pfmPpump 14 = 0x10E34 ∧ R.hgPovrCfg 14 = 0x302C0 ∧ R.hgPschedStatus 14 = 0x30B80
      ∧ R.hgPcredFirst 14 = 0x310E0 ∧ R.culPsnapCtrl 14 = 0x766D0 ∧ R.obsPsel 14 5 = 0xA7850 ∧ R.pfmFcfg 37 = 0x20940
      ∧ R.dqKick 37 = 0x125100 ∧ R.pmpCstatus 17 = 0x81120 ∧ R.pmpFview 37 = 0x125210 := by
  decide

/-- What function 37 reads of its channel's state: CZ is hidden (R343). -/
theorem test_view :
    let s := (((boot.setReg (R.pfmFcfg 37) (2 ^ 31 + 14 * 65536 + 8)).setReg (R.pfmPpump 14) (2 ^ 17)).setReg (R.pmpFsel 37)
      0x11).setReg (R.pmpCcfg 17) (37 * 65536)
    let s := s.setReg (R.pmpCstatus 17) 0x28020000
    s.wordRead (R.pmpCstatus 17) = 0x38020000 ∧ s.wordRead (R.pmpFview 37) = 0x30020000 := by
  decide +kernel

end Sys2Proof.Tests
end

/-! PROOFS. The boundaries of ticks and slots (R29, R30). A tick boundary is a multiple of the tick's length plus the floor of
n × NUM / DEN, which grows by 0 or 1 from tick to tick and by NUM in DEN ticks; a slot boundary is the floor of the slot's share
of the tick, and the floor of a sum differs from the sum of the floors by at most one. -/

namespace Sys2Proof.Machine

/-! ## The settings of the grid -/

/-- The whole units of a tick (HG_TICK_LEN). -/
def State.tickLen (s : State) : Nat := s.pair R.hgTickLen % 2 ^ 40

/-- NUM of HG_TICK_FRAC. -/
def State.fracNum (s : State) : Nat := s.reg R.hgTickFrac % 2 ^ 16

/-- DEN of HG_TICK_FRAC. -/
def State.fracDen (s : State) : Nat := s.reg R.hgTickFrac / 2 ^ 16

theorem State.reg_lt (s : State) (off : Nat) : s.reg off < 2 ^ 32 := (tget (regReset off) s.regs off).isLt

theorem State.fld_lowHalf (s : State) (off : Nat) : s.fld off 15 0 = s.reg off % 2 ^ 16 := rfl

theorem State.fld_highHalf (s : State) (off : Nat) : s.fld off 31 16 = s.reg off / 2 ^ 16 := by
  have lt := s.reg_lt off
  simp only [State.fld, bits, Nat.shiftRight_eq_div_pow]
  omega

theorem State.nSlot_eq (s : State) : s.nSlot = s.reg R.hgSlots % 2 ^ 16 + 1 := rfl

theorem State.nSlot_pos (s : State) : 0 < s.nSlot := Nat.succ_pos _

theorem State.nSlot_le (s : State) : s.nSlot ≤ 65536 := by
  rw [nSlot_eq]
  omega

/-! ## Floors and sequences -/

/-- From n to n + 1, the floor of n × x / y grows by the floor of x / y, or by one more. -/
theorem succ_mul_div_bounds (n x y : Nat) :
    n * x / y + x / y ≤ (n + 1) * x / y ∧ (n + 1) * x / y ≤ n * x / y + (x / y + 1) := by
  rw [Nat.add_one_mul, ← Nat.add_assoc]
  exact ⟨Nat.div_add_div_le_add_div, Nat.add_div_le_div_add_div_add_one ..⟩

/-- A sequence whose steps are of `c` or `c + 1` rises in `m` steps by `m * c` and by one for each long step. -/
theorem eq_add_countP_longSteps {f : Nat → Nat} {c : Nat}
    (steps : ∀ i, f (i + 1) = f i + c ∨ f (i + 1) = f i + c + 1) (m : Nat) :
    f m = f 0 + m * c + (List.range m).countP (fun i => f (i + 1) == f i + c + 1) := by
  induction m with
  | zero => simp
  | succ m ih =>
    rw [List.range_succ, List.countP_append, List.countP_singleton, Nat.add_one_mul]
    rcases steps m with short | long
    · simp only [short, beq_iff_eq]
      split <;> omega
    · simp only [long, beq_self_eq_true, if_true]
      omega

/-! ## Ticks -/

theorem State.gridT_eq (s : State) (n : Nat) :
    s.gridT n = 256 * s.pair R.hgEpoch + n * s.tickLen + n * s.fracNum / s.fracDen := by
  rw [gridT, fld_lowHalf, fld_highHalf, tickLen, fracNum, fracDen]

theorem State.gridT_le_succ (s : State) (n : Nat) : s.gridT n ≤ s.gridT (n + 1) := by
  rw [gridT_eq, gridT_eq]
  gcongr <;> exact n.le_succ

theorem State.gridT_succ_eq_or (s : State) (lt : s.fracNum < s.fracDen) (n : Nat) :
    s.gridT (n + 1) = s.gridT n + s.tickLen ∨ s.gridT (n + 1) = s.gridT n + s.tickLen + 1 := by
  have frac := succ_mul_div_bounds n s.fracNum s.fracDen
  rw [Nat.div_eq_of_lt lt] at frac
  have len := Nat.add_one_mul n s.tickLen
  rw [gridT_eq, gridT_eq]
  omega

/-- DEN ticks last DEN times HG_TICK_LEN and NUM units more. -/
theorem State.gridT_add_fracDen (s : State) (lt : s.fracNum < s.fracDen) (n : Nat) :
    s.gridT (n + s.fracDen) = s.gridT n + s.fracDen * s.tickLen + s.fracNum := by
  have frac : (n + s.fracDen) * s.fracNum / s.fracDen = n * s.fracNum / s.fracDen + s.fracNum := by
    rw [Nat.add_mul, Nat.add_mul_div_left _ _ (Nat.zero_lt_of_lt lt)]
  rw [gridT_eq, gridT_eq, frac, Nat.add_mul]
  omega

theorem State.countP_longTicks (s : State) (lt : s.fracNum < s.fracDen) (n : Nat) :
    (List.range s.fracDen).countP (fun i => s.gridT (n + i + 1) == s.gridT (n + i) + s.tickLen + 1) = s.fracNum := by
  have counted := eq_add_countP_longSteps (f := fun i => s.gridT (n + i)) (fun i => s.gridT_succ_eq_or lt (n + i)) s.fracDen
  simp only [← Nat.add_assoc, Nat.add_zero, s.gridT_add_fracDen lt n] at counted
  omega

/-! ## Slots -/

theorem State.gridB_tickStart (s : State) (n : Nat) : s.gridB (n * s.nSlot) = s.gridT n := by
  simp [gridB, Nat.mul_div_cancel _ s.nSlot_pos]

theorem State.gridB_slot (s : State) (n : Nat) {k : Nat} (lt : k < s.nSlot) :
    s.gridB (n * s.nSlot + k) = s.gridT n + k * (s.gridT (n + 1) - s.gridT n) / s.nSlot := by
  have tick : (n * s.nSlot + k) / s.nSlot = n := by
    rw [Nat.mul_comm, Nat.mul_add_div s.nSlot_pos, Nat.div_eq_of_lt lt, Nat.add_zero]
  have slot : (n * s.nSlot + k) % s.nSlot = k := by
    rw [Nat.mul_comm, Nat.mul_add_mod, Nat.mod_eq_of_lt lt]
  simp only [gridB, tick, slot]

/-- The formula of slots gives the end of the last slot too: it is the next tick's boundary. -/
theorem State.gridB_slotEnd (s : State) (n : Nat) {k : Nat} (le : k ≤ s.nSlot) :
    s.gridB (n * s.nSlot + k) = s.gridT n + k * (s.gridT (n + 1) - s.gridT n) / s.nSlot := by
  rcases Nat.lt_or_eq_of_le le with lt | rfl
  · exact s.gridB_slot n lt
  · rw [← Nat.add_one_mul, gridB_tickStart, Nat.mul_div_cancel_left _ s.nSlot_pos, Nat.add_sub_cancel' (s.gridT_le_succ n)]

/-- A slot lasts the floor of the tick's share, or one unit more. -/
theorem State.slotLength_bounds (s : State) (n : Nat) {k : Nat} (lt : k < s.nSlot) :
    (s.gridT (n + 1) - s.gridT n) / s.nSlot ≤ s.gridB (n * s.nSlot + (k + 1)) - s.gridB (n * s.nSlot + k)
      ∧ s.gridB (n * s.nSlot + (k + 1)) - s.gridB (n * s.nSlot + k) ≤ (s.gridT (n + 1) - s.gridT n) / s.nSlot + 1 := by
  rw [s.gridB_slotEnd n lt, s.gridB_slot n lt, Nat.add_sub_add_left]
  obtain ⟨below, above⟩ := succ_mul_div_bounds k (s.gridT (n + 1) - s.gridT n) s.nSlot
  exact ⟨Nat.le_sub_of_add_le' below, Nat.sub_le_iff_le_add'.2 above⟩

theorem State.slotLength_le_slotLength_add_one (s : State) (n : Nat) {j k : Nat} (hj : j < s.nSlot) (hk : k < s.nSlot) :
    s.gridB (n * s.nSlot + (j + 1)) - s.gridB (n * s.nSlot + j)
      ≤ s.gridB (n * s.nSlot + (k + 1)) - s.gridB (n * s.nSlot + k) + 1 :=
  (s.slotLength_bounds n hj).2.trans (Nat.succ_le_succ (s.slotLength_bounds n hk).1)

/-- Settles O15: ticks by the count of long ticks among DEN, slots by the bounds on each slot's length. -/
theorem gridBoundariesFollowTheFormula : Obligations.GridBoundariesFollowTheFormula := by
  intro s
  exact ⟨s.gridT_eq, fun lt => ⟨s.gridT_succ_eq_or lt, s.countP_longTicks lt⟩, s.nSlot_pos, s.nSlot_le,
    fun n _ lt => s.gridB_slot n lt, fun n _ _ _ hj hk => s.slotLength_le_slotLength_add_one n hj hk⟩

end Sys2Proof.Machine

/-! PROOFS. CREDIT_RETURN at an ARMED CREDIT cistern (R196, R200). The request passes the checks of R75 and comes to its bank; what
the bank does there is `State.creditReturn`, which leaves a calm block calm, so that its answer is the one thing that follows. -/

namespace Sys2Proof.Machine

/-! ## Writing back what a table holds -/

theorem tins_tget_self {α : Type} {d : α} {t : Tab α} {k : Nat} (listed : tget d t k ≠ d) : tins (tget d t k) t k = t := by
  induction t with
  | nil => exact absurd rfl listed
  | cons e t ih =>
    simp only [tget] at listed
    simp only [tget, tins]
    split
    · next same => rw [← same]
    · next other =>
      rw [if_neg other] at listed
      split
      · next below => exact absurd (if_pos below) listed
      · next above =>
        rw [if_neg above] at listed
        rw [ih listed]

theorem tdel_of_tget_eq_default {α : Type} {d : α} {t : Tab α} {k : Nat} (noDefault : ∀ e ∈ t, e.2 ≠ d)
    (free : tget d t k = d) : tdel t k = t := by
  induction t with
  | nil => rfl
  | cons e t ih =>
    simp only [tget] at free
    simp only [tdel]
    split
    · next same =>
      rw [if_pos same] at free
      exact absurd free (noDefault e List.mem_cons_self)
    · next other =>
      rw [if_neg other] at free
      split
      · rfl
      · next above =>
        rw [if_neg above] at free
        rw [ih (fun x hx => noDefault x (List.mem_cons_of_mem _ hx)) free]

/-- In a table in canonical form, a write of what a key holds changes nothing. -/
theorem tset_tget_self {α : Type} [DecidableEq α] {d : α} {t : Tab α} (wf : twf d t = true) (k : Nat) :
    tset d t k (tget d t k) = t := by
  unfold tset
  split
  · next free => exact tdel_of_tget_eq_default (twf_iff.1 wf).2 free
  · next listed => exact tins_tget_self listed

theorem State.setEntry_entry {s : State} (h : s.Calm) (n : Nat) : s.setEntry n (s.entry n) = s := by
  obtain ⟨ent, -⟩ := h.inv.cst
  rw [State.setEntry_calm h, State.entry, tset_tget_self ent]

theorem State.setGrant_grant {s : State} (h : s.Calm) (g : Nat) : s.setGrant g (s.grant g) = s := by
  obtain ⟨-, -, -, -, grants⟩ := h.inv.pipe
  rw [State.setGrant, State.grant, tset_tget_self grants]

/-! ## Writes that leave a calm block calm -/

theorem State.Calm.setEntry {s : State} (h : s.Calm) (n : Nat) (e : Cistern) : (s.setEntry n e).Calm := by
  have inv := (State.setEntry_evolves (.refl s) n e).inv h.inv
  rw [State.setEntry_calm h] at inv ⊢
  exact ⟨inv, h.done, h.next, h.hold, h.fills, h.late, h.notices, h.room, h.snap⟩

theorem State.Calm.setGrant {s : State} (h : s.Calm) (g : Nat) (x : Grant) : (s.setGrant g x).Calm :=
  ⟨(State.setGrant_evolves (.refl s) g x).inv h.inv, h.done, h.next, h.hold, h.fills, h.late, h.notices, h.room, h.snap⟩

theorem State.Calm.nextFree {s : State} (h : s.Calm) : s.nextFree.Calm :=
  ⟨(State.nextFree_evolves (.refl s)).inv h.inv, h.done, h.next, h.hold, h.fills, h.late, h.notices, h.room, h.snap⟩

theorem State.Calm.bump {s : State} (h : s.Calm) (off n : Nat) : (s.bump off n).Calm :=
  ⟨(State.bump_evolves (.refl s) off n).inv h.inv, h.done, h.next, h.hold, h.fills, h.late, h.notices, h.room, h.snap⟩

/-! ## A request accepted from its buffer -/

theorem State.accepted_accounts (s : State) (q : CnpReq) (opc : Nat) : Accounts s (s.accepted q opc) :=
  Accounts.of (s := s) _ id id

theorem HoldsEntry.accepted {s : State} {p cnum n : Nat} (h : HoldsEntry s p cnum n) (q : CnpReq) (opc : Nat) :
    HoldsEntry (s.accepted q opc) p cnum n :=
  ⟨h.window, h.holds, h.init, h.active, h.slot, h.good, h.err, h.sound⟩

/-- Every arrival operation is one that a request on a cistern may carry (R72). -/
theorem reqBad_arrival {q : CnpReq} {opc : Nat} (rsv : q.rsv = 0) (space : q.space = 0) (arrives : opArrival opc = true) :
    reqBad q opc = false := by
  have named : opCistern opc = true := by
    simp only [opArrival, opCistern, Bool.and_eq_true, decide_eq_true_eq] at arrives ⊢
    omega
  simp [reqBad, headerBad, rsv, space, named]

/-! ## An arrival operation that comes to its entry (R75) -/

theorem HoldsEntry.readEntry {s : State} {p cnum n : Nat} (h : HoldsEntry s p cnum n) : s.readEntry p n cnum = (s, true) := by
  have read : s.codeRead 0 n = (s, true) := if_pos h.err
  simp [State.readEntry, read, h.good, h.sound]

theorem HoldsEntry.unitBusy {s : State} {p cnum n : Nat} (h : HoldsEntry s p cnum n) {o : BankOp} (space : o.space = 0)
    (part : o.part = some p) (index : o.index = cnum) : s.unitBusy o = false := by
  have slot := h.slot
  unfold State.slotOf at slot
  simp only [State.unitBusy, space, part, index, ne_eq, not_true_eq_false, if_false, Option.bind_some]
  split
  · next resident =>
    rw [if_pos resident, Option.some_inj] at slot
    rw [slot, h.init]
  · next spilled =>
    rw [if_neg spilled] at slot
    cases frame : s.frameSlot p cnum with
    | none => rfl
    | some f =>
      simp only [frame, Option.ite_none_right_eq_some, Option.some_inj] at slot
      simp only [slot.2, h.init]

theorem HoldsEntry.runCistern {s : State} {p cnum n : Nat} (h : HoldsEntry s p cnum n) {o : BankOp} (space : o.space = 0)
    (part : o.part = some p) (index : o.index = cnum) (arrives : opArrival o.opc = true) :
    s.runCistern o = s.cisternOp p n o := by
  have notFence : o.opc ≠ Op.fence ∧ o.opc ≠ Op.unfence := by
    simp only [opArrival, Bool.and_eq_true, decide_eq_true_eq, Op.fence, Op.unfence] at arrives ⊢
    omega
  have inPart : s.inPart o = some p := by simp [State.inPart, part, space, index, h.holds, notFence]
  simp [State.runCistern, inPart, h.unitBusy space part index, h.active, index, h.slot]

theorem HoldsEntry.cisternOp {s : State} {p cnum n : Nat} (h : HoldsEntry s p cnum n) {o : BankOp} (index : o.index = cnum)
    (arrives : opArrival o.opc = true) (master : o.origin ≠ .fabric) :
    ∃ rm, s.cisternOp p n o =
      (s.arrival p n cnum (s.entry n) o).s.answer o (s.arrival p n cnum (s.entry n) o).r
        (s.arrival p n cnum (s.entry n) o).applied (s.entry n) rm := by
  have poll : o.opc ≠ Op.poll := by
    intro isPoll
    rw [isPoll] at arrives
    exact absurd arrives (by decide)
  refine ⟨if o.opc = Op.reduceInto then (s.mode (s.entry n).basin.toNat).rm else 0, ?_⟩
  simp [State.cisternOp, index, h.good, h.readEntry, arrives, poll, master]

/-! ## The answer of a request that its bank serves -/

/-- A calm block presents the answer of its operation, and does nothing further. -/
theorem State.answer_responds {u : State} (calm : u.Calm) (lost : u.clk.lostC = false) (q : CnpReq) (opc : Nat)
    (pay : Payload) (s : State) (r : BankRsp) (applied : Bool) (e : Cistern) (rm : Nat) :
    ∃ v, Accounts u v ∧ v.out = u.out ++ [.cnCred q.attach.toNat (reqFlits opc)] ∧ v.Calm
      ∧ (u.accepted q opc).answer (s.reqOp q opc pay) r applied e rm = v.responds q r := by
  obtain ⟨v, acc, out, eq⟩ := State.answer_cnp (u := u.accepted q opc) (s.reqOp q opc pay) r applied e rm rfl
  have books := (u.accepted_accounts q opc).trans acc
  have running : v.clk.lostC = false := by rw [books.rest]; exact lost
  exact ⟨v, books, out, calm.accounts books, by rw [eq, State.responds_eq running]⟩

/-- A request whose arrival operation takes its cistern's entry from `s` to `u` gives `u` and its answer. -/
theorem Serves.gives_arrival {s u : State} {q : CnpReq} {p n opc : Nat} {pay : Payload} {i : Instr} {r : BankRsp} {applied : Bool}
    (h : Serves s q p n) (command : exec i s = s.cnpGate i q opc pay) (arrives : opArrival opc = true)
    (calm : u.Calm) (lost : u.clk.lostC = false)
    (arrival : (s.accepted q opc).arrival p n q.index.toNat (s.entry n) (s.reqOp q opc pay) = ⟨u.accepted q opc, r, applied⟩) :
    ∃ v, Accounts u v ∧ v.out = u.out ++ [.cnCred q.attach.toNat (reqFlits opc)] ∧ exec i s = .next (v.responds q r) := by
  have held := h.toHoldsEntry.accepted q opc
  have space : (s.reqOp q opc pay).space = 0 := by simp [State.reqOp, h.space]
  obtain ⟨rm, answered⟩ := held.cisternOp (o := s.reqOp q opc pay) rfl arrives (by simp [State.reqOp])
  rw [show (s.accepted q opc).entry n = s.entry n from rfl, arrival] at answered
  obtain ⟨v, acc, out, vCalm, eq⟩ := State.answer_responds calm lost q opc pay s r applied (s.entry n) rm
  have run : (s.accepted q opc).run (s.reqOp q opc pay) = v.responds q r := by
    rw [State.run, if_pos space, held.runCistern space h.part rfl arrives, answered, eq]
  have after := vCalm.responds q r
  have issued : (s.accepted q opc).issue (s.reqOp q opc pay) = v.responds q r := by
    rw [State.issue_run (s := s.accepted q opc) h.ready.calm.hold (by simp [State.atUnit, space]) (run ▸ after.room.le)
      (run ▸ (State.bufBlocks_none after.snap _).trans_le (Nat.zero_le _)), run]
  have poll : opc ≠ Op.poll := by rintro rfl; exact absurd arrives (by decide)
  refine ⟨v, acc, out, ?_⟩
  rw [command, State.cnpGate_ready h.ready _ h.code, State.cnp_issue (reqBad_arrival h.rsv h.space arrives)
    (by rw [h.part]; rfl) (.inl h.space) (fun p' part _ => by
      rw [h.part, Option.some_inj] at part
      exact part ▸ h.window) (fun _ => poll), issued, State.settle_calm after]

/-! ## CREDIT_RETURN at its bank (R196, R200) -/

theorem State.arrival_creditReturn {s : State} {p n cnum : Nat} {e : Cistern} {o : BankOp} (opc : o.opc = Op.creditReturn)
    (gen : o.gen % 65536 = e.gen.toNat) (armed : e.status = stArmed) (credit : e.kind = kCredit) :
    s.arrival p n cnum e o = s.creditReturn p n cnum e (bits o.a.toNat 19 0) := by
  have passes : s.arrivalCheck p e o = none := by
    simp [State.arrivalCheck, armed, gen, kindTakes, opc, credit, stArmed, stFenced, kCredit, Op.creditReturn, Op.arrive,
      Op.arriveN, Op.postCount, Op.reduceInto]
  simp [State.arrival, passes, armed, opc, BankOp.n, stArmed, stIdle, Op.creditReturn, Op.arrive, Op.reduceInto]

theorem State.creditReturn_excess {s : State} {p n cnum k : Nat} {e : Cistern} (beyond : e.count.toNat < k) :
    s.creditReturn p n cnum e k = ⟨s.bump (R.hgPcredRxsCnt p) 1, e.rsp Res.excess, false⟩ :=
  if_pos beyond

/-- The entry after a return of `k` credits. -/
def Cistern.takeCount (e : Cistern) (k : Nat) : Cistern := { e with count := e.count - BitVec.ofNat 20 k }

theorem Cistern.takeCount_zero (e : Cistern) : e.takeCount 0 = e := by
  simp [Cistern.takeCount]

/-- The grant entry of a cistern owes `k` credits more, where there is one and it is ACTIVE (R200). -/
def State.oweFor (s : State) (p cnum k : Nat) : State :=
  match s.grantIdx p cnum with
  | some g => if (s.grant g).state = 1 then s.owe g k else s
  | none => s

theorem State.creditReturn_within {s : State} {p n cnum k : Nat} {e : Cistern} (armed : e.status = stArmed)
    (within : k ≤ e.count.toNat) :
    s.creditReturn p n cnum e k = ⟨(s.setEntry n (e.takeCount k)).oweFor p cnum k, (e.takeCount k).rsp Res.ok, true⟩ := by
  have notLate : ¬ (e.status = stLate ∨ e.status = stFault) := by rw [armed]; decide
  simp only [State.creditReturn, Nat.not_lt.2 within, notLate, eq_true armed, if_false, true_and]
  rfl

theorem State.owe_zero {s : State} (h : s.Calm) (g : Nat) : s.owe g 0 = s := by
  have small : (s.grant g).owed.toNat + 0 < 2 ^ 20 := (s.grant g).owed.isLt
  rw [State.owe, if_pos small, Nat.add_zero, BitVec.ofNat_toNat, BitVec.setWidth_eq]
  exact State.setGrant_grant h g

theorem State.oweFor_zero {s : State} (h : s.Calm) (p cnum : Nat) : s.oweFor p cnum 0 = s := by
  unfold State.oweFor
  split
  · rw [State.owe_zero h, ite_self]
  · rfl

theorem State.Calm.owe {s : State} (h : s.Calm) (g k : Nat) : (s.owe g k).Calm := by
  unfold State.owe
  dsimp only
  split
  · exact h.setGrant g _
  · exact h.nextFree.setGrant g _

theorem State.Calm.oweFor {s : State} (h : s.Calm) (p cnum k : Nat) : (s.oweFor p cnum k).Calm := by
  unfold State.oweFor
  split
  · split
    · exact h.owe _ k
    · exact h
  · exact h

theorem State.owe_clk (s : State) (g k : Nat) : (s.owe g k).clk = s.clk := by
  unfold State.owe
  dsimp only
  split <;> rfl

theorem State.oweFor_clk (s : State) (p cnum k : Nat) : (s.oweFor p cnum k).clk = s.clk := by
  unfold State.oweFor
  split
  · split
    · exact s.owe_clk _ k
    · rfl
  · rfl

theorem State.setEntry_clk {s : State} (h : s.Calm) (n : Nat) (e : Cistern) : (s.setEntry n e).clk = s.clk := by
  rw [State.setEntry_calm h]

theorem State.accepted_setEntry {s : State} (h : s.Calm) (q : CnpReq) (opc n : Nat) (e : Cistern) :
    (s.accepted q opc).setEntry n e = (s.setEntry n e).accepted q opc := by
  rw [State.setEntry_calm h, State.setEntry_calm (h.accounts (s.accepted_accounts q opc))]
  rfl

theorem State.accepted_owe (s : State) (q : CnpReq) (opc g k : Nat) :
    (s.accepted q opc).owe g k = (s.owe g k).accepted q opc := by
  unfold State.owe
  dsimp only
  rw [apply_ite (fun u : State => u.accepted q opc)]
  rfl

theorem State.accepted_oweFor (s : State) (q : CnpReq) (opc p cnum k : Nat) :
    (s.accepted q opc).oweFor p cnum k = (s.oweFor p cnum k).accepted q opc := by
  unfold State.oweFor
  rw [show (s.accepted q opc).grantIdx p cnum = s.grantIdx p cnum from rfl]
  cases s.grantIdx p cnum with
  | none => rfl
  | some g =>
    dsimp only
    rw [State.accepted_owe, apply_ite (fun u : State => u.accepted q opc)]
    rfl

/-! ## The request CREDIT_RETURN -/

/-- A CREDIT_RETURN that names an ARMED CREDIT cistern and its GEN comes to the bank's `State.creditReturn`. -/
theorem Serves.gives_creditReturn {s u : State} {q : CnpReq} {p n : Nat} {r : BankRsp} {applied : Bool} (h : Serves s q p n)
    (armed : (s.entry n).status = stArmed) (credit : (s.entry n).kind = kCredit) (gen : q.gen = (s.entry n).gen)
    (calm : u.Calm) (clk : u.clk = s.clk)
    (returns : (s.accepted q Op.creditReturn).creditReturn p n q.index.toNat (s.entry n) (bits q.a.toNat 19 0)
      = ⟨u.accepted q Op.creditReturn, r, applied⟩) :
    Gives s (.creditReturn q) q u r := by
  have sameGen : q.gen.toNat % 65536 = (s.entry n).gen.toNat := by rw [← gen, Nat.mod_eq_of_lt q.gen.isLt]
  exact h.gives_arrival (opc := Op.creditReturn) (pay := 0) rfl rfl calm (clk ▸ h.ready.lostC)
    ((State.arrival_creditReturn (by rfl) sameGen armed credit).trans returns)

theorem Serves.gives_creditReturn_within {s : State} {q : CnpReq} {p n k : Nat} (h : Serves s q p n)
    (armed : (s.entry n).status = stArmed) (credit : (s.entry n).kind = kCredit) (gen : q.gen = (s.entry n).gen)
    (operand : bits q.a.toNat 19 0 = k) (within : k ≤ (s.entry n).count.toNat) :
    Gives s (.creditReturn q) q ((s.setEntry n ((s.entry n).takeCount k)).oweFor p q.index.toNat k)
      (((s.entry n).takeCount k).rsp Res.ok) := by
  have calm := h.ready.calm
  refine h.gives_creditReturn (applied := true) armed credit gen ((calm.setEntry n _).oweFor p _ k) ?_ ?_
  · rw [State.oweFor_clk, State.setEntry_clk calm]
  · rw [operand, State.creditReturn_within armed within, State.accepted_setEntry calm, State.accepted_oweFor]

/-! ## The statement -/

theorem State.oweFor_none {s : State} {p cnum : Nat} (k : Nat) (absent : s.grantIdx p cnum = none) :
    s.oweFor p cnum k = s := by
  simp only [State.oweFor, absent]

/-- What a grant entry owes after a return; a sum above 20 bits is a free value (assumption 52). -/
theorem State.oweFor_some {s : State} {p cnum g : Nat} (k : Nat) (found : s.grantIdx p cnum = some g) :
    s.oweFor p cnum k =
      if (s.grant g).state ≠ 1 then s
      else if (s.grant g).owed.toNat + k < 2 ^ 20 then
        s.setGrant g { s.grant g with owed := (s.grant g).owed + BitVec.ofNat 20 k }
      else { s.setGrant g { s.grant g with owed := BitVec.ofNat 20 s.free } with freeCtr := s.freeCtr + 1 } := by
  simp only [State.oweFor, found, State.owe, BitVec.ofNat_add, BitVec.ofNat_toNat, BitVec.setWidth_eq, ne_eq, ite_not]
  rfl

/-- Settles O13: a return within COUNT writes the entry and what its grant owes; one of 0 writes back what was there; one beyond
COUNT moves the partition's counter alone. -/
theorem creditReturnIsAppliedOrExcess : Obligations.CreditReturnIsAppliedOrExcess := by
  intro s q p n h e k e' owes armed credit gen
  have calm := h.ready.calm
  refine ⟨fun within => ?_, fun zero => ?_, fun beyond => ?_⟩
  · have owed : owes (s.setEntry n e') = (s.setEntry n e').oweFor p q.index.toNat k := by
      have idx : (s.setEntry n e').grantIdx p q.index.toNat = s.grantIdx p q.index.toNat := by
        rw [State.setEntry_calm calm]
        rfl
      cases found : s.grantIdx p q.index.toNat with
      | none =>
        rw [State.oweFor_none k (idx.trans found)]
        simp only [owes, found]
      | some g =>
        rw [State.oweFor_some k (idx.trans found)]
        simp only [owes, found, State.setEntry_calm calm]
        rfl
    rw [owed]
    exact h.gives_creditReturn_within armed credit gen rfl within
  · have gives := h.gives_creditReturn_within armed credit gen zero (Nat.zero_le _)
    rwa [Cistern.takeCount_zero, State.setEntry_entry calm, State.oweFor_zero calm] at gives
  · exact h.gives_creditReturn armed credit gen (calm.bump _ 1) rfl (State.creditReturn_excess beyond)

end Sys2Proof.Machine
